-- ==== Sys2Proof/Word.lean ====
section
/-! DEFINITION. The words of the MT4212: bytes of the flash link and of the stored formats, and the 32-bit
figures that wrap (uptime, sequence numbers, the plan's generation). -/

namespace Sys2Proof

/-- A byte of the flash link, of the plan image or of a journal record. -/
abbrev Byte := BitVec 8

/-- A 32-bit word that software reads or that wraps modulo 2^32. -/
abbrev Word32 := BitVec 32

end Sys2Proof
end

