-- ==== Sys2Proof/Config.lean ====
section
/-! DEFINITION. What the spec fixes for the whole part, and the FREE VALUES: what the spec leaves open. A free
value is an opaque constant, so nothing can be proved of it but what holds for every value. -/

namespace Sys2Proof.Config

/-- The part's clock, in counts per microsecond (R63, R119: 96 MHz). -/
def countsPerUs : Nat := 96

/-- Clock counts in 0.1 ms, the unit of flash operation times and of the dip window timer (Conventions, R60). -/
def countsPerTenth : Nat := 9600

/-- Clock counts in a millisecond. -/
def countsPerMs : Nat := 96000

/-- One scan of the ADC: four conversions of 25 µs (R52). -/
def countsPerScan : Nat := 9600

/-- One conversion of the ADC (R52). -/
def countsPerConversion : Nat := 2400

/-- Records the journal queue holds (R167). -/
def queueSlots : Nat := 8

/-- Positions of the dip history (R94). -/
def historySlots : Nat := 16

/-- Data bytes the command buffer keeps (R124). -/
def bufferBytes : Nat := 256

/-- FREE VALUE: the order in which events that arrive together are taken when the block's own clock raises
them (R7, R8, R9, R29 and others: "either may be taken first"). Applied to the count of orders drawn so far. -/
opaque tieOrder : Nat → Nat

/-- FREE VALUE: the range start a FLASH_STUCK record carries for an operation without an affected range
(REG_WRITE): R135 and R191 name the field and give it no value. -/
opaque noRangeStart : Word32

/-- FREE VALUE: the bytes of a SURVIVAL record's fields that describe an item the record says is absent (the
current dip, the AT_RISK operation), by the byte's offset: R191 names the fields and gives them no value. -/
opaque absentByte : Nat → Byte

end Sys2Proof.Config
end

