-- ==== Sys2Proof/Syntax.lean ====
section
/-! DEFINITION. The commands of the MT4212: one constructor for each row of spec/opcode_table.json. The part is a
block, not a processor: a command is an event of one of its inputs, the expiry of one of its timers, the end of
one of its transactions, the taking of a computation by a block, or the beginning of a sequence step. -/

namespace Sys2Proof

/-- A raw level at an input pin (R57): its electrical level, and the count of the part's clock since which the pin has
held it without a break. A command written without one names a pin at the new level of an active-high input since count 0. -/
structure RawPin where
  high : Bool
  since : Nat
deriving DecidableEq, Repr

/-- What a cause of part reset is judged by (R56): the level of VSTBY in mV that the comparator sees, at a count of the part's
clock (a count already past stands for the present count); or the raw level of RESET_N, and the count since which the pin has
held it without a break, a count below 0 lying before the release of part reset. -/
inductive ResetInput
  | vstby (mv at_ : Nat)
  | resetN (high : Bool) (since : Int)
deriving DecidableEq, Repr

/-- The two request inputs (R36). -/
inductive Request
  | run
  | panel
deriving DecidableEq, Repr

/-- Which part of a U-link transaction a command stands for. `asserted` is the assertion of U_CSN, `opening` the eighth edge
of the opcode, with the assertion where that has not come before (for a cut transaction, the assertion alone), `closing`
the deassertion of U_CSN, and `whole` all of them with no other event between. -/
inductive Span
  | whole
  | asserted
  | opening
  | closing
deriving DecidableEq, Repr

/-- The commands, in the order of the table's rows. -/
inductive Instr
  /-- PART_RESET (R56): a cause of part reset arises: VSTBY stands at a level below the trip level, or RESET_N has been
  low for its filter time. -/
  | partReset (cause : ResetInput)
  /-- PART_RESET_RELEASE (R56): a cause of part reset ends: VSTBY stands at the release level or above, or RESET_N has
  been high for its filter time. Where neither cause then persists part reset is released; the straps
  PLANSEL1:PLANSEL0 and PLAN_UNLOCK and the level of DIM_IN are those of that moment. The cause that ends is, unless another
  is named, the VSTBY comparator's at the nominal 3.3 V. -/
  | partResetRelease (planSel : BitVec 2) (planUnlock : Bool) (dimIn : Bool) (ended : ResetInput := .vstby 3300 0)
  /-- OSC_WAIT_END (R178). -/
  | oscWaitEnd
  /-- FLASH_WAIT_STATUS_READ (R179): a status read of the load phase ends with this byte. -/
  | flashWaitStatusRead (status : Byte)
  /-- PLAN_HEADER_READ_END (R180): the bytes of the header transaction. -/
  | planHeaderReadEnd (bytes : List Byte)
  /-- PLAN_BODY_READ_END (R181): the bytes of the body transaction, and the level of VSTBY in mV that the supply
  comparator sees at that moment (R56, for a plan that is applied at once). -/
  | planBodyReadEnd (bytes : List Byte) (vstbyMv : Nat)
  /-- JOURNAL_SCAN_SECTOR_READ (R186): the bytes of the next sector of the ring, and VSTBY as above. -/
  | journalScanSectorRead (bytes : List Byte) (vstbyMv : Nat)
  /-- SCAN_COMPLETION (R52): the four raw codes of the scan. -/
  | scanCompletion (vbus vbulk ibus vstby : BitVec 12)
  /-- BOC_COMPUTATION (R100). -/
  | bocComputation
  /-- ADU_COMPUTATION (R157). -/
  | aduComputation
  /-- BUS_COLLAPSE (R111). -/
  | busCollapse
  /-- UPTIME_TICK (R62). -/
  | uptimeTick
  /-- DIP_ENTRY_STALE (R94): the entry of this position of the dip history. -/
  | dipEntryStale (pos : Fin 16)
  /-- FILTERED_PG_GOOD (R4, R7): the raw PG pin has held this level for the filter time. -/
  | filteredPgGood (ch : Fin 12) (pin : RawPin := ⟨true, 0⟩)
  /-- FILTERED_PG_NOT_GOOD (R4, R9): as above. -/
  | filteredPgNotGood (ch : Fin 12) (pin : RawPin := ⟨false, 0⟩)
  /-- RISE_TIMER_EXPIRY (R7). -/
  | riseTimerExpiry (ch : Fin 12)
  /-- SETTLE_TIMER_EXPIRY (R8). -/
  | settleTimerExpiry (ch : Fin 12)
  /-- FALL_TIMER_EXPIRY (R11). -/
  | fallTimerExpiry (ch : Fin 12)
  /-- AUX_CHANGE (R58): the raw AUX pin has held this level for the filter time. -/
  | auxChange (input : Fin 2) (pin : RawPin)
  /-- REQUEST_CHANGE (R36): the raw request pin has held this level for the filter time. -/
  | requestChange (request : Request) (pin : RawPin)
  /-- AC_OK_LOSS (R59): the raw AC_OK pin has held this level for the filter time. -/
  | acOkLoss (pin : RawPin := ⟨false, 0⟩)
  /-- AC_OK_RETURN (R59): as above. -/
  | acOkReturn (pin : RawPin := ⟨true, 0⟩)
  /-- RIDE_TIMER_EXPIRY (R101). -/
  | rideTimerExpiry
  /-- RESTORE_TIMER_EXPIRY (R104). -/
  | restoreTimerExpiry
  /-- MAINS_TIMER_EXPIRY (R116). -/
  | mainsTimerExpiry
  /-- RAIL_UP (R26): a step with its rail and wait choice. -/
  | railUp (rail : Fin 12) (wait : Bool)
  /-- RAIL_DOWN (R27). -/
  | railDown (rail : Fin 12) (wait : Bool)
  /-- DELAY (R28): a step with its duration in ms. -/
  | delay (ms : Nat)
  /-- DELAY_EXPIRY (R28). -/
  | delayExpiry
  /-- LINE (R30): a step with its control line and level. -/
  | line (ctl : Fin 6) (active : Bool)
  /-- LINE_PULSE (R31): a step with its control line and width in ms. -/
  | linePulse (ctl : Fin 6) (ms : Nat)
  /-- LINE_PULSE_EXPIRY (R31). -/
  | linePulseExpiry
  /-- DIM_LIMIT (R50): a step with its value in per-mille. -/
  | dimLimit (value : Nat)
  /-- AWAIT (R29): a step with its AUX input, level and timeout in ms. -/
  | await (input : Fin 2) (active : Bool) (ms : Nat)
  /-- AWAIT_TIMEOUT (R29). -/
  | awaitTimeout
  /-- FLASH_QUIESCE (R48). -/
  | flashQuiesce
  /-- FLASH_RESUME (R49). -/
  | flashResume
  /-- NOP (R25). -/
  | nop
  /-- DIM_IN_RISING_EDGE (R64): the edge falls at this count of the part's clock (a count already past stands
  for the present count). -/
  | dimInRisingEdge (at_ : Nat)
  /-- DIM_IN_FALLING_EDGE (R63). -/
  | dimInFallingEdge (at_ : Nat)
  /-- DIM_IN_STEADY (R65). -/
  | dimInSteady
  /-- DIM_OUT_HIGH_TIME_END (R67). -/
  | dimOutHighTimeEnd
  /-- RAMP_EXPIRY (R66). -/
  | rampExpiry
  /-- READ (R121): a U-link transaction with its opcode. -/
  | read (span : Span) (opcode : Byte)
  /-- STATUS_READ (R128). -/
  | statusRead (span : Span) (opcode : Byte)
  /-- WRITE_ENABLE (R121). -/
  | writeEnable (span : Span) (opcode : Byte)
  /-- WRITE_DISABLE (R121). -/
  | writeDisable (span : Span) (opcode : Byte)
  /-- OTHER_PASS (R121). -/
  | otherPass (span : Span) (opcode : Byte)
  /-- PROGRAM (R126): the whole bytes after the opcode, address bytes first. -/
  | program (span : Span) (opcode : Byte) (bytes : List Byte)
  /-- ERASE_SECTOR (R126). -/
  | eraseSector (span : Span) (opcode : Byte) (bytes : List Byte)
  /-- ERASE_BLOCK (R126). -/
  | eraseBlock (span : Span) (opcode : Byte) (bytes : List Byte)
  /-- ERASE_DEVICE (R126). -/
  | eraseDevice (span : Span) (opcode : Byte) (bytes : List Byte)
  /-- REG_WRITE (R126). -/
  | regWrite (span : Span) (opcode : Byte) (bytes : List Byte)
  /-- OTHER_BLOCK (R126). -/
  | otherBlock (span : Span) (opcode : Byte) (bytes : List Byte)
  /-- CUT_TRANSACTION (R123). -/
  | cutTransaction (span : Span)
  /-- HOLD_TIMER_EXPIRY (R159). -/
  | holdTimerExpiry
  /-- COMMAND_ISSUED (R131). -/
  | commandIssued
  /-- REFUSING_WRITE_DISABLE_END (R139). -/
  | refusingWriteDisableEnd
  /-- FLASH_POLL_START (R133). -/
  | flashPollStart
  /-- FLASH_POLL_COMPLETE (R133): the status byte of the poll. -/
  | flashPollComplete (status : Byte)
  /-- OVERRUN (R134). -/
  | overrun
  /-- FLASH_STUCK (R135). -/
  | flashStuck
deriving DecidableEq, Repr

end Sys2Proof
end

