-- ==== Sys2Proof/Machine/Plan.lean ====
section
/-! DEFINITION. The plan in force (R1, R24, R25, R32, R53 to R66, R75, R91, R119, R122, R133, R137, R143 to R147,
R156, R164), the built-in class table (chapter 11.3) and the built-in fallback plan (R182, R183). -/

namespace Sys2Proof.Machine

/-- The two power domains (R37). -/
inductive Domain | board | panel
deriving DecidableEq, Repr

/-- What a fault of a rail claims of the Sequence Engine (R1, R21). -/
inductive FaultAction | log | domainDown | trip
deriving DecidableEq, Repr

/-- A rail entry of the plan (R1). -/
structure RailEntry where
  present : Bool
  /-- four characters, copied as stored -/
  tag : List Byte
  domain : Domain
  /-- pg_mode TIMED (otherwise MONITORED) -/
  timed : Bool
  enActiveLow : Bool
  pgActiveLow : Bool
  pgFilter : Nat
  riseMs : Nat
  settle : Nat
  fallMs : Nat
  powerMw : Nat
  shedClass : Nat
  faultAction : FaultAction
deriving DecidableEq, Repr

/-- A control line entry of the plan (R32). -/
structure LineEntry where
  present : Bool
  activeLow : Bool
  initialActive : Bool
  mainReset : Bool
deriving DecidableEq, Repr

/-- The seven sequence slots (R24), in the order of the image. -/
inductive SlotName | boardUp | boardDown | panelUp | panelDown | panelSwift | boardSwift | trip
deriving DecidableEq, Repr

/-- The slot's place in the image and its code in records (chapter 11.2, R191). -/
def SlotName.code : SlotName → Fin 7
  | .boardUp => 0 | .boardDown => 1 | .panelUp => 2 | .panelDown => 3
  | .panelSwift => 4 | .boardSwift => 5 | .trip => 6

/-- BOARD_UP and PANEL_UP are the up sequences (R24). -/
def SlotName.isUp : SlotName → Bool
  | .boardUp | .panelUp => true
  | _ => false

/-- A slot's range of the step pool (R24). -/
structure SlotRange where
  start : Nat
  count : Nat
deriving DecidableEq, Repr

/-- The kinds of step, with their parameters (R25 to R31, R48 to R50). -/
inductive StepKind
  | nop
  | railUp (rail : Fin 12) (wait : Bool)
  | railDown (rail : Fin 12) (wait : Bool)
  | delay (ms : Nat)
  | line (ctl : Fin 6) (active : Bool)
  | linePulse (ctl : Fin 6) (ms : Nat)
  | dimLimit (value : Nat)
  | await (input : Fin 2) (active : Bool) (ms : Nat)
  | flashQuiesce
  | flashResume
deriving DecidableEq, Repr

/-- The kind code of the image and of a STEP_FAIL record (chapter 11.2). -/
def StepKind.code : StepKind → Nat
  | .nop => 0 | .railUp _ _ => 1 | .railDown _ _ => 2 | .delay _ => 3 | .line _ _ => 4 | .linePulse _ _ => 5
  | .dimLimit _ => 6 | .await _ _ _ => 7 | .flashQuiesce => 8 | .flashResume => 9

/-- The rail or AUX input a step names, for its STEP_FAIL record (R39). -/
def StepKind.target : StepKind → Nat
  | .railUp r _ | .railDown r _ => r.val
  | .await i _ _ => i.val
  | _ => 0

/-- The command that stands for the beginning of a step of this kind. -/
def StepKind.command : StepKind → Instr
  | .nop => .nop
  | .railUp r w => .railUp r w
  | .railDown r w => .railDown r w
  | .delay ms => .delay ms
  | .line l a => .line l a
  | .linePulse l ms => .linePulse l ms
  | .dimLimit v => .dimLimit v
  | .await i a ms => .await i a ms
  | .flashQuiesce => .flashQuiesce
  | .flashResume => .flashResume

/-- A step of the pool (R25); `abandon` is on_fail ABANDON. -/
structure Step where
  kind : StepKind
  abandon : Bool
deriving DecidableEq, Repr

/-- The step a position beyond the pool holds (R24). -/
def Step.noop : Step := ⟨.nop, false⟩

/-- The classes of a flash transaction (R122), in the order of their codes from 1. -/
inductive FlashClass
  | read | statusRead | writeEnable | writeDisable | otherPass
  | program | eraseSector | eraseBlock | eraseDevice | regWrite | otherBlock
deriving DecidableEq, Repr

/-- The class code of chapter 11.2. -/
def FlashClass.code : FlashClass → Nat
  | .read => 1 | .statusRead => 2 | .writeEnable => 3 | .writeDisable => 4 | .otherPass => 5 | .program => 6
  | .eraseSector => 7 | .eraseBlock => 8 | .eraseDevice => 9 | .regWrite => 10 | .otherBlock => 11

/-- The class a code names; code 0 and an unknown code are NONE (R122, R190). -/
def FlashClass.ofCode : Nat → Option FlashClass
  | 1 => some .read | 2 => some .statusRead | 3 => some .writeEnable | 4 => some .writeDisable
  | 5 => some .otherPass | 6 => some .program | 7 => some .eraseSector | 8 => some .eraseBlock
  | 9 => some .eraseDevice | 10 => some .regWrite | 11 => some .otherBlock
  | _ => none

/-- The buffered classes (R122). -/
def FlashClass.buffered : FlashClass → Bool
  | .program | .eraseSector | .eraseBlock | .eraseDevice | .regWrite | .otherBlock => true
  | .read | .statusRead | .writeEnable | .writeDisable | .otherPass => false

/-- The five classes of operation the flash can be asked to run (R75, R132). -/
inductive OpClass | program | eraseSector | eraseBlock | eraseDevice | regWrite
deriving DecidableEq, Repr

/-- The operation class of a buffered class; OTHER_BLOCK has none (R75). -/
def FlashClass.op : FlashClass → Option OpClass
  | .program => some .program | .eraseSector => some .eraseSector | .eraseBlock => some .eraseBlock
  | .eraseDevice => some .eraseDevice | .regWrite => some .regWrite
  | _ => none

/-- The flash class of an operation class. -/
def OpClass.cls : OpClass → FlashClass
  | .program => .program | .eraseSector => .eraseSector | .eraseBlock => .eraseBlock
  | .eraseDevice => .eraseDevice | .regWrite => .regWrite

/-- One of ERASE_* (R122). -/
def OpClass.isErase : OpClass → Bool
  | .eraseSector | .eraseBlock | .eraseDevice => true
  | .program | .regWrite => false

/-- One figure for each of the five operation classes. -/
structure PerOp where
  program : Nat
  eraseSector : Nat
  eraseBlock : Nat
  eraseDevice : Nat
  regWrite : Nat
deriving DecidableEq, Repr

/-- The figure of one class. -/
def PerOp.at (p : PerOp) : OpClass → Nat
  | .program => p.program | .eraseSector => p.eraseSector | .eraseBlock => p.eraseBlock
  | .eraseDevice => p.eraseDevice | .regWrite => p.regWrite

/-- An entry of the class table (R122); `cls` is none for an unused entry. -/
structure ClassEntry where
  opcode : Byte
  mask : Byte
  cls : Option FlashClass
  addrBytes : Nat
  addrLanes : Nat
  dataLanes : Nat
deriving DecidableEq, Repr

/-- The five policies (R143). -/
inductive Policy | free | guarded | deferred | locked | reserved
deriving DecidableEq, Repr

/-- The policy code of chapter 11.2. -/
def Policy.code : Policy → Nat
  | .free => 1 | .guarded => 2 | .deferred => 3 | .locked => 4 | .reserved => 5

/-- The policy a code names; 0 and an unknown code are NONE (R146). -/
def Policy.ofCode : Nat → Option Policy
  | 1 => some .free | 2 => some .guarded | 3 => some .deferred | 4 => some .locked | 5 => some .reserved
  | _ => none

/-- The rank of a policy, 1 the most restrictive (R143). -/
def Policy.rank : Policy → Nat
  | .locked => 1 | .reserved => 2 | .deferred => 3 | .guarded => 4 | .free => 5

/-- An entry of the window table (R146); `policy` is none for an unused entry. -/
structure Window where
  base : Nat
  sizeLog : Nat
  policy : Option Policy
deriving DecidableEq, Repr

/-- Polarity and filter code of an input (R58, R59). -/
structure InputEntry where
  filter : Nat
  activeLow : Bool
deriving DecidableEq, Repr

/-- The marks of the alert mask (R164, R177). -/
structure AlertMask where
  notNormal : Bool
  railFault : Bool
  parked : Bool
  lockout : Bool
  queue : Bool
deriving DecidableEq, Repr

/-- The plan: every figure the blocks take from it, after clamping, and the two derived descent times (R51). -/
structure Plan where
  lockFlag : Bool
  unknownClass : FlashClass
  defaultPolicy : Policy
  regWritePolicy : Policy
  /-- 0 to 7, or 8 for none (R140) -/
  failBit : Nat
  scaleVbus : Nat
  scaleVbulk : Nat
  scaleIbus : Nat
  trimVbus : Int
  trimVbulk : Int
  trimIbus : Int
  trimVstby : Int
  busFloorMv : Nat
  supplyLevel : Nat
  acOk : InputEntry
  aux0 : InputEntry
  aux1 : InputEntry
  cap1 : Nat
  cap2 : Nat
  ramp : Nat
  rails : Vector RailEntry 12
  lines : Vector LineEntry 6
  slots : Vector SlotRange 7
  pool : List Step
  classes : List ClassEntry
  windows : List Window
  capUf : Nat
  dropoutV : Nat
  eff : Nat
  margin : Nat
  recordCost : Nat
  baseMw : Nat
  flashActiveMw : Nat
  blFullMw : Nat
  s1 : Nat
  s2 : Nat
  s3 : Nat
  rideLimitMs : Nat
  restoreDelayMs : Nat
  restoreStepMs : Nat
  rearmDelayMs : Nat
  stormWindowMs : Nat
  stormCount : Nat
  autoResume : Bool
  div : Nat
  pollUs : Nat
  pageLog : Nat
  sectorLog : Nat
  blockLog : Nat
  holdLimitMs : Nat
  typTime : PerOp
  maxTime : PerOp
  journalBase : Nat
  sectorCount : Nat
  piggybackLimit : Nat
  alert : AlertMask
  tPanelSwift : Nat
  tBoardSwift : Nat
deriving DecidableEq, Repr

/-- The built-in class table (chapter 11.3). -/
def builtinClasses : List ClassEntry :=
  [⟨0x03, 0xFF, some .read, 3, 1, 1⟩, ⟨0x0B, 0xFF, some .read, 3, 1, 1⟩,
   ⟨0x3B, 0xFF, some .read, 3, 1, 2⟩, ⟨0x6B, 0xFF, some .read, 3, 1, 4⟩,
   ⟨0x05, 0xFF, some .statusRead, 0, 1, 1⟩, ⟨0x06, 0xFF, some .writeEnable, 0, 1, 1⟩,
   ⟨0x04, 0xFF, some .writeDisable, 0, 1, 1⟩, ⟨0x02, 0xFF, some .program, 3, 1, 1⟩,
   ⟨0x32, 0xFF, some .program, 3, 1, 4⟩, ⟨0x20, 0xFF, some .eraseSector, 3, 1, 1⟩,
   ⟨0xD8, 0xFF, some .eraseBlock, 3, 1, 1⟩, ⟨0xC7, 0xFF, some .eraseDevice, 0, 1, 1⟩,
   ⟨0x60, 0xFF, some .eraseDevice, 0, 1, 1⟩, ⟨0x01, 0xFF, some .regWrite, 0, 1, 1⟩,
   ⟨0x9F, 0xFF, some .read, 0, 1, 1⟩, ⟨0x00, 0xFF, none, 0, 1, 1⟩]

/-- A present rail of the fallback plan (R182); `n` is the digit of its tag RL0n. -/
def fallbackRail (n : Nat) : RailEntry :=
  { present := true, tag := [0x52, 0x4C, 0x30, BitVec.ofNat 8 (0x30 + n)], domain := .board, timed := true,
    enActiveLow := false, pgActiveLow := false, pgFilter := 0, riseMs := 20, settle := 0, fallMs := 20,
    powerMw := 0, shedClass := 0, faultAction := .log }

/-- An absent rail of the fallback plan. R182 gives it no en_polarity: ACTIVE_HIGH, as its present rails have
(notes/assumptions/51.md). -/
def absentRail : RailEntry :=
  { present := false, tag := [0, 0, 0, 0], domain := .board, timed := false, enActiveLow := false,
    pgActiveLow := false, pgFilter := 0, riseMs := 1, settle := 0, fallMs := 1, powerMw := 0, shedClass := 0,
    faultAction := .log }

/-- An absent control line. -/
def absentLine : LineEntry := ⟨false, false, false, false⟩

/-- An unused window. -/
def unusedWindow : Window := ⟨0, 12, none⟩

/-- The fallback step pool (R183): every step has on_fail ABANDON, and positions 15 to 127 are NOP. -/
def fallbackPool : List Step :=
  ([.railUp 0 true, .railUp 1 true, .railUp 2 true, .railUp 3 true, .delay 10, .line 0 false,
    .line 0 true, .railDown 3 true, .railDown 2 true, .railDown 1 true, .railDown 0 true,
    .railDown 3 false, .railDown 2 false, .railDown 1 false, .railDown 0 false].map fun k => ⟨k, true⟩)
  ++ List.replicate 113 ⟨.nop, true⟩

/-- The fallback plan (R182, R183). -/
def fallbackPlan : Plan :=
  { lockFlag := false
    unknownClass := .otherPass
    defaultPolicy := .guarded
    regWritePolicy := .guarded
    failBit := 8
    scaleVbus := 33000, scaleVbulk := 511, scaleIbus := 32767
    trimVbus := 0, trimVbulk := 0, trimIbus := 0, trimVstby := 0
    busFloorMv := 0
    supplyLevel := 3
    acOk := ⟨2, false⟩, aux0 := ⟨0, false⟩, aux1 := ⟨0, false⟩
    cap1 := 1000, cap2 := 1000, ramp := 1000
    rails := Vector.ofFn fun i => if i.val < 4 then fallbackRail i.val else absentRail
    lines := Vector.ofFn fun i => if i.val = 0 then ⟨true, true, true, true⟩ else absentLine
    slots := #v[⟨0, 6⟩, ⟨6, 5⟩, ⟨0, 0⟩, ⟨0, 0⟩, ⟨0, 0⟩, ⟨6, 5⟩, ⟨11, 4⟩]
    pool := fallbackPool
    classes := builtinClasses
    windows := List.replicate 8 unusedWindow
    capUf := 10, dropoutV := 50, eff := 1000, margin := 0, recordCost := 0, baseMw := 0, flashActiveMw := 0
    blFullMw := 0
    s1 := 0, s2 := 0, s3 := 0
    rideLimitMs := 0, restoreDelayMs := 0, restoreStepMs := 1, rearmDelayMs := 100, stormWindowMs := 1000
    stormCount := 16, autoResume := false
    div := 3, pollUs := 100, pageLog := 8, sectorLog := 12, blockLog := 16, holdLimitMs := 1000
    typTime := ⟨7, 500, 2000, 300000, 50⟩
    maxTime := ⟨30, 4000, 20000, 1000000, 150⟩
    journalBase := 0, sectorCount := 0, piggybackLimit := 1
    alert := ⟨true, true, true, true, true⟩
    tPanelSwift := 0, tBoardSwift := 80 }

end Sys2Proof.Machine
end

