-- ==== Sys2Proof/Machine/State.lean ====
section
/-! DEFINITION. The state of the MT4212: one structure for each block of the spec's block diagram (00_scope.md),
the part's clock, and the queue of commands that wait. A timer is `none` while STOPPED and `some t` while RUNNING,
`t` being the count of the part's clock at which it expires. -/

namespace Sys2Proof.Machine

/-- A timer: STOPPED, or RUNNING with its expiry time. -/
abbrev Timer := Option Nat

/-! ### Rail Channel Array -/

/-- The rail states (R3), in the order of their codes (R191). -/
inductive RailState | off | rising | settling | on | falling | fault
deriving DecidableEq, Repr

/-- The fault kinds (R20), in the order of their codes (R191). -/
inductive FaultKind | riseTimeout | unstable | dropout | stuckOn
deriving DecidableEq, Repr

/-- An order of the Sequence Engine (section 1.5). -/
inductive Order | enable | disable
deriving DecidableEq, Repr

/-- The answers a channel gives an order (R13, R14). -/
inductive Answer | done | failed | deferred
deriving DecidableEq, Repr

/-- A rail channel (R3), with the order pending at it (section 1.5). -/
structure Channel where
  state : RailState
  want : Bool
  shed : Bool
  faultKind : Option FaultKind
  prior : Option RailState
  rise : Timer
  settle : Timer
  fall : Timer
  /-- the filtered PG: good or not-good -/
  pgGood : Bool
  /-- the order not yet answered -/
  order : Option Order
deriving DecidableEq, Repr

/-- A channel after part reset and at plan application (R3). -/
def Channel.reset : Channel := ⟨.off, false, false, none, none, none, none, none, false, none⟩

/-! ### Sequence Engine -/

/-- The engine states (R40). -/
inductive EngineMode | idle | running | suspended
deriving DecidableEq, Repr

/-- The states of a domain (R37). -/
inductive DomainState | down | goingUp | up | goingDown
deriving DecidableEq, Repr

/-- Where a TRIP claim came from (R43). -/
inductive ClaimOrigin | rail | boc
deriving DecidableEq, Repr

/-- How far the engine is with the step at the step index. -/
inductive StepStatus
  /-- no sequence runs -/
  | idle
  /-- the step is to begin: the engine stands at the boundary before it (R42) -/
  | ready
  /-- the beginning of BOARD_UP waits for quiet (R35; notes/assumptions/64.md) -/
  | beginWait
  /-- a LINE or LINE_PULSE step waits for quiet (R35) -/
  | lineWait
  /-- a RAIL_UP or RAIL_DOWN step waits for its channel's answer (R26, R27) -/
  | railWait (ch : Fin 12)
  /-- a DELAY step runs to this time (R28) -/
  | delaying (due : Nat)
  /-- a LINE_PULSE step holds its line active to this time (R31) -/
  | pulsing (ctl : Fin 6) (due : Nat)
  /-- an AWAIT step waits for a level of an AUX input to this time (R29) -/
  | awaiting (input : Fin 2) (active : Bool) (due : Nat)
  /-- a FLASH_QUIESCE step waits for the link to be free (R48) -/
  | linkWait
deriving DecidableEq, Repr

/-- The Sequence Engine (R32, R35, R37, R38, R40). -/
structure Engine where
  mode : EngineMode
  slot : Option SlotName
  index : Nat
  step : StepStatus
  trip : Option ClaimOrigin
  /-- the descent claim stands -/
  descent : Bool
  /-- pending fault claims -/
  claimBoard : Bool
  claimPanel : Bool
  board : DomainState
  panel : DomainState
  boardLock : Bool
  panelLock : Bool
  quiesceHold : Bool
  quietHold : Bool
  /-- the sequence cap, in per-mille -/
  cap : Nat
  /-- the driven level of each control line: active or not -/
  lines : Vector Bool 6
deriving DecidableEq, Repr

/-- The engine after part reset (R40). -/
def Engine.reset : Engine :=
  { mode := .idle, slot := none, index := 0, step := .idle, trip := none, descent := false, claimBoard := false,
    claimPanel := false, board := .down, panel := .down, boardLock := false, panelLock := false,
    quiesceHold := false, quietHold := false, cap := 0, lines := Vector.replicate 6 false }

/-! ### Measurement Unit -/

/-- The states of the DIM_IN measurement (R63). -/
inductive DimState | waiting | periodic | steadyLow | steadyHigh
deriving DecidableEq, Repr

/-- The DIM_IN measurement (R63). -/
structure DimIn where
  state : DimState
  /-- the level of the pin -/
  high : Bool
  /-- the last edge, or the release of part reset -/
  lastEdge : Nat
  /-- the last period start kept -/
  start : Option Nat
  /-- the falling edge since that period start -/
  fall : Option Nat
  /-- the last measured period, in clock counts -/
  period : Option Nat
  /-- the last measured duty, in per-mille -/
  duty : Nat
deriving DecidableEq, Repr

/-- The history of the input filters (R57): for each, the count of the clock before which a raw level other than the
filtered one has no bearing, which is the start of the filter or its last change. The filter of RESET_N runs always, so
its count may lie before the release of part reset, below 0. -/
structure Filters where
  pg : Vector Nat 12
  aux : Vector Nat 2
  acOk : Nat
  runReq : Nat
  panelReq : Nat
  resetN : Int
deriving DecidableEq, Repr

/-- Filters that start with the clock. -/
def Filters.reset : Filters := ⟨Vector.replicate 12 0, Vector.replicate 2 0, 0, 0, 0, 0⟩

/-- The Measurement Unit (R52 to R63), with the events it has delivered that are not yet taken. -/
structure Sense where
  uptime : Word32
  /-- the end of the present millisecond -/
  msDue : Nat
  /-- the completion of the present scan -/
  scanDue : Nat
  /-- trimmed IBUS codes, oldest first (R55) -/
  ibusRing : List Nat
  vbusMv : Option Nat
  vbulkV : Option Nat
  ibusMa : Option Nat
  vstbyMv : Nat
  /-- the VSTBY comparator is in SUPPLY_LOW (R56) -/
  supplyLow : Bool
  /-- the level code the VSTBY comparator uses (R56) -/
  supplyCode : Nat
  /-- the filtered RESET_N is low (R56) -/
  resetNLow : Bool
  acOk : Bool
  aux : Vector Bool 2
  runReq : Bool
  panelReq : Bool
  filters : Filters
  /-- the dip window timer: the loss it counts from while RUNNING, and the count it holds while STOPPED (R60) -/
  dipSince : Option Nat
  dipHeld : Nat
  /-- the bus-floor check: BELOW, and its count of contrary scans (R61) -/
  busBelow : Bool
  busCount : Nat
  dim : DimIn
  /-- a bus collapse event is delivered and not yet taken (R61) -/
  collapse : Bool
  /-- a computation is offered to the Brown-Out Controller and not yet taken (R88) -/
  bocOffer : Bool
  /-- a computation is offered to the Admission Unit and not yet taken (R88) -/
  aduOffer : Bool
deriving DecidableEq, Repr

/-- The Measurement Unit while part reset is held; the part's supply has just come up (R56). -/
def Sense.reset : Sense :=
  { uptime := 0, msDue := Config.countsPerMs, scanDue := Config.countsPerScan, ibusRing := [], vbusMv := none,
    vbulkV := none, ibusMa := none, vstbyMv := 0, supplyLow := true, supplyCode := 3, resetNLow := false, acOk := false,
    aux := Vector.replicate 2 false, runReq := false, panelReq := false, filters := Filters.reset, dipSince := none,
    dipHeld := 0, busBelow := false, busCount := 0,
    dim := { state := .waiting, high := false, lastEdge := 0, start := none, fall := none, period := none,
             duty := 0 },
    collapse := false, bocOffer := false, aduOffer := false }

/-! ### Dimming Path -/

/-- The Dimming Path (R66 to R70). -/
structure Dimming where
  /-- the applied cap, in per-mille -/
  applied : Nat
  ramp : Timer
  /-- the duty in force, in per-mille -/
  duty : Nat
  /-- the level of DIM_OUT -/
  outHigh : Bool
  /-- the end of the high time of the period in progress, while one runs -/
  highEnd : Timer
deriving DecidableEq, Repr

/-- The Dimming Path after part reset (R70). -/
def Dimming.reset : Dimming := ⟨0, none, 0, false, none⟩

/-! ### Holdup Budget Unit -/

/-- The results of a computation (R72). -/
structure Budget where
  eSt : Nat
  eUs : Nat
  pMeas : Nat
  pModel : Nat
  pLoad : Nat
  tDesc : Nat
  dCost : Nat
  fCost : Nat
  eCm : Nat
  reserve : Int
  flashFree : Int
  deadline : Bool
  tDd : Nat
  aCost : PerOp
deriving DecidableEq, Repr

/-! ### Brown-Out Controller -/

/-- The states of the controller, in the order of their codes (R92, R191). -/
inductive BocState | init | normal | dip | recover | commit | descent | dark
deriving DecidableEq, Repr

/-- The commit reasons, in the order of their codes (R108, R191). -/
inductive CommitReason | none | storm | reserve | rideLimit | dropout | busCollapse
deriving DecidableEq, Repr

/-- An entry of the dip history (R94). -/
structure DipEntry where
  start : Word32
  duration : Nat
  peakShed : Nat
  minReserve : Int
  stale : Bool
deriving DecidableEq, Repr

/-- The current dip (R98). -/
structure Dip where
  start : Word32
  peakShed : Nat
  minReserve : Int
deriving DecidableEq, Repr

/-- What the controller keeps of the last computation it took (R92). -/
structure BocBudget where
  reserve : Int
  eUs : Nat
  tDd : Nat
  deadline : Bool
deriving DecidableEq, Repr

/-- The commit notes (R108). -/
structure CommitNotes where
  uptime : Word32
  reserve : Int
  eUs : Nat
  tDd : Nat
deriving DecidableEq, Repr

/-- The origin of an operation (R132). -/
inductive Origin | requested | internal
deriving DecidableEq, Repr

/-- The SURVIVAL work as the controller sees it (R92). -/
inductive SurvivalWork | notBegun | underWay | ended
deriving DecidableEq, Repr

/-- The Brown-Out Controller (R92). The descent claim it places is `Engine.descent`. -/
structure BrownOut where
  state : BocState
  shedLevel : Nat
  mains : Timer
  /-- the mains timer has expired without a loss since, and what it was for has not yet taken place (R96, R116) -/
  mainsMet : Bool
  ride : Timer
  restore : Timer
  /-- newest first; a position beyond the list is EMPTY -/
  history : List DipEntry
  dip : Option Dip
  stormFound : Nat
  heldBoard : Bool
  heldPanel : Bool
  reason : CommitReason
  notes : Option CommitNotes
  atRisk : Option (OpClass × Origin)
  acReturned : Bool
  latest : Option BocBudget
  survival : SurvivalWork
deriving DecidableEq, Repr

/-- The controller after part reset and at plan application (R92). -/
def BrownOut.reset : BrownOut :=
  { state := .init, shedLevel := 0, mains := none, mainsMet := false, ride := none, restore := none,
    history := [], dip := none, stormFound := 0, heldBoard := false, heldPanel := false, reason := .none,
    notes := none, atRisk := none, acReturned := false, latest := none, survival := .notBegun }

/-! ### Flash Link Bridge and Admission Unit -/

/-- The link modes (R121). -/
inductive LinkMode | relay | tenure | ignore
deriving DecidableEq, Repr

/-- The affected range of an operation (R148): a span, the whole flash, or none. -/
inductive Range
  | none
  | span (start len : Nat)
  | device
deriving DecidableEq, Repr

/-- What decided the effective policy (R149). -/
inductive Source
  | none | planRegion | journalRegion | default | regWritePolicy
  | window (index : Nat)
deriving DecidableEq, Repr

/-- A buffered command (R124), with what the Admission Unit found for it (R148, R149). -/
structure Command where
  opcode : Byte
  cls : FlashClass
  addrBytes : Nat
  addrLanes : Nat
  dataLanes : Nat
  address : Nat
  data : List Byte
  clocked : Nat
  /-- the uptime at which the intake began -/
  begun : Word32
  range : Range
  /-- the effective policy; none for OTHER_BLOCK -/
  policy : Option Policy
  source : Source
deriving DecidableEq, Repr

/-- The transaction in progress on the U-link: how the bridge deals with it (R121, R124, R128, R129, R140). -/
inductive Xfer
  /-- U_CSN is asserted and the eighth bit has not come (R123); whether the switch was closed at the assertion -/
  | selected (passed : Bool)
  | relayed (opcode : Byte)
  /-- the intake: the class and the uptime at which it began -/
  | intake (opcode : Byte) (cls : FlashClass) (begun : Word32)
  | failAnswer (opcode : Byte)
  | localAnswer (opcode : Byte)
  | violation (opcode : Byte)
  | ignored (opcode : Byte)
deriving DecidableEq, Repr

/-- What the part drives on U_IO0 to U_IO3 in the present or latest U-link transaction. -/
inductive UOut
  | undriven
  /-- the flash's own lanes, through the closed switch -/
  | relayed
  /-- a status byte, repeated, on this number of lanes -/
  | status (b : Byte) (lanes : Nat)
  /-- 1 on each of the data lanes of a class entry, from the end of its address bytes (R129) -/
  | allOnes (addrBytes addrLanes dataLanes : Nat)
deriving DecidableEq, Repr

/-- The owner of a tenure (R127). -/
inductive Owner | requested | internal
deriving DecidableEq, Repr

/-- The phases of a tenure, in the order of their codes (R127, R191). -/
inductive Phase | deciding | parked | issuing | operating | appending | refusing
deriving DecidableEq, Repr

/-- A tenure (R127), with its appending allowance. -/
structure Tenure where
  owner : Owner
  command : Option Command
  phase : Phase
  programsLeft : Nat
  eraseLeft : Bool
deriving DecidableEq, Repr

/-- A command the bridge is sending on the D-link (R131): its opcode, address bytes, data bytes and lanes. -/
structure Issue where
  op : OpClass
  origin : Origin
  range : Range
  opcode : Byte
  addrBytes : Nat
  addrLanes : Nat
  dataLanes : Nat
  address : Nat
  data : List Byte
  /-- the admission uptime -/
  admitted : Word32
deriving DecidableEq, Repr

/-- The in-flight record (R132) in its state ISSUED. At COMPLETE and at FLASH_STUCK it is discarded (R136), so no
state between two commands shows it in either. -/
structure InFlight where
  op : OpClass
  origin : Origin
  range : Range
  admitted : Word32
  typ : Nat
  max : Nat
  /-- the count of the clock at its creation, from which its elapsed time counts -/
  created : Nat
  overrun : Bool
  atRisk : Bool
deriving DecidableEq, Repr

/-- The D-link poll: none, begun for the operation in flight, or begun before that operation ended (R133, R135). -/
inductive Poll | idle | live | stale
deriving DecidableEq, Repr

/-- The Flash Link Bridge (R120). The relay switch is `relayClosed`, a view of this state. -/
structure Bridge where
  mode : LinkMode
  /-- U_CSN is asserted, and the transaction it began -/
  xfer : Option Xfer
  uOut : UOut
  tenure : Option Tenure
  issue : Option Issue
  /-- the end of the D-link transactions of ISSUING or REFUSING, were nothing to delay them -/
  dlinkDue : Timer
  inflight : Option InFlight
  poll : Poll
  nextPoll : Timer
  /-- an internal operation the Journal Unit offers that the bridge has not yet taken (R138) -/
  offer : Option Issue
  failReport : Option (Fin 8)
  /-- the refusal in REFUSING was taken from the parked slot with the MAIN_RESET line active: it gives no fail report (R162) -/
  reportless : Bool
  /-- in IGNORE, the MAIN_RESET line went inactive with an internal operation being issued or in flight: no further one is
  taken before the mode is RELAY (R142) -/
  barred : Bool
  lastStatus : Byte
deriving DecidableEq, Repr

/-- The bridge after part reset (R120). -/
def Bridge.reset : Bridge :=
  { mode := .ignore, xfer := none, uOut := .undriven, tenure := none, issue := none, dlinkDue := none,
    inflight := none, poll := .idle, nextPoll := none, offer := none, failReport := none, reportless := false,
    barred := false, lastStatus := 0 }

/-- The parked slot's command and its park uptime (R156). -/
structure Parked where
  command : Command
  since : Word32
deriving DecidableEq, Repr

/-- What the Admission Unit keeps of the last computation it took (R150). -/
structure AduBudget where
  reserve : Int
  aCost : PerOp
deriving DecidableEq, Repr

/-- The Admission Unit (R150). The BOC state and the quiesce hold it holds are those of their owners, who deliver
each change as it happens (R151); regions, windows and geometry are those of the plan. -/
structure Admission where
  parked : Option Parked
  hold : Timer
  latest : Option AduBudget
deriving DecidableEq, Repr

/-- The Admission Unit after part reset (R150). -/
def Admission.reset : Admission := ⟨none, none, none⟩

/-! ### Journal Unit -/

/-- The source of the plan (R178). -/
inductive PlanSource | flash | fallback
deriving DecidableEq, Repr

/-- The reasons of a refusal, in the order of their codes (R153, R159, R191). -/
inductive RefusalReason | blocked | locked | reserved | commit | quiesced | holdExpired
deriving DecidableEq, Repr

/-- The cause of a STEP_FAIL record (R39). -/
inductive FailCause
  | fault (kind : FaultKind)
  | timeout
deriving DecidableEq, Repr

/-- The fields of a record between header and trailer (R21, R39, R94, R103, R114, R125, R129, R135, R163, R175,
R188). -/
inductive RecordBody
  | plan (source : PlanSource) (generation : Word32) (clamps : Nat) (first : Option Nat) (strap : BitVec 2)
      (unlockHeld locked busy : Bool) (vstbyMv : Nat)
  | railFault (ch : Fin 12) (tag : List Byte) (kind : FaultKind) (prior : RailState) (slot : Option SlotName)
      (index : Nat)
  | stepFail (slot : SlotName) (index kindCode target : Nat) (cause : FailCause) (abandoned : Bool)
  | dip (start : Word32) (duration peakShed : Nat) (minReserve : Int)
  | refusal (reason : RefusalReason) (command : Command) (parked : Bool) (parkedMs : Nat)
      (budget : Option AduBudget)
  | clipped (command : Command)
  | linkViolation (opcode : Byte) (cls : FlashClass) (owner : Owner) (phase : Phase) (op : Option OpClass)
  | flashStuck (record : InFlight) (byJournal : Bool) (elapsed : Nat) (lastStatus : Byte)
  | survival (reason : CommitReason) (notes : CommitNotes) (acReturned acOk : Bool) (stormFound : Nat)
      (dip : Option Dip) (dipCount : Nat) (dipRunning : Bool) (atRisk : Option (OpClass × Origin)) (vstbyMv : Nat)
      (queued wait : Nat) (history : List DipEntry)
  | pad
deriving DecidableEq, Repr

/-- A record: its fields, and the header's BOC state and uptime (R165). -/
structure Record where
  body : RecordBody
  boc : BocState
  uptime : Word32
deriving DecidableEq, Repr

/-- The next sequence, the write position and the room, which the start-up scan finds and the writes move (R168, R174). -/
structure Ring where
  nextSeq : Word32
  sector : Nat
  slot : Nat
  room : Nat
deriving DecidableEq, Repr

/-- What the internal operation under way is for (R169, R170, R176). A SURVIVAL record whose slots lie in two
pages leaves its second operation for the end of the first. -/
inductive WorkKind
  | record
  | eraseAhead
  | pad
  | survival (second : Option Issue)
deriving DecidableEq, Repr

/-- The work under way (R168), and whether it was handed while the upstream side was quiet (R35). -/
structure Work where
  kind : WorkKind
  whileQuiet : Bool
deriving DecidableEq, Repr

/-- The SURVIVAL record and how far its work is (R175, R176). -/
inductive SurvivalStage
  | none
  /-- the record waits; the wait counts from this count of the clock -/
  | waiting (record : Record) (since : Nat)
  /-- the wait has ended with space for the record, which is handed once the unit's own work under way has ended -/
  | ready (record : Record)
  /-- the PAD record before it is being written -/
  | padding (record : Record)
  /-- the record itself is being written -/
  | writing
deriving DecidableEq, Repr

/-- The Journal Unit (R168). -/
structure Journal where
  queue : List Record
  lost : Nat
  /-- none before the scan, and with no journal -/
  ring : Option Ring
  /-- the next-sector mark is ERASED; otherwise it is UNKNOWN -/
  nextErased : Bool
  work : Option Work
  survival : SurvivalStage
deriving DecidableEq, Repr

/-- The Journal Unit after part reset (R168). -/
def Journal.reset : Journal := ⟨[], 0, none, false, none, .none⟩

/-! ### Plan Loader -/

/-- The load phases (R178). -/
inductive LoadPhase | oscWait | flashWait | read | check | prepare | scan | applied
deriving DecidableEq, Repr

/-- The class the start-up scan gives a slot (R173). -/
inductive SlotClass
  | erased
  | used
  /-- a valid record begins here: its sequence and its number of slots -/
  | begins (seq : Word32) (slots : Nat)
  /-- the second slot of a valid SURVIVAL record -/
  | continues
deriving DecidableEq, Repr

/-- The Plan Loader (R178); `phase` is none while part reset is held. -/
structure Loader where
  phase : Option LoadPhase
  source : Option PlanSource
  generation : Word32
  clamps : Nat
  firstClamped : Option Nat
  busyAtLoad : Bool
  strap : BitVec 2
  /-- PLAN_UNLOCK was held at the release -/
  unlockHeld : Bool
  /-- when the next status read of FLASH_WAIT begins, and when the first one began -/
  statusDue : Nat
  firstStatus : Option Nat
  /-- the bytes of the image read so far -/
  image : List Byte
  /-- the classes of the slots of the sectors scanned so far, sector 0 first -/
  scanned : List (List SlotClass)
  /-- the count of the clock at plan application -/
  appliedAt : Nat
deriving DecidableEq, Repr

/-- The loader while part reset is held. -/
def Loader.reset : Loader :=
  { phase := none, source := none, generation := 0, clamps := 0, firstClamped := none, busyAtLoad := false,
    strap := 0, unlockHeld := false, statusDue := 0, firstStatus := none, image := [], scanned := [],
    appliedAt := 0 }

/-! ### The whole part -/

/-- The state of the MT4212. `clock` counts the part's 96 MHz clock from the release of part reset; `plan` is the
plan in force once the load phase is APPLIED, and before that the built-in plan or the plan being prepared. -/
structure State where
  clock : Nat
  load : Loader
  plan : Plan
  rails : Vector Channel 12
  eng : Engine
  sense : Sense
  dpt : Dimming
  hbu : Option Budget
  boc : BrownOut
  flb : Bridge
  adu : Admission
  jnu : Journal
  /-- MODEL FIELD: how many orders of events that arrive together have been drawn (`Config.tieOrder`) -/
  draws : Nat
  /-- the commands that wait, the first to be taken first -/
  pending : List Instr
deriving DecidableEq, Repr

/-- Why a step stops with a fault. The spec gives every command of the table an effect, or none, in every state,
so nothing raises one: the type has no constructor. -/
inductive Fault
deriving DecidableEq, Repr

/-- Why a command is refused. -/
inductive Refusal
  /-- Raised by an arm of `exec` whose command has no meaning yet. Safe: the machine stops. -/
  | notModelled (mnemonic : String)
deriving DecidableEq, Repr

/-- The part with part reset held, its supply just come up (R3, R40, R56, R70, R72, R92, R120, R150, R168). -/
def State.reset : State :=
  { clock := 0, load := Loader.reset, plan := fallbackPlan, rails := Vector.replicate 12 Channel.reset,
    eng := Engine.reset, sense := Sense.reset, dpt := Dimming.reset, hbu := none, boc := BrownOut.reset,
    flb := Bridge.reset, adu := Admission.reset, jnu := Journal.reset, draws := 0, pending := [] }

end Sys2Proof.Machine
end

