-- ==== Sys2Proof/Machine/Ops.lean ====
section
/-! DEFINITION. The shared operations: the update of one block's state, the part's clock and its timers, stored
bytes and their check sums, rounding. -/

namespace Sys2Proof.Machine

/-! ### One update per block (their lemmas stand in Laws/State.lean) -/

def State.modLoad (s : State) (f : Loader → Loader) : State := { s with load := f s.load }
def State.modEng (s : State) (f : Engine → Engine) : State := { s with eng := f s.eng }
def State.modSense (s : State) (f : Sense → Sense) : State := { s with sense := f s.sense }
def State.modDpt (s : State) (f : Dimming → Dimming) : State := { s with dpt := f s.dpt }
def State.modBoc (s : State) (f : BrownOut → BrownOut) : State := { s with boc := f s.boc }
def State.modFlb (s : State) (f : Bridge → Bridge) : State := { s with flb := f s.flb }
def State.modAdu (s : State) (f : Admission → Admission) : State := { s with adu := f s.adu }
def State.modJnu (s : State) (f : Journal → Journal) : State := { s with jnu := f s.jnu }
def State.setRails (s : State) (r : Vector Channel 12) : State := { s with rails := r }
def State.setHbu (s : State) (b : Option Budget) : State := { s with hbu := b }
def State.setPlan (s : State) (p : Plan) : State := { s with plan := p }
def State.setClock (s : State) (n : Nat) : State := { s with clock := n }

/-- One channel replaced. -/
def State.setRail (s : State) (ch : Fin 12) (c : Channel) : State := s.setRails (s.rails.set ch c)

/-- One channel. -/
def State.rail (s : State) (ch : Fin 12) : Channel := s.rails[ch]

/-- The rail entry of one channel (R1). -/
def State.railEntry (s : State) (ch : Fin 12) : RailEntry := s.plan.rails[ch]

/-! ### The clock -/

/-- Milliseconds in clock counts. -/
def msCounts (ms : Nat) : Nat := ms * Config.countsPerMs

/-- The clock brought to a time it has not yet reached: an event of that time is taken. -/
def State.reach (s : State) (due : Nat) : State := s.setClock (max s.clock due)

/-- The expiry of a timer is taken: the clock has reached its expiry time. A STOPPED timer changes nothing. -/
def State.reachTimer (s : State) (t : Timer) : State :=
  match t with
  | some due => s.reach due
  | none => s

/-- The next moment of a periodic event whose next moment was to be `due`; where the clock has already passed
that, the next multiple of the period. -/
def nextMoment (clock due period : Nat) : Nat := if clock ≤ due then due else (clock / period + 1) * period

/-- The plan is applied (R187): the blocks take events. -/
def State.applied (s : State) : Bool := s.load.phase == some .applied

/-- Part reset is released: the clock, the scan, uptime, the request filters and DIM_IN run (R56). -/
def State.released (s : State) : Bool := s.load.phase.isSome

/-- `after − before` of two uptimes (Conventions: modulo 2^32). -/
def uptimeAge (now start : Word32) : Nat := (now - start).toNat

/-! ### Input filters (R57 to R59) -/

def State.modFilters (s : State) (f : Filters → Filters) : State :=
  s.modSense fun m => { m with filters := f m.filters }

/-- A raw level, turned into active or inactive by the input's polarity. -/
def pinActive (pin : RawPin) (activeLow : Bool) : Bool := pin.high != activeLow

/-- The count of the clock at which a filtered input takes a raw level: its filter time after the pin took it, no level
counting from before the filter's start or its last change. -/
def pinDue (pin : RawPin) (from_ time : Nat) : Nat := max pin.since from_ + time

/-- The filter times of PG and AUX inputs, by their code: 4, 32, 256 and 2,048 µs (R1, R58). -/
def filterCounts : Nat → Nat
  | 0 => 4 * Config.countsPerUs
  | 1 => 32 * Config.countsPerUs
  | 2 => 256 * Config.countsPerUs
  | _ => 2048 * Config.countsPerUs

/-- The filter times of AC_OK, by their code: 50 and 200 µs, 1 and 4 ms (R59). -/
def acOkCounts : Nat → Nat
  | 0 => 50 * Config.countsPerUs
  | 1 => 200 * Config.countsPerUs
  | 2 => msCounts 1
  | _ => msCounts 4

/-- The filter time of RUN_REQ and PANEL_REQ (R57). -/
def requestCounts : Nat := msCounts 1

/-- The filter time of RESET_N (R56). -/
def resetNCounts : Nat := 4 * Config.countsPerUs

/-! ### Numbers -/

/-- A quotient rounded up (R74). -/
def ceilDiv (a b : Nat) : Nat := (a + b - 1) / b

/-- A natural number brought between two bounds. -/
def clampNat (lo hi v : Nat) : Nat := max lo (min hi v)

/-- A signed figure brought into a 16-bit field (R90). -/
def clamp16 (v : Int) : Int := max (-32768) (min 32767 v)

/-! ### Stored bytes (R190, R191) -/

/-- A number in `n` bytes, the least significant first. -/
def leBytes : Nat → Nat → List Byte
  | 0, _ => []
  | n + 1, v => BitVec.ofNat 8 (v % 256) :: leBytes n (v / 256)

/-- The number little-endian bytes store. -/
def leNat : List Byte → Nat
  | [] => 0
  | b :: bs => b.toNat + 256 * leNat bs

/-- The number bytes store, the most significant first (R148). -/
def beNat (bytes : List Byte) : Nat := bytes.foldl (fun acc b => acc * 256 + b.toNat) 0

/-- A signed figure in a two-byte field, in two's complement (R190). -/
def signed16 (v : Int) : List Byte := leBytes 2 (BitVec.ofInt 16 v).toNat

/-- A Bool as a byte. -/
def boolByte (b : Bool) : Byte := if b then 1 else 0

/-- What a read returns: its bytes, cut to the length of the transaction, a byte nobody drives reading as ones. -/
def readBytes (n : Nat) (bytes : List Byte) : List Byte :=
  bytes.take n ++ List.replicate (n - bytes.length) 0xFF

/-- Bytes followed by zeros up to a length (R190: payload bytes not named are 0). -/
def padBytes (n : Nat) (bytes : List Byte) : List Byte :=
  bytes.take n ++ List.replicate (n - bytes.length) 0x00

/-- One bit of the CRC-16 of R166. -/
def crc16Bit (c : BitVec 16) : BitVec 16 := if c.msb then (c <<< 1) ^^^ 0x1021#16 else c <<< 1

/-- One byte of the CRC-16, most significant bit first. -/
def crc16Byte (c : BitVec 16) (b : Byte) : BitVec 16 :=
  Nat.repeat crc16Bit 8 (c ^^^ ((b.zeroExtend 16) <<< 8))

/-- The CRC-16 of records (R166). -/
def crc16 (bytes : List Byte) : BitVec 16 := bytes.foldl crc16Byte 0xFFFF#16

/-- One bit of the CRC-32 of R181. -/
def crc32Bit (c : Word32) : Word32 := if c.msb then (c <<< 1) ^^^ 0x04C11DB7#32 else c <<< 1

/-- One byte of the CRC-32, most significant bit first. -/
def crc32Byte (c : Word32) (b : Byte) : Word32 :=
  Nat.repeat crc32Bit 8 (c ^^^ ((b.zeroExtend 32) <<< 24))

/-- The CRC-32 of the plan image (R181). -/
def crc32 (bytes : List Byte) : Word32 := ~~~ (bytes.foldl crc32Byte 0xFFFFFFFF#32)

/-! ### The flash geometry (R147) and the journal's (R164) -/

def Plan.pageSize (p : Plan) : Nat := 2 ^ p.pageLog
def Plan.sectorSize (p : Plan) : Nat := 2 ^ p.sectorLog
def Plan.blockSize (p : Plan) : Nat := 2 ^ p.blockLog

/-- Slots of 64 bytes in a sector of the ring (R164). -/
def Plan.slotsPerSector (p : Plan) : Nat := p.sectorSize / 64

/-- The plan has a journal (R164). -/
def Plan.hasJournal (p : Plan) : Bool := p.sectorCount != 0

/-- A slot's range of the pool (R24). -/
def Plan.slotRange (p : Plan) (n : SlotName) : SlotRange := p.slots[n.code]

/-- The step at an index of a slot; a position beyond the pool is a no-op (R24). -/
def Plan.stepAt (p : Plan) (n : SlotName) (index : Nat) : Step :=
  p.pool.getD ((p.slotRange n).start + index) Step.noop

end Sys2Proof.Machine
end

