-- ==== Sys2Proof/Machine/Flags.lean ====
section
/-! DEFINITION. The conditions and levels that follow from the state: quiet (R34), the desired-up conditions (R36),
the relay switch (R119, R121), the status answers (R128, R140), the dip window count (R60), the pins (R2, R5, R32,
R70, R177). -/

namespace Sys2Proof.Machine

/-! ### Control lines and quiet -/

/-- The line of the MAIN_RESET role: the lowest-numbered present line that carries it (R33). -/
def Plan.mainLine (p : Plan) : Option (Fin 6) :=
  (List.finRange 6).find? fun l => p.lines[l].present && p.lines[l].mainReset

/-- The MAIN_RESET line is driven active (R33, R34). -/
def State.mainActive (s : State) : Bool :=
  match s.plan.mainLine with
  | some l => s.applied && s.eng.lines[l]
  | none => false

/-- The upstream side is quiet (R34). -/
def State.quiet (s : State) : Bool := s.mainActive || s.eng.board == .down

/-! ### Requests, lockouts, domains -/

/-- The board domain is desired up (R36). -/
def State.boardDesired (s : State) : Bool := s.sense.runReq && !s.eng.boardLock

/-- The panel domain is desired up (R36). -/
def State.panelDesired (s : State) : Bool :=
  s.sense.runReq && s.sense.panelReq && s.eng.board == .up && !s.eng.panelLock

/-- Both domains are DOWN (R37). -/
def Engine.bothDown (e : Engine) : Bool := e.board == .down && e.panel == .down

/-! ### The flash link -/

/-- The relay switch is closed (R119, R121, R123, R140): in RELAY, but for the rest of a transaction the bridge
does not pass. A transaction begun under a tenure keeps it open to its own end where the tenure closes before
(notes/assumptions/61.md). -/
def State.relayClosed (s : State) : Bool :=
  s.flb.mode == .relay &&
    match s.flb.xfer with
    | none => true
    | some (.selected passed) => passed
    | some (.relayed _) => true
    | some _ => false

/-- The status answer of a tenure (R128): busy and latch 1, the other bits of the last status byte. -/
def localStatus (last : Byte) : Byte := last ||| 0x03

/-- The answer that carries a fail report (R140): busy and latch 0, then the report's bit set. -/
def failStatus (last : Byte) (bit : Fin 8) : Byte := (last &&& 0xFC) ||| (1 <<< bit.val)

/-- The elapsed time of the operation in flight, in whole 0.1 ms (R82, R132). -/
def InFlight.elapsed (f : InFlight) (clock : Nat) : Nat := (clock - f.created) / Config.countsPerTenth

/-- The link is free for FLASH_QUIESCE (R48). -/
def State.linkFree (s : State) : Bool :=
  s.flb.inflight.isNone && s.adu.parked.isNone &&
    match s.flb.tenure with
    | some t => t.owner != .requested
    | none => true

/-! ### The dip window timer (R60) -/

/-- The count of the dip window timer. -/
def State.dipCount (s : State) : Nat :=
  match s.sense.dipSince with
  | some since => min 65535 ((s.clock - since) / Config.countsPerTenth)
  | none => s.sense.dipHeld

/-! ### The alert line (R177) -/

/-- The BOC states of the NOT_NORMAL condition. -/
def BocState.notNormal : BocState → Bool
  | .init | .normal => false
  | .dip | .recover | .commit | .descent | .dark => true

/-- Some channel is in FAULT (R21). -/
def State.anyFault (s : State) : Bool := s.rails.toList.any fun c => c.state == .fault

/-- ALERT_N is asserted. -/
def State.alert (s : State) : Bool :=
  s.applied &&
    ((s.plan.alert.notNormal && s.boc.state.notNormal) || (s.plan.alert.railFault && s.anyFault) ||
      (s.plan.alert.parked && s.adu.parked.isSome) ||
      (s.plan.alert.lockout && (s.eng.boardLock || s.eng.panelLock)) ||
      (s.plan.alert.queue && !s.jnu.queue.isEmpty))

/-! ### Output pins -/

/-- The level of an output pin. -/
inductive PinLevel | undriven | low | high
deriving DecidableEq, Repr

/-- The level a polarity gives an active or inactive signal. -/
def pinLevel (activeLow active : Bool) : PinLevel := if active == activeLow then .low else .high

/-- EN is active in RISING, SETTLING and ON alone (R5). -/
def RailState.enActive : RailState → Bool
  | .rising | .settling | .on => true
  | .off | .falling | .fault => false

/-- EN0 to EN11 (R2, R3, R5): that of an absent channel stays inactive. -/
def State.enPin (s : State) (ch : Fin 12) : PinLevel :=
  if s.applied then pinLevel (s.railEntry ch).enActiveLow ((s.railEntry ch).present && (s.rail ch).state.enActive)
  else .undriven

/-- CTL0 to CTL5 (R32). -/
def State.ctlPin (s : State) (l : Fin 6) : PinLevel :=
  if s.applied && s.plan.lines[l].present then pinLevel s.plan.lines[l].activeLow s.eng.lines[l] else .undriven

/-- DIM_OUT (R70). -/
def State.dimOutPin (s : State) : PinLevel :=
  if s.applied then (if s.dpt.outHigh then .high else .low) else .undriven

/-- ALERT_N, open drain and active low: `low` when asserted, undriven when released (R177). -/
def State.alertPin (s : State) : PinLevel := if s.alert then .low else .undriven

/-! ### Load -/

/-- A channel's contribution to the modelled load (R23). -/
def Channel.contribution (e : RailEntry) (c : Channel) : Nat :=
  if !e.present then 0
  else match c.state with
    | .off => 0
    | .rising | .settling | .on | .falling => e.powerMw
    | .fault => if c.faultKind = some .stuckOn then e.powerMw else 0

/-- The rail term of the modelled load (R23, R79). -/
def State.railLoad (s : State) : Nat :=
  ((List.finRange 12).map fun ch => (s.rail ch).contribution (s.railEntry ch)).sum

end Sys2Proof.Machine
end

