-- ==== Sys2Proof/Machine/Operands.lean ====
section
/-! DEFINITION. What a buffered command names: its class and byte counts (R122), its address and affected range
(R148), and the policy that governs it (R144, R145, R149). -/

namespace Sys2Proof.Machine

/-! ### Classes (R122) -/

/-- What an opcode is classed as: its class, byte count and lane counts. -/
structure Classed where
  cls : FlashClass
  addrBytes : Nat
  addrLanes : Nat
  dataLanes : Nat
deriving DecidableEq, Repr

/-- An entry matches an opcode: the entry is used, and the bits its mask names agree. -/
def ClassEntry.matches (e : ClassEntry) (opcode : Byte) : Bool :=
  e.cls.isSome && (opcode &&& e.mask) == (e.opcode &&& e.mask)

/-- The class of an opcode: the first entry that matches, or unknown_class. -/
def Plan.classOf (p : Plan) (opcode : Byte) : Classed :=
  match p.classes.find? fun e => e.matches opcode with
  | some e => ⟨e.cls.getD p.unknownClass, e.addrBytes, e.addrLanes, e.dataLanes⟩
  | none => ⟨p.unknownClass, 0, 1, 1⟩

/-- The first entry of a class, which the part uses for its own commands (R122, R164). -/
def Plan.firstEntry (p : Plan) (cls : FlashClass) : Option ClassEntry :=
  p.classes.find? fun e => e.cls == some cls

/-! ### Affected range (R148) -/

/-- The aligned span of a power-of-two size that contains an address. -/
def alignedSpan (size address : Nat) : Range := .span (address / size * size) size

/-- The affected range of a command of a class at an address. -/
def Plan.affectedRange (p : Plan) (cls : FlashClass) (address : Nat) : Range :=
  match cls with
  | .program => alignedSpan p.pageSize address
  | .eraseSector => alignedSpan p.sectorSize address
  | .eraseBlock => alignedSpan p.blockSize address
  | .eraseDevice => .device
  | .regWrite | .otherBlock | .read | .statusRead | .writeEnable | .writeDisable | .otherPass => .none

/-- The first address of a range, 0 where it has none (R163). -/
def Range.start : Range → Nat
  | .span a _ => a
  | .device | .none => 0

/-! ### Regions and windows (R144 to R146) -/

/-- A span of flash addresses with its policy, and the name under which it decides. -/
structure Region where
  source : Source
  policy : Policy
  base : Nat
  len : Nat
deriving DecidableEq, Repr

/-- The size of the plan region (R144). -/
def planRegionSize : Nat := 16384

/-- The base of the plan region by the strap value (R144). -/
def planRegionBase (strap : BitVec 2) : Nat := 0x100000 * 2 ^ strap.toNat - planRegionSize

/-- The plan region is LOCKED (R144); otherwise it is GUARDED. -/
def State.planRegionLocked (s : State) : Bool :=
  s.load.source == some .flash && s.plan.lockFlag && !s.load.unlockHeld

/-- The plan region. -/
def State.planRegion (s : State) : Region :=
  ⟨.planRegion, if s.planRegionLocked then .locked else .guarded, planRegionBase s.load.strap, planRegionSize⟩

/-- The journal region, if the plan has a journal (R145). -/
def Plan.journalRegion (p : Plan) : List Region :=
  if p.hasJournal then [⟨.journalRegion, .reserved, p.journalBase, p.sectorCount * p.sectorSize⟩] else []

/-- The windows in use, from the given index on. -/
def windowRegions : Nat → List Window → List Region
  | _, [] => []
  | i, w :: ws =>
    match w.policy with
    | some q => ⟨.window i, q, w.base, 2 ^ w.sizeLog⟩ :: windowRegions (i + 1) ws
    | none => windowRegions (i + 1) ws

/-- Every fixed region and every window in use, in the order that names the deciding source (R149). -/
def State.regions (s : State) : List Region :=
  s.planRegion :: s.plan.journalRegion ++ windowRegions 0 s.plan.windows

/-- The region holds an address. -/
def Region.has (r : Region) (a : Nat) : Bool := decide (r.base ≤ a) && decide (a < r.base + r.len)

/-- The region shares an address with a span (R149). -/
def Region.touches (r : Region) (start len : Nat) : Bool :=
  decide (r.base < start + len) && decide (start < r.base + r.len)

/-- The address reached from `pos` by passing over the regions that hold it, `fuel` regions deep. -/
def passOver (regions : List Region) : Nat → Nat → Nat
  | 0, pos => pos
  | fuel + 1, pos =>
    match regions.find? fun r => r.has pos with
    | some r => passOver regions fuel (r.base + r.len)
    | none => pos

/-- Some address of the span lies in no region (R149). -/
def hasGap (regions : List Region) (start len : Nat) : Bool :=
  decide (passOver regions regions.length start < start + len)

/-! ### Effective policy (R149) -/

/-- The first of the policies of lowest rank, with its source (R143, R149). -/
def mostRestrictive : Policy × Source → List (Policy × Source) → Policy × Source
  | best, [] => best
  | best, c :: cs => mostRestrictive (if c.1.rank < best.1.rank then c else best) cs

/-- The policies that count for a range, in the order that names the deciding source. -/
def State.counting (s : State) : Range → List (Policy × Source)
  | .span start len =>
    ((s.regions.filter fun r => r.touches start len).map fun r => (r.policy, r.source)) ++
      (if hasGap s.regions start len then [(s.plan.defaultPolicy, Source.default)] else [])
  | .device => (s.regions.map fun r => (r.policy, r.source)) ++ [(s.plan.defaultPolicy, Source.default)]
  | .none => []

/-- The effective policy of a command, none for OTHER_BLOCK, and the deciding source (R149). -/
def State.effectivePolicy (s : State) (cls : FlashClass) (range : Range) : Option Policy × Source :=
  match cls with
  | .regWrite => (some s.plan.regWritePolicy, .regWritePolicy)
  | .program | .eraseSector | .eraseBlock | .eraseDevice =>
    match s.counting range with
    | [] => (some s.plan.defaultPolicy, .default)
    | c :: cs => let best := mostRestrictive c cs; (some best.1, best.2)
  | .otherBlock | .read | .statusRead | .writeEnable | .writeDisable | .otherPass => (none, .none)

end Sys2Proof.Machine
end

