-- ==== Sys2Proof/Machine/DLink.lean ====
section
/-! DEFINITION. The D-link transactions the part makes of its own (R118, R119): what it sends, what it reads, the bits on the
lanes, and the time that takes. -/

namespace Sys2Proof.Machine

/-- A transaction of the part's own on the D-link: its opcode on lane 0, then its address bytes, then the data bytes sent
and the number of data bytes read, at the D-link clock of a divider (R119). -/
structure Transaction where
  opcode : Byte
  address : List Byte
  addrLanes : Nat
  data : List Byte
  reads : Nat
  dataLanes : Nat
  div : Nat
deriving DecidableEq, Repr

/-- Clocks of a number of bytes on a number of lanes (R118). -/
def laneClocks (bytes lanes : Nat) : Nat := bytes * 8 / lanes

/-! ### The bits on the lanes (R118) -/

/-- The levels the part gives the lanes 0 to 3 of a link at one clock. -/
abbrev Lanes := Vector PinLevel 4

/-- No lane is driven. -/
def lanesUndriven : Lanes := Vector.replicate 4 .undriven

/-- The bit of a byte that a lane carries at a clock of that byte, on this number of lanes: most significant bits first, and of
the bits of one clock the more significant on the higher lane (R118). -/
def laneBit (lanes clock lane : Nat) : Nat := 8 - lanes * (clock + 1) + lane

/-- A byte at one of its clocks, on this number of lanes; the other lanes are undriven (notes/assumptions/65.md). -/
def byteOnLanes (lanes : Nat) (b : Byte) (clock : Nat) : Lanes :=
  Vector.ofFn fun lane =>
    if lane.val < lanes then (if b.getLsbD (laneBit lanes clock lane) then .high else .low) else .undriven

/-- Bytes sent one after another on this number of lanes, clock by clock. -/
def sentOn (lanes : Nat) (bytes : List Byte) : List Lanes :=
  bytes.flatMap fun b => (List.range (8 / lanes)).map (byteOnLanes lanes b)

/-- The byte that the side that receives takes from the levels of this number of lanes, clock by clock (R118): the bits of a
clock follow those of the clocks before it. -/
def receivedByte (lanes : Nat) (clocks : List Lanes) : Byte :=
  clocks.foldl (fun b levels =>
    ((List.range lanes).reverse).foldl (fun b lane => (b <<< 1) ||| (if levels[lane]? = some .high then 1 else 0)) b) 0

/-- The whole bytes received from the levels of this number of lanes: the bits of a byte not yet whole are discarded
(R118, R124). -/
def receivedOn (lanes : Nat) (clocks : List Lanes) : List Byte :=
  (List.range (clocks.length * lanes / 8)).map fun i =>
    receivedByte lanes ((clocks.drop (i * (8 / lanes))).take (8 / lanes))

/-- The levels the part gives D_IO0 to D_IO3 in a transaction of its own, clock by clock: the opcode on lane 0, the address
bytes on the address lanes, the data bytes on the data lanes, and nothing while the flash answers (R118, R119). -/
def Transaction.lanes (t : Transaction) : List Lanes :=
  sentOn 1 [t.opcode] ++ sentOn t.addrLanes t.address ++ sentOn t.dataLanes t.data ++
    List.replicate (laneClocks t.reads t.dataLanes) lanesUndriven

/-! ### The time of a transaction (R119) -/

/-- The D-link clocks of a transaction. -/
def Transaction.clocks (t : Transaction) : Nat :=
  8 + laneClocks t.address.length t.addrLanes + laneClocks (t.data.length + t.reads) t.dataLanes

/-- Its time in counts of the part's clock: the D-link clock is 96 MHz over (div + 1) (R119). -/
def Transaction.counts (t : Transaction) : Nat := t.clocks * (t.div + 1)

/-- A number in `n` bytes, the most significant first. -/
def beBytes (n v : Nat) : List Byte := (leBytes n v).reverse

/-- The class entry the part uses for its own commands of a class: the first of that class (R122, R164). Every plan has one
for each class the part sends. -/
def Plan.entryFor (p : Plan) (cls : FlashClass) : ClassEntry := (p.firstEntry cls).getD ⟨0, 0, none, 0, 1, 1⟩

/-- A command of a class that the bridge sends for itself: the class's match value, and the bytes it reads on the entry's
data lanes (R122, R131, R133, R139). -/
def Plan.ownCommand (p : Plan) (cls : FlashClass) (reads : Nat) : Transaction :=
  { opcode := (p.entryFor cls).opcode, address := [], addrLanes := (p.entryFor cls).addrLanes, data := [], reads := reads,
    dataLanes := (p.entryFor cls).dataLanes, div := p.div }

/-- A read with a class entry, from an address on (R164, R180, R186). -/
def ClassEntry.readFrom (e : ClassEntry) (div address reads : Nat) : Transaction :=
  { opcode := e.opcode, address := beBytes e.addrBytes address, addrLanes := e.addrLanes, data := [], reads := reads,
    dataLanes := e.dataLanes, div := div }

/-- The command itself, the second transaction of ISSUING (R131). -/
def Plan.commandOf (p : Plan) (i : Issue) : Transaction :=
  { opcode := i.opcode, address := beBytes i.addrBytes i.address, addrLanes := i.addrLanes, data := i.data, reads := 0,
    dataLanes := i.dataLanes, div := p.div }

/-- The two transactions of ISSUING, in turn: write-enable, then the command (R131). -/
def Plan.issuing (p : Plan) (i : Issue) : List Transaction := [p.ownCommand .writeEnable 0, p.commandOf i]

/-- The transaction of REFUSING: write-disable (R139). -/
def Plan.refusing (p : Plan) : Transaction := p.ownCommand .writeDisable 0

/-- A poll: status-read, and one status byte (R133). -/
def Plan.polling (p : Plan) : Transaction := p.ownCommand .statusRead 1

/-- The time of transactions made one after another. -/
def countsOf (ts : List Transaction) : Nat := (ts.map Transaction.counts).sum

end Sys2Proof.Machine
end

