-- ==== Sys2Proof/Machine/Records.lean ====
section
/-! DEFINITION. The stored form of the journal records (R165, R166, R190, R191). -/

namespace Sys2Proof.Machine

/-! ### Codes (R191) -/

def BocState.code : BocState → Byte
  | .init => 0 | .normal => 1 | .dip => 2 | .recover => 3 | .commit => 4 | .descent => 5 | .dark => 6

def RailState.code : RailState → Byte
  | .off => 0 | .rising => 1 | .settling => 2 | .on => 3 | .falling => 4 | .fault => 5

def FaultKind.code : FaultKind → Byte
  | .riseTimeout => 0 | .unstable => 1 | .dropout => 2 | .stuckOn => 3

def FailCause.code : FailCause → Byte
  | .fault k => k.code
  | .timeout => 4

def CommitReason.code : CommitReason → Byte
  | .none => 0 | .storm => 1 | .reserve => 2 | .rideLimit => 3 | .dropout => 4 | .busCollapse => 5

def RefusalReason.code : RefusalReason → Byte
  | .blocked => 0 | .locked => 1 | .reserved => 2 | .commit => 3 | .quiesced => 4 | .holdExpired => 5

def Source.code : Source → Byte
  | .none => 0 | .planRegion => 1 | .journalRegion => 2 | .default => 3 | .regWritePolicy => 4
  | .window i => BitVec.ofNat 8 (16 + i)

def Origin.code : Origin → Byte
  | .requested => 0 | .internal => 1

def Owner.code : Owner → Byte
  | .requested => 0 | .internal => 1

def Phase.code : Phase → Byte
  | .deciding => 0 | .parked => 1 | .issuing => 2 | .operating => 3 | .appending => 4 | .refusing => 5

/-- A slot of the Sequence Engine, 0xFF for NONE. -/
def slotByte : Option SlotName → Byte
  | some n => BitVec.ofNat 8 n.code.val
  | none => 0xFF

/-- A number in one byte. -/
def natByte (n : Nat) : Byte := BitVec.ofNat 8 n

/-- A class, as its code. -/
def FlashClass.byte (c : FlashClass) : Byte := natByte c.code

/-- A 32-bit word in four bytes. -/
def wordBytes (w : Word32) : List Byte := leBytes 4 w.toNat

/-! ### Kinds and sizes (R165, R191) -/

def RecordBody.kindCode : RecordBody → Byte
  | .plan .. => 1 | .railFault .. => 2 | .stepFail .. => 3 | .dip .. => 4 | .refusal .. => 5 | .clipped .. => 6
  | .linkViolation .. => 7 | .flashStuck .. => 8 | .survival .. => 9 | .pad => 10

/-- The slots of 64 bytes a record takes. -/
def RecordBody.slots : RecordBody → Nat
  | .survival .. => 2
  | .plan .. | .railFault .. | .stepFail .. | .dip .. | .refusal .. | .clipped .. | .linkViolation ..
  | .flashStuck .. | .pad => 1

/-- The slot count a kind code has; none for a code that is no kind (R173). -/
def slotsOfKind (kind : Byte) : Option Nat :=
  if kind = 9 then some 2
  else if 1 ≤ kind.toNat ∧ kind.toNat ≤ 10 then some 1
  else none

/-! ### Payloads (R191) -/

/-- The range start of a FLASH_STUCK record. -/
def stuckRangeStart : Range → Word32
  | .span a _ => BitVec.ofNat 32 a
  | .device => 0
  | .none => Config.noRangeStart

/-- The admission cost of a REFUSAL record (R163, R191). Not computed goes before the 0 of OTHER_BLOCK
(notes/assumptions/58.md). -/
def refusalCost (cls : FlashClass) (budget : Option AduBudget) : Nat :=
  match budget with
  | none => 0xFFFFFFFF
  | some b =>
    match cls.op with
    | some op => b.aCost.at op
    | none => 0

/-- One position of the history of a SURVIVAL record. The bits its table does not name are 0 (notes/assumptions/60.md). -/
def historyBytes : Option DipEntry → List Byte
  | some e =>
    wordBytes e.start ++ leBytes 2 e.duration ++ signed16 e.minReserve ++
      [natByte (e.peakShed % 4 + if e.stale then 0x40 else 0)]
  | none => List.replicate 8 0 ++ [0x80]

/-- Bits 0 to 4 of byte 25 of a SURVIVAL record; bits 5 to 7, which are not named, are 0 (notes/assumptions/60.md). -/
def survivalFlags (acReturned acOk dip running atRisk : Bool) : Byte :=
  natByte (acReturned.toNat + 2 * acOk.toNat + 4 * dip.toNat + 8 * running.toNat + 16 * atRisk.toNat)

/-- The current dip of a SURVIVAL record, bytes 27 to 33. -/
def currentDipBytes : Option Dip → List Byte
  | some d => wordBytes d.start ++ [natByte d.peakShed] ++ signed16 (clamp16 d.minReserve)
  | none => (List.range 7).map fun i => Config.absentByte (27 + i)

/-- The AT_RISK operation of a SURVIVAL record, bytes 36 and 37. -/
def atRiskBytes : Option (OpClass × Origin) → List Byte
  | some (op, origin) => [op.cls.byte, origin.code]
  | none => [Config.absentByte 36, Config.absentByte 37]

/-- The bytes from offset 12 on that the tables of chapter 11.4 name; bits of them that the tables do not name are 0
(notes/assumptions/60.md). -/
def RecordBody.payload : RecordBody → List Byte
  | .plan source generation clamps first strap unlockHeld locked busy vstby =>
    [if source = .flash then 0 else 1] ++ wordBytes generation ++ leBytes 2 clamps ++ leBytes 2 (first.getD 0xFFFF)
      ++ [natByte strap.toNat, boolByte unlockHeld, natByte (if locked then Policy.locked else .guarded).code,
          boolByte busy] ++ leBytes 2 vstby
  | .railFault ch tag kind prior slot index =>
    [natByte ch.val] ++ padBytes 4 tag ++ [kind.code, prior.code, slotByte slot, natByte index]
  | .stepFail slot index kindCode target cause abandoned =>
    [slotByte (some slot), natByte index, natByte kindCode, natByte target, cause.code, boolByte abandoned]
  | .dip start duration peakShed minReserve =>
    wordBytes start ++ leBytes 2 duration ++ [natByte peakShed] ++ signed16 (clamp16 minReserve)
  | .refusal reason c parked parkedMs budget =>
    [reason.code, c.opcode, c.cls.byte, natByte ((c.policy.map Policy.code).getD 0), c.source.code, boolByte parked]
      ++ leBytes 4 c.address ++ leBytes 4 c.range.start ++ leBytes 2 parkedMs ++ [boolByte budget.isSome]
      ++ signed16 (clamp16 ((budget.map AduBudget.reserve).getD 0)) ++ leBytes 4 (refusalCost c.cls budget)
  | .clipped c =>
    [c.opcode, c.cls.byte] ++ leBytes 4 c.address ++ leBytes 2 c.clocked ++ wordBytes c.begun
  | .linkViolation opcode cls owner phase op =>
    [opcode, cls.byte, owner.code, phase.code, (op.map fun o => o.cls.byte).getD 0]
  | .flashStuck f byJournal elapsed lastStatus =>
    [f.op.cls.byte, f.origin.code, boolByte byJournal, natByte (f.overrun.toNat + 2 * f.atRisk.toNat)]
      ++ wordBytes (stuckRangeStart f.range) ++ wordBytes f.admitted ++ leBytes 4 elapsed ++ leBytes 4 f.max
      ++ [lastStatus]
  | .survival reason notes acReturned acOk stormFound current dipCount dipRunning atRisk vstby queued wait history =>
    [reason.code] ++ wordBytes notes.uptime ++ signed16 (clamp16 notes.reserve) ++ leBytes 4 notes.eUs
      ++ leBytes 2 notes.tDd ++ [survivalFlags acReturned acOk current.isSome dipRunning atRisk.isSome, natByte stormFound]
      ++ currentDipBytes current ++ leBytes 2 dipCount ++ atRiskBytes atRisk ++ leBytes 2 vstby
      ++ [natByte queued] ++ leBytes 2 wait
      ++ ((List.range 8).map fun i => historyBytes history[i]?).flatten
  | .pad => []

/-- A record as it is written: header, payload padded with zeros, trailer (R165, R166, R191). -/
def Record.bytes (r : Record) (lost : Nat) (seq : Word32) : List Byte :=
  let size := 64 * r.body.slots
  let header := [r.body.kindCode, natByte r.body.slots, natByte lost, r.boc.code] ++ wordBytes seq ++ wordBytes r.uptime
  let front := padBytes (size - 2) (header ++ r.body.payload)
  front ++ leBytes 2 (crc16 front).toNat

end Sys2Proof.Machine
end

