-- ==== Sys2Proof/Machine/Journal.lean ====
section
/-! DEFINITION. The Journal Unit: its queue (R167), the writing of records and the erase-ahead (R169, R170), quiet
work (R171) and the SURVIVAL work (R175, R176). -/

namespace Sys2Proof.Machine

/-! ### The queue (R164, R167) -/

/-- One more record lost, saturating at 255. -/
def State.addLost (s : State) : State := s.modJnu fun j => { j with lost := min 255 (j.lost + 1) }

/-- A record is offered: it joins the queue, or is dropped and counted; with no journal it is discarded. -/
def State.offerRecord (s : State) (body : RecordBody) : State :=
  if !s.plan.hasJournal then s
  else if s.jnu.queue.length < Config.queueSlots then
    s.modJnu fun j => { j with queue := j.queue ++ [⟨body, s.boc.state, s.sense.uptime⟩] }
  else s.addLost

/-! ### The ring (R168, R169) -/

/-- The write position moves to slot 0 of the next sector, which is known to be erased; the next-sector mark becomes
UNKNOWN with it. -/
def Ring.advance (p : Plan) (r : Ring) : Ring :=
  { r with sector := (r.sector + 1) % p.sectorCount, slot := 0, room := p.slotsPerSector }

/-- The ring with a known-erased slot at its write position, and the next-sector mark beside it, if R169 lets a one-slot
record be written. -/
def Journal.forRecord (p : Plan) (j : Journal) : Option (Ring × Bool) :=
  match j.ring with
  | none => none
  | some r =>
    if 1 ≤ r.room then some (r, j.nextErased)
    else if j.nextErased then some (r.advance p, false)
    else none

/-- The ring after a record of `n` slots is handed: its sequence is used and the write position passes it. -/
def Ring.pass (r : Ring) (n : Nat) : Ring :=
  { r with nextSeq := r.nextSeq + 1, slot := r.slot + n, room := r.room - n }

/-- The flash address of the write position. -/
def Plan.slotAddress (p : Plan) (r : Ring) : Nat := p.journalBase + r.sector * p.sectorSize + r.slot * 64

/-- An internal operation of a class, sent with the first class entry of that class (R164). -/
def Plan.internalIssue (p : Plan) (op : OpClass) (address len : Nat) (data : List Byte) : Issue :=
  let e := p.entryFor op.cls
  { op := op, origin := .internal, range := .span address len, opcode := e.opcode, addrBytes := e.addrBytes,
    addrLanes := e.addrLanes, dataLanes := e.dataLanes, address := address, data := data, admitted := 0 }

/-- The bookkeeping of a hand-over: the lost count is in the record and starts again at 0, the ring and the next-sector
mark are as given, and the work is under way. -/
def State.handed (s : State) (ring : Ring) (erased : Bool) (kind : WorkKind) : State :=
  s.modJnu fun j => { j with ring := some ring, nextErased := erased, lost := 0, work := some ⟨kind, s.quiet⟩ }

/-- A one-slot record is handed for writing (R169): the operation, and the state that hands it. -/
def State.handRecord (s : State) (r : Record) (kind : WorkKind) : Option (Issue × State) :=
  match s.jnu.forRecord s.plan with
  | none => none
  | some (ring, erased) =>
    some (s.plan.internalIssue .program (s.plan.slotAddress ring) 64 (r.bytes s.jnu.lost ring.nextSeq),
      s.handed (ring.pass 1) erased kind)

/-- The record at the head of the queue is handed for writing, if there is one and R169 lets it be written. -/
def State.handHead (s : State) : Option (Issue × State) :=
  match s.jnu.queue with
  | [] => none
  | r :: _ => s.handRecord r .record

/-- The erase-ahead is handed, if it is wanted (R170). -/
def State.handErase (s : State) : Option (Issue × State) :=
  match s.jnu.ring with
  | some ring =>
    if s.plan.hasJournal && !s.jnu.nextErased then
      some (s.plan.internalIssue .eraseSector
          (s.plan.journalBase + (ring.sector + 1) % s.plan.sectorCount * s.plan.sectorSize) s.plan.sectorSize [],
        s.modJnu fun j => { j with work := some ⟨.eraseAhead, s.quiet⟩ })
    else none
  | none => none

/-- An operation is offered to the bridge (R138). -/
def State.offerOp (s : State) (i : Issue) : State := s.modFlb fun f => { f with offer := some i }

/-! ### Quiet work (R171) -/

/-- The BOC states of quiet work. -/
def State.quietWorkState (s : State) : Bool :=
  match s.boc.state with
  | .init | .normal => true
  | .dark => s.boc.survival == .ended
  | .dip | .recover | .commit | .descent => false

/-- The conditions of quiet work, but for there being work to do. -/
def State.quietWorkAllowed (s : State) : Bool :=
  s.applied && s.plan.hasJournal && s.quiet && !s.eng.quietHold && s.quietWorkState && s.jnu.work.isNone

/-- Quiet work starts: the head record where R169 lets it be written, otherwise a wanted erase-ahead. -/
def State.quietWork (s : State) : Option State :=
  if s.quietWorkAllowed then
    match s.handHead with
    | some (i, t) => some (t.offerOp i)
    | none =>
      match s.handErase with
      | some (i, t) => some (t.offerOp i)
      | none => none
  else none

/-- The Journal Unit has internal work under way that it issued while quiet (R35). -/
def State.internalWork (s : State) : Bool :=
  match s.jnu.work with
  | some w => w.whileQuiet
  | none => false

/-! ### The SURVIVAL work (R115, R175, R176) -/

/-- The SURVIVAL work ends, and the controller takes its end. -/
def State.survivalEnd (s : State) : State :=
  (s.modJnu fun j => { j with survival := .none }).modBoc fun b => { b with survival := .ended }

/-- The SURVIVAL record of this moment (R114, R175), its wait time not yet known. -/
def State.survivalRecord (s : State) : Record :=
  { body := .survival s.boc.reason (s.boc.notes.getD ⟨0, 0, 0, 0⟩) s.boc.acReturned s.sense.acOk s.boc.stormFound
      s.boc.dip s.dipCount s.sense.dipSince.isSome s.boc.atRisk s.sense.vstbyMv s.jnu.queue.length 0
      (s.boc.history.take 8)
    boc := s.boc.state, uptime := s.sense.uptime }

/-- The SURVIVAL work begins at the entry to DARK; with no journal it ends as it begins. -/
def State.survivalBegin (s : State) : State :=
  if s.plan.hasJournal then
    (s.modJnu fun j => { j with survival := .waiting s.survivalRecord s.clock }).modBoc
      fun b => { b with survival := .underWay }
  else s.survivalEnd

/-- The wait time is entered in a SURVIVAL record. -/
def Record.withWait (r : Record) (wait : Nat) : Record :=
  match r.body with
  | .survival reason notes acReturned acOk stormFound current dipCount dipRunning atRisk vstby queued _ history =>
    { r with body := .survival reason notes acReturned acOk stormFound current dipCount dipRunning atRisk vstby
                queued wait history }
  | _ => r

/-- The SURVIVAL record is handed at the write position of this ring: one operation where its two slots lie in one
page, two otherwise, the first slot first (R176). -/
def State.writeSurvival (s : State) (r : Record) (ring : Ring) (erased : Bool) : State :=
  let address := s.plan.slotAddress ring
  let bytes := r.bytes s.jnu.lost ring.nextSeq
  let onePage := address / s.plan.pageSize == (address + 64) / s.plan.pageSize
  let first := if onePage then s.plan.internalIssue .program address 128 bytes
    else s.plan.internalIssue .program address 64 (bytes.take 64)
  let second := if onePage then none
    else some (s.plan.internalIssue .program (address + 64) 64 (bytes.drop 64))
  ((s.handed (ring.pass 2) erased (.survival second)).modJnu fun j => { j with survival := .writing }).offerOp first

/-- The record is lost for want of space (R176). -/
def State.survivalNoSpace (s : State) : State := s.addLost.survivalEnd

/-- There is space for a SURVIVAL record: two known-erased slots in one sector (R176). -/
def Journal.survivalSpace (j : Journal) : Bool :=
  match j.ring with
  | some ring => decide (2 ≤ ring.room) || j.nextErased
  | none => false

/-- The SURVIVAL record, for which there is space, is handed: at the write position, in the next sector, or there after a
PAD record (R176). -/
def State.survivalHand (s : State) (r : Record) : State :=
  match s.jnu.ring with
  | none => s.survivalNoSpace
  | some ring =>
    if 2 ≤ ring.room then s.writeSurvival r ring s.jnu.nextErased
    else if ring.room = 1 then
      match s.handRecord ⟨.pad, s.boc.state, s.sense.uptime⟩ .pad with
      | some (i, t) =>
        (t.modJnu fun j =>
          { j with ring := j.ring.map (Ring.advance s.plan), nextErased := false, survival := .padding r }).offerOp i
      | none => s.survivalNoSpace
    else s.writeSurvival r (ring.advance s.plan) false

/-- The wait has ended without an OVERRUN: the space is judged, and the record is lost or made ready (R176). -/
def State.survivalJudge (s : State) (r : Record) : State :=
  if s.jnu.survivalSpace then s.modJnu fun j => { j with survival := .ready r } else s.survivalNoSpace

/-- The record is lost at an OVERRUN: a FLASH_STUCK record declared by the journal reports the operation (R176). Of an
operation found already OVERRUN it reports the moment of the finding (notes/assumptions/59.md). -/
def State.survivalOverrun (s : State) (f : InFlight) : State :=
  (s.addLost.offerRecord (.flashStuck f true (f.elapsed s.clock) s.flb.lastStatus)).survivalEnd

/-- The SURVIVAL work goes on, if it can. Its wait ends at an operation whose OVERRUN mark is set, or with no operation in
flight and no tenure open (R175); the wait time is rounded down to whole 0.1 ms (notes/assumptions/49.md). A record that
is ready is handed once no work of the unit's own is under way (R168: one internal operation; notes/assumptions/20.md). -/
def State.survivalWaitEnd (s : State) : Option State :=
  match s.jnu.survival with
  | .waiting r since =>
    match s.flb.inflight with
    | some f => if f.overrun then some (s.survivalOverrun f) else none
    | none =>
      if s.flb.tenure.isNone then
        some (s.survivalJudge (r.withWait (min 65535 ((s.clock - since) / Config.countsPerTenth))))
      else none
  | .ready r => if s.jnu.work.isNone then some (s.survivalHand r) else none
  | .none | .padding _ | .writing => none

/-! ### The end of an operation (R169, R170, R176) -/

/-- The Journal Unit takes the end of its work under way. -/
def State.workEnd (s : State) (stuck : Bool) : State :=
  match s.jnu.work with
  | none => s
  | some ⟨.record, _⟩ => s.modJnu fun j => { j with queue := j.queue.tail, work := none }
  | some ⟨.eraseAhead, _⟩ =>
    s.modJnu fun j => { j with nextErased := j.nextErased || !stuck, work := none }
  | some ⟨.pad, _⟩ =>
    let t := s.modJnu fun j => { j with work := none }
    match t.jnu.survival, t.jnu.ring with
    | .padding r, some ring => t.writeSurvival r ring t.jnu.nextErased
    | _, _ => t
  | some ⟨.survival (some i), q⟩ => (s.modJnu fun j => { j with work := some ⟨.survival none, q⟩ }).offerOp i
  | some ⟨.survival none, _⟩ => (s.modJnu fun j => { j with work := none }).survivalEnd

end Sys2Proof.Machine
end

