-- ==== Sys2Proof/Machine/Bridge.lean ====
section
/-! DEFINITION. The Flash Link Bridge's shared operations: the fail report (R140), tenures (R127), fates and issuing
(R130, R131), internal operations (R138), the piggyback (R137) and the end of an operation (R136). -/

namespace Sys2Proof.Machine

/-! ### The fail report (R140) -/

/-- A fail report is set: pending with the plan's bit, unless the plan names none or the MAIN_RESET line is active,
which drops it at once. -/
def State.setFailReport (s : State) : State :=
  if h : s.plan.failBit < 8 then
    if s.mainActive then s else s.modFlb fun f => { f with failReport := some ⟨s.plan.failBit, h⟩ }
  else s

/-- The fail report is dropped or taken. -/
def State.clearFailReport (s : State) : State := s.modFlb fun f => { f with failReport := none }

/-! ### Tenures (R127) -/

/-- A tenure closes: the mode becomes RELAY, or IGNORE with the MAIN_RESET line active. -/
def State.closeTenure (s : State) : State :=
  s.modFlb fun f => { f with tenure := none, mode := if s.mainActive then .ignore else .relay }

/-- The phase of the open tenure. -/
def State.setPhase (s : State) (p : Phase) : State :=
  s.modFlb fun f => { f with tenure := f.tenure.map fun t => { t with phase := p } }

/-! ### Issuing (R131) -/

/-- The two transactions of ISSUING begin; an open tenure enters ISSUING. They do not wait for a poll that goes on after
its operation's end (notes/assumptions/56.md). -/
def State.startIssue (s : State) (i : Issue) : State :=
  (s.setPhase .issuing).modFlb fun f =>
    { f with issue := some i, dlinkDue := some (s.clock + countsOf (s.plan.issuing i)) }

/-- The operation an admitted command asks for; OTHER_BLOCK asks for none (R153). -/
def Command.issue (c : Command) (uptime : Word32) : Option Issue :=
  match c.cls.op with
  | some op =>
    some { op := op, origin := .requested, range := c.range, opcode := c.opcode, addrBytes := c.addrBytes,
           addrLanes := c.addrLanes, dataLanes := c.dataLanes, address := c.address, data := c.data,
           admitted := uptime }
  | none => none

/-! ### Fates (R130) -/

/-- The fate ADMIT is taken. -/
def State.fateAdmitted (s : State) (c : Command) : State :=
  match c.issue s.sense.uptime with
  | some i => s.startIssue i
  | none => s

/-- The fate PARK is taken. -/
def State.fatePark (s : State) : State := s.setPhase .parked

/-- The fate REFUSE is taken: write-disable is sent (R139), at once even where a poll goes on after its operation's end
(notes/assumptions/56.md). One taken from the parked slot with the MAIN_RESET line active gives no fail report (R162). -/
def State.fateRefuse (s : State) (reportless : Bool) : State :=
  (s.setPhase .refusing).modFlb fun f =>
    { f with dlinkDue := some (s.clock + s.plan.refusing.counts), reportless := reportless }

/-! ### Internal operations outside a piggyback (R138) -/

/-- The bridge takes the internal operation offered, if it may (R138): no tenure open, nothing in flight or being issued;
in IGNORE without a tenure, unless R142 bars it; in RELAY once U_CSN is deasserted, under an INTERNAL tenure. Where the
MAIN_RESET line goes active while it waits in RELAY for the deassertion, the mode is IGNORE by then
(notes/assumptions/54.md). -/
def State.takeOffer (s : State) : Option State :=
  match s.flb.offer with
  | none => none
  | some i =>
    if s.applied && s.flb.tenure.isNone && s.flb.inflight.isNone && s.flb.issue.isNone then
      let i' := { i with admitted := s.sense.uptime }
      let t := s.modFlb fun f => { f with offer := none }
      match s.flb.mode with
      | .ignore => if s.flb.barred then none else some (t.startIssue i')
      | .relay =>
        if s.flb.xfer.isNone && !s.mainActive then
          some ((t.modFlb fun f =>
            { f with mode := .tenure, tenure := some ⟨.internal, none, .issuing, 0, false⟩ }).startIssue i')
        else none
      | .tenure => none
    else none

/-! ### Piggyback (R137, R172) -/

/-- An operation of the piggyback is taken and issued under the open tenure. -/
def State.takePiggyback (s : State) (i : Issue) (useErase : Bool) : State :=
  (s.modFlb fun f =>
    { f with tenure := f.tenure.map fun t =>
        if useErase then { t with eraseLeft := false } else { t with programsLeft := t.programsLeft - 1 } }).startIssue
    { i with admitted := s.sense.uptime }

/-- The bridge offers the piggyback with this allowance: the Journal Unit hands one operation (R172), or declines and
the tenure closes. -/
def State.offerPiggyback (s : State) (programs : Nat) (erase : Bool) : State :=
  let t := s.modFlb fun f =>
    { f with tenure := f.tenure.map fun t => { t with phase := .appending, programsLeft := programs, eraseLeft := erase } }
  if s.eng.quietHold || s.boc.state != .normal || s.jnu.work.isSome then t.closeTenure
  else
    match (if 0 < programs then t.handHead else none) with
    | some (i, u) => u.takePiggyback i false
    | none =>
      match (if erase then t.handErase else none) with
      | some (i, u) => u.takePiggyback i true
      | none => t.closeTenure

/-! ### The end of an operation (R136) -/

/-- The bridge acts on the tenure at the end of an operation. The controller's state is that of this moment: a piggyback
interrupted by a time outside NORMAL goes on in NORMAL (notes/assumptions/45.md). -/
def State.tenureAtEnd (s : State) (f : InFlight) (stuck : Bool) : State :=
  match s.flb.tenure with
  | none => s
  | some t =>
    match t.owner, f.origin, stuck with
    | .internal, _, _ => s.closeTenure
    | .requested, .requested, true => s.setFailReport.closeTenure
    | .requested, .requested, false =>
      if s.boc.state = .normal then s.offerPiggyback s.plan.piggybackLimit f.op.isErase else s.closeTenure
    | .requested, .internal, true => s.closeTenure
    | .requested, .internal, false =>
      if s.boc.state = .normal ∧ (0 < t.programsLeft ∨ t.eraseLeft = true) then
        s.offerPiggyback t.programsLeft t.eraseLeft
      else s.closeTenure

/-- The operation in flight ends, COMPLETE or FLASH_STUCK: its record is discarded, polling stops, a poll begun goes
on to its own end, and the Journal Unit and the tenure take the end. -/
def State.opEnd (s : State) (f : InFlight) (stuck : Bool) : State :=
  let t := s.modFlb fun b =>
    { b with inflight := none, nextPoll := none, poll := if b.poll = .live then .stale else b.poll }
  let u := match f.origin with
    | .internal => t.workEnd stuck
    | .requested => t
  u.tenureAtEnd f stuck

end Sys2Proof.Machine
end

