-- ==== Sys2Proof/Machine/Admission.lean ====
section
/-! DEFINITION. The Admission Unit: the decision (R152, R153), the parked slot (R156 to R159) and the refusal (R162,
R163). -/

namespace Sys2Proof.Machine

/-- The fates of a buffered command (R130, R153). -/
inductive Fate
  | admitted
  | park
  | refuse (reason : RefusalReason)
deriving DecidableEq, Repr

/-- The reserve covers the admission cost of a class; a reserve not computed covers nothing (R73, R87, R153). -/
def covered (budget : Option AduBudget) (cls : FlashClass) : Bool :=
  match budget, cls.op with
  | some b, some op => decide ((b.aCost.at op : Int) ≤ b.reserve)
  | _, _ => false

/-- The decision table, rows 7 to 10: DIP and RECOVER. -/
def decideInDip (policy : Policy) (cover : Bool) : Fate :=
  match policy with
  | .free => .admitted
  | .guarded => if cover then .admitted else .park
  | .deferred => .park
  | .locked => .refuse .locked
  | .reserved => .refuse .reserved

/-- The decision table (R153). -/
def decide153 (cls : FlashClass) (policy : Option Policy) (boc : BocState) (quiesce cover : Bool) : Fate :=
  if cls = .otherBlock then .refuse .blocked
  else
    match policy with
    | some .locked => .refuse .locked
    | some .reserved => .refuse .reserved
    | none => .refuse .blocked
    | some p =>
      match boc with
      | .init | .commit | .descent | .dark => .refuse .commit
      | .normal => if quiesce then .refuse .quiesced else .admitted
      | .dip | .recover => if quiesce then .refuse .quiesced else decideInDip p cover

/-- The time a command was parked, in ms, saturating in its two-byte field (R163). -/
def parkedMs (now : Word32) (parked : Option Parked) : Nat :=
  match parked with
  | some p => min 65535 (uptimeAge now p.since)
  | none => 0

/-- The parked slot empties and the hold timer stops (R156). -/
def State.emptySlot (s : State) : State := s.modAdu fun a => { a with parked := none, hold := none }

/-- A command is refused, at its hand-off or from the parked slot (R162). -/
def State.refuseCommand (s : State) (c : Command) (reason : RefusalReason) : State :=
  (s.offerRecord (.refusal reason c s.adu.parked.isSome (parkedMs s.sense.uptime s.adu.parked) s.adu.latest)).emptySlot.fateRefuse
    (s.adu.parked.isSome && s.mainActive)

/-- A command enters the parked slot (R156). -/
def State.parkCommand (s : State) (c : Command) : State :=
  (s.modAdu fun a =>
    { a with parked := some ⟨c, s.sense.uptime⟩, hold := some (s.clock + msCounts s.plan.holdLimitMs) }).fatePark

/-- The parked command is given the fate ADMIT (R157, R158). -/
def State.admitParked (s : State) (c : Command) : State := s.emptySlot.fateAdmitted c

/-- The Admission Unit takes a command at the end of its intake (R152): its tenure is open in DECIDING. -/
def State.takeCommand (s : State) (c : Command) : State :=
  match decide153 c.cls c.policy s.boc.state s.eng.quiesceHold (covered s.adu.latest c.cls) with
  | .admitted => s.fateAdmitted c
  | .park => s.parkCommand c
  | .refuse reason => s.refuseCommand c reason

/-- The Admission Unit takes a change of the BOC state (R158). -/
def State.parkedAtState (s : State) : State :=
  match s.adu.parked with
  | none => s
  | some p =>
    match s.boc.state with
    | .normal => s.admitParked p.command
    | .commit | .descent | .dark => s.refuseCommand p.command .commit
    | .init | .dip | .recover => s

/-- The Admission Unit takes a budget computation (R151, R157). -/
def State.aduTakes (s : State) (b : Budget) : State :=
  let t := s.modAdu fun a => { a with latest := some ⟨b.reserve, b.aCost⟩ }
  match t.adu.parked with
  | none => t
  | some p =>
    if (t.boc.state = .dip ∨ t.boc.state = .recover) ∧ p.command.policy = some .guarded ∧
        covered t.adu.latest p.command.cls = true then
      t.admitParked p.command
    else t

end Sys2Proof.Machine
end

