-- ==== Sys2Proof/Machine/Rails.lean ====
section
/-! DEFINITION. One rail channel (R6 to R20, R22): what each event does to it, and the answer it gives. -/

namespace Sys2Proof.Machine

/-- What an event does to a channel: the channel after it, the answer given to the order pending at it or just
taken, and the fault it enters. -/
structure ChanStep where
  chan : Channel
  answer : Option Answer
  fault : Option FaultKind
deriving DecidableEq, Repr

/-- An event that leaves everything as it is. -/
def ChanStep.same (c : Channel) : ChanStep := ⟨c, none, none⟩

/-- The settle time in clock counts, by its code (R1). -/
def settleCounts (code : Nat) : Nat :=
  match code with
  | 0 => 0
  | 1 => 48000
  | 2 => msCounts 1
  | 3 => msCounts 2
  | 4 => msCounts 5
  | 5 => msCounts 10
  | 6 => msCounts 20
  | _ => msCounts 50

/-- The pending order is answered with `a` if it is `o` (R13, R14). -/
def Channel.answerIf (c : Channel) (o : Order) (a : Answer) : Channel × Option Answer :=
  if c.order = some o then ({ c with order := none }, some a) else (c, none)

/-- Entry to ON (R8, R12): no timer runs, and a pending enable order is answered DONE. -/
def Channel.enterOn (c : Channel) : ChanStep :=
  let r := ({ c with state := .on, rise := none, settle := none, fall := none } : Channel).answerIf .enable .done
  ⟨r.1, r.2, none⟩

/-- Entry to SETTLING (R7); with settle code 0 the channel enters ON at once. -/
def Channel.enterSettling (e : RailEntry) (now : Nat) (c : Channel) : ChanStep :=
  if settleCounts e.settle = 0 then c.enterOn
  else .same { c with state := .settling, rise := none, fall := none, settle := some (now + settleCounts e.settle) }

/-- Entry to RISING (R6, R12); a monitored channel whose filtered PG is good passes on at once. -/
def Channel.enterRising (e : RailEntry) (now : Nat) (c : Channel) : ChanStep :=
  let r : Channel := { c with state := .rising, rise := some (now + msCounts e.riseMs), settle := none, fall := none }
  if !e.timed && c.pgGood then r.enterSettling e now else .same r

/-- Entry to OFF from FALLING (R11, R12): a pending disable order is answered DONE. -/
def Channel.enterOff (c : Channel) : ChanStep :=
  let r := ({ c with state := .off, rise := none, settle := none, fall := none } : Channel).answerIf .disable .done
  ⟨r.1, r.2, none⟩

/-- Entry to FALLING (R10, R12); a monitored channel whose filtered PG is not-good passes on to OFF at once. -/
def Channel.enterFalling (e : RailEntry) (now : Nat) (c : Channel) : ChanStep :=
  let r : Channel := { c with state := .falling, rise := none, settle := none, fall := some (now + msCounts e.fallMs) }
  if !e.timed && !c.pgGood then r.enterOff else .same r

/-- Entry to FAULT (R20): EN inactive, timers stopped, the kind and the state left kept, a pending order FAILED. -/
def Channel.enterFault (kind : FaultKind) (c : Channel) : ChanStep :=
  ⟨{ c with state := .fault, rise := none, settle := none, fall := none, faultKind := some kind,
            prior := some c.state, order := none },
    c.order.map fun _ => .failed, some kind⟩

/-! ### Orders (R13 to R15) -/

/-- An enable order is taken (R13). -/
def Channel.takeEnable (e : RailEntry) (now : Nat) (wait : Bool) (c : Channel) : ChanStep :=
  let w : Channel := { c with want := true }
  match c.state with
  | .on => ⟨w, some .done, none⟩
  | .fault => ⟨w, some .failed, none⟩
  | .rising | .settling => if wait then .same { w with order := some .enable } else ⟨w, some .done, none⟩
  | .off | .falling =>
    if c.shed then ⟨w, some .deferred, none⟩
    else if wait then ({ w with order := some .enable } : Channel).enterRising e now
    else { w.enterRising e now with answer := some .done }

/-- A disable order is taken (R14). -/
def Channel.takeDisable (e : RailEntry) (now : Nat) (wait : Bool) (c : Channel) : ChanStep :=
  let w : Channel := { c with want := false }
  match c.state with
  | .off => ⟨w, some .done, none⟩
  | .fault => ⟨{ w with state := .off, faultKind := none, prior := none }, some .done, none⟩
  | .falling => if wait then .same { w with order := some .disable } else ⟨w, some .done, none⟩
  | .rising | .settling | .on =>
    if wait then ({ w with order := some .disable } : Channel).enterFalling e now
    else { w.enterFalling e now with answer := some .done }

/-- The pending order is withdrawn (R15). -/
def Channel.withdraw (c : Channel) : Channel := { c with order := none }

/-! ### Shedding (R16 to R18) -/

/-- The shed mark at a shed level (R16). -/
def RailEntry.shedAt (e : RailEntry) (level : Nat) : Bool :=
  e.present && decide (1 ≤ e.shedClass) && decide (e.shedClass ≤ level)

/-- The shed mark becomes set (R17): an energised rail falls, and a pending enable order is answered DEFERRED. -/
def Channel.shedSet (e : RailEntry) (now : Nat) (c : Channel) : ChanStep :=
  match c.state with
  | .rising | .settling | .on =>
    let r := ({ c with shed := true } : Channel).answerIf .enable .deferred
    let f := r.1.enterFalling e now
    { f with answer := r.2.or f.answer }
  | .off | .falling | .fault => .same { c with shed := true }

/-- The shed mark becomes clear (R18): a wanted rail that is OFF or FALLING rises again. -/
def Channel.shedClear (e : RailEntry) (now : Nat) (c : Channel) : ChanStep :=
  let r : Channel := { c with shed := false }
  match c.state with
  | .off | .falling => if c.want then r.enterRising e now else .same r
  | .rising | .settling | .on | .fault => .same r

/-- A channel takes a shed level (R16): it acts only if its mark changes. -/
def Channel.takeShed (e : RailEntry) (now level : Nat) (c : Channel) : ChanStep :=
  if e.shedAt level == c.shed then .same c
  else if e.shedAt level then c.shedSet e now
  else c.shedClear e now

/-! ### PG and timers (R6 to R12, R22) -/

/-- The filtered PG becomes good (R7, R11, R22). -/
def Channel.pgBecomesGood (e : RailEntry) (now : Nat) (c : Channel) : ChanStep :=
  let g : Channel := { c with pgGood := true }
  match c.state with
  | .rising => g.enterSettling e now
  | .off | .settling | .on | .falling | .fault => .same g

/-- The filtered PG becomes not-good (R8, R9, R11, R22). -/
def Channel.pgBecomesNotGood (c : Channel) : ChanStep :=
  let g : Channel := { c with pgGood := false }
  match c.state with
  | .settling => g.enterFault .unstable
  | .on => g.enterFault .dropout
  | .falling => g.enterOff
  | .off | .rising | .fault => .same g

/-- The rise timer expires (R7, R12). -/
def Channel.riseExpires (e : RailEntry) (c : Channel) : ChanStep :=
  if c.state = .rising then (if e.timed then c.enterOn else c.enterFault .riseTimeout) else .same c

/-- The settle timer expires (R8). -/
def Channel.settleExpires (c : Channel) : ChanStep :=
  if c.state = .settling then c.enterOn else .same c

/-- The fall timer expires (R11, R12). -/
def Channel.fallExpires (e : RailEntry) (c : Channel) : ChanStep :=
  if c.state = .falling then
    (if !e.timed && c.pgGood then c.enterFault .stuckOn else c.enterOff)
  else .same c

end Sys2Proof.Machine
end

