-- ==== Sys2Proof/Machine/Dimming.lean ====
section
/-! DEFINITION. The DIM_IN measurement (R63 to R65) and the Dimming Path (R66 to R70), with their commands. -/

namespace Sys2Proof.Machine

/-! ### The applied cap (R66) -/

/-- The shed cap of a shed level. -/
def Plan.shedCap (p : Plan) (level : Nat) : Nat :=
  match level with
  | 0 => 1000
  | 1 => p.cap1
  | 2 => p.cap2
  | _ => 0

/-- The target: the smaller of the sequence cap and the shed cap. -/
def State.dimTarget (s : State) : Nat := min s.eng.cap (s.plan.shedCap s.boc.shedLevel)

/-- 10 ms between the expiries of the ramp timer. -/
def rampCounts : Nat := msCounts 10

/-! ### DIM_OUT (R67, R68) -/

/-- The level and duty of a steady state follow the table of R68. -/
def State.dimSteadyOut (s : State) : State :=
  match s.sense.dim.state with
  | .waiting | .periodic => s
  | .steadyLow => s.modDpt fun d => { d with outHigh := false, highEnd := none, duty := 0 }
  | .steadyHigh =>
    if s.dpt.applied = 1000 then s.modDpt fun d => { d with outHigh := true, highEnd := none, duty := 1000 }
    else s.modDpt fun d => { d with outHigh := false, highEnd := none, duty := 0 }

/-- The high time of a duty in a period, in clock counts (R67). -/
def highTime (duty period : Nat) : Nat := duty * period / 1000

/-- At a period start the duty in force is fixed and DIM_OUT takes its level (R67). A high time that rounds down to 0
counts ends at the count of the period start, by DIM_OUT_HIGH_TIME_END (notes/assumptions/53.md). -/
def State.fixDuty (s : State) : State :=
  let duty := min s.sense.dim.duty s.dpt.applied
  s.modDpt fun d =>
    if duty = 0 then { d with duty := 0, outHigh := false, highEnd := none }
    else if duty = 1000 then { d with duty := 1000, outHigh := true, highEnd := none }
    else { d with duty := duty, outHigh := true, highEnd := some (s.clock + highTime duty (s.sense.dim.period.getD 0)) }

/-- The applied cap has fallen within a period: the duty in force is the smaller of the last measured duty and the cap,
and a high time in progress becomes that of the new duty, counted from the period start (R67). Where the cap has risen
within the period before, that time may be the longer one (notes/assumptions/16.md). -/
def State.cutPeriod (s : State) : State :=
  let duty := min s.sense.dim.duty s.dpt.applied
  let until_ := s.sense.dim.start.getD s.clock + highTime duty (s.sense.dim.period.getD 0)
  s.modDpt fun d =>
    if !d.outHigh then { d with duty := duty }
    else if s.clock < until_ then { d with duty := duty, highEnd := some until_ }
    else { d with duty := duty, outHigh := false, highEnd := none }

/-- The applied cap has fallen: DIM_OUT acts on it at once. -/
def State.dimFall (s : State) : State :=
  match s.sense.dim.state with
  | .waiting => s
  | .periodic => s.cutPeriod
  | .steadyLow | .steadyHigh => s.dimSteadyOut

/-- The target is formed afresh (R66): a lower one is taken at once, a higher one starts the ramp. The fall of the shed
level at the rearm is a change of the shed level like any other (R70; notes/assumptions/44.md). -/
def State.retarget (s : State) : State :=
  let t := s.dimTarget
  if t < s.dpt.applied then (s.modDpt fun d => { d with applied := t, ramp := none }).dimFall
  else if s.dpt.applied < t then
    s.modDpt fun d => { d with ramp := some (d.ramp.getD (s.clock + rampCounts)) }
  else s.modDpt fun d => { d with ramp := none }

/-! ### The measurement (R63 to R65) -/

/-- 20 ms without an edge make a steady state (R63). -/
def steadyCounts : Nat := msCounts 20

/-- A period is measured at the period start that ends it (R64). A period of 0 counts, for which the manual gives no duty,
measures a duty of 0, the quotient of Nat (notes/assumptions/43.md). -/
def DimIn.measure (d : DimIn) (start now : Nat) : DimIn :=
  let period := now - start
  let high := d.fall.getD now - start
  { d with state := .periodic, start := some now, fall := none, period := some period, duty := 1000 * high / period }

/-- A rising edge, at the present count of the clock (R63, R64, R67). -/
def State.dimRising (s : State) : State :=
  let d := { s.sense.dim with high := true, lastEdge := s.clock }
  match d.state, d.start with
  | .waiting, none => s.modSense fun m => { m with dim := { d with start := some s.clock, fall := none } }
  | .waiting, some start => (s.modSense fun m => { m with dim := d.measure start s.clock }).fixDuty
  | .periodic, start => (s.modSense fun m => { m with dim := d.measure (start.getD s.clock) s.clock }).fixDuty
  | .steadyLow, _ | .steadyHigh, _ =>
    (s.modSense fun m => { m with dim := { d with state := .waiting, start := some s.clock, fall := none } }).modDpt
      fun o => { o with duty := 0, outHigh := false, highEnd := none }

/-- A falling edge, at the present count of the clock (R63). -/
def State.dimFalling (s : State) : State :=
  let d := { s.sense.dim with high := false, lastEdge := s.clock }
  match d.state with
  | .waiting | .periodic => s.modSense fun m => { m with dim := { d with fall := some s.clock } }
  | .steadyLow | .steadyHigh =>
    (s.modSense fun m => { m with dim := { d with state := .waiting, start := none, fall := none } }).modDpt
      fun o => { o with duty := 0, outHigh := false, highEnd := none }

/-- The measurement is in a steady state. -/
def DimState.steady : DimState → Bool
  | .steadyLow | .steadyHigh => true
  | .waiting | .periodic => false

/-- DIM_IN has held its level for 20 ms (R65). -/
def State.dimBecomesSteady (s : State) : State :=
  (s.modSense fun m =>
    { m with dim :=
        { m.dim with state := if m.dim.high then .steadyHigh else .steadyLow, start := none, fall := none,
                     period := none, duty := if m.dim.high then 1000 else 0 } }).dimSteadyOut

/-- An expiry of the ramp timer (R66). -/
def State.rampStep (s : State) (due : Nat) : State :=
  let applied := min s.dimTarget (s.dpt.applied + s.plan.ramp)
  (s.modDpt fun d =>
    { d with applied := applied, ramp := if applied = s.dimTarget then none else some (due + rampCounts) }).dimSteadyOut

/-! ### Commands -/

/-- DIM_IN_RISING_EDGE (R63, R64, R67): an edge of a running measurement. -/
def execDimInRisingEdge (at_ : Nat) (s : State) : Host.Outcome State Fault Refusal :=
  .next (if s.released && !s.sense.dim.high then (s.reach at_).dimRising else s)

/-- DIM_IN_FALLING_EDGE (R63). -/
def execDimInFallingEdge (at_ : Nat) (s : State) : Host.Outcome State Fault Refusal :=
  .next (if s.released && s.sense.dim.high then (s.reach at_).dimFalling else s)

/-- DIM_IN_STEADY (R65, R68). -/
def execDimInSteady (s : State) : Host.Outcome State Fault Refusal :=
  .next (if s.released && !s.sense.dim.state.steady then
    (s.reach (s.sense.dim.lastEdge + steadyCounts)).dimBecomesSteady else s)

/-- DIM_OUT_HIGH_TIME_END (R67). -/
def execDimOutHighTimeEnd (s : State) : Host.Outcome State Fault Refusal :=
  .next (if s.dpt.outHigh && s.dpt.highEnd.isSome then
    (s.reachTimer s.dpt.highEnd).modDpt fun d => { d with outHigh := false, highEnd := none } else s)

/-- RAMP_EXPIRY (R66). -/
def execRampExpiry (s : State) : Host.Outcome State Fault Refusal :=
  .next (match s.dpt.ramp with
    | some due => (s.reach due).rampStep due
    | none => s)

end Sys2Proof.Machine
end

