-- ==== Sys2Proof/Machine/Engine.lean ====
section
/-! DEFINITION. The Sequence Engine: lines (R30 to R33), the quiet hold (R35), lockouts (R38), step boundaries and
failures (R39, R42), the choice of work (R41), claims (R43 to R45), suspension (R47) and the steps (R26 to R31, R48
to R50). -/

namespace Sys2Proof.Machine

/-! ### Lines (R32, R141) -/

/-- The MAIN_RESET line goes active: a pending fail report is dropped (R141), and what R142 barred is barred no more. -/
def State.lineActive (s : State) : State := s.modFlb fun f => { f with failReport := none, barred := false }

/-- The MAIN_RESET line goes inactive: in IGNORE an internal operation being issued or in flight bars the next (R142). -/
def State.lineInactive (s : State) : State :=
  s.modFlb fun f => { f with barred := f.mode == .ignore && (f.issue.isSome || f.inflight.isSome) }

/-- A control line is driven to a level. When the MAIN_RESET line goes active, a pending fail report is dropped
(R141); the link mode follows the line in `linkReact`. A local answer or the ones of a violation in progress go on to the
deassertion of U_CSN (R128 and R141 differ here; notes/assumptions/46.md). When it goes inactive in IGNORE with an internal
operation being issued or in flight, no further one is taken before RELAY (R142). -/
def State.driveLine (s : State) (l : Fin 6) (active : Bool) : State :=
  if s.eng.lines[l] = active then s
  else
    let t := s.modEng fun e => { e with lines := e.lines.set l active }
    if s.plan.mainLine == some l then
      if active then t.lineActive else t.lineInactive
    else t

/-! ### Lockouts and fault claims (R38, R45) -/

/-- The board lockout is set; with its clearing request inactive it is cleared at once (R38). -/
def State.lockBoard (s : State) : State := s.modEng fun e => { e with boardLock := s.sense.runReq }

/-- The panel lockout is set; with either clearing request inactive it is cleared at once (R38). -/
def State.lockPanel (s : State) : State :=
  s.modEng fun e => { e with panelLock := s.sense.runReq && s.sense.panelReq }

/-- Both lockouts are set. -/
def State.lockBoth (s : State) : State := s.lockBoard.lockPanel

/-- The pending fault claims are taken (R45): discarded outside INIT and NORMAL, setting lockouts there. -/
def State.takeClaims (s : State) : State :=
  let t := s.modEng fun e => { e with claimBoard := false, claimPanel := false }
  match s.boc.state with
  | .init | .normal =>
    if s.eng.claimBoard then t.lockBoth
    else if s.eng.claimPanel then t.lockPanel
    else t
  | .dip | .recover | .commit | .descent | .dark => t

/-! ### Domains (R37) -/

/-- A domain state when its down sequence, its descent sequence or TRIP begins. -/
def DomainState.goDown : DomainState → DomainState
  | .goingUp | .up => .goingDown
  | .down => .down
  | .goingDown => .goingDown

/-- A domain state when its up sequence begins. -/
def DomainState.goUp : DomainState → DomainState
  | .down => .goingUp
  | d => d

/-- A domain state when its up sequence completes. -/
def DomainState.arriveUp : DomainState → DomainState
  | .goingUp => .up
  | d => d

/-- A domain state when its down sequence or descent sequence completes. -/
def DomainState.arriveDown : DomainState → DomainState
  | .goingDown => .down
  | d => d

/-- The domain states when a sequence begins (R37). -/
def Engine.domainsBegin (e : Engine) : SlotName → Engine
  | .boardUp => { e with board := e.board.goUp }
  | .panelUp => { e with panel := e.panel.goUp }
  | .boardDown | .boardSwift => { e with board := e.board.goDown }
  | .panelDown | .panelSwift => { e with panel := e.panel.goDown }
  | .trip => { e with board := e.board.goDown, panel := e.panel.goDown }

/-- The domain states when a sequence completes (R37). -/
def Engine.domainsComplete (e : Engine) : SlotName → Engine
  | .boardUp => { e with board := e.board.arriveUp }
  | .panelUp => { e with panel := e.panel.arriveUp }
  | .boardDown | .boardSwift => { e with board := e.board.arriveDown }
  | .panelDown | .panelSwift => { e with panel := e.panel.arriveDown }
  | .trip => { e with board := .down, panel := .down }

/-! ### The end of a sequence -/

/-- The engine without a sequence; a sequence that ends releases the holds it set (R35, R49). -/
def Engine.idled (e : Engine) : Engine :=
  { e with mode := .idle, slot := none, index := 0, step := .idle, quiesceHold := false, quietHold := false }

/-- The running or suspended sequence ends without its completion effect (R46). -/
def State.seqEnd (s : State) : State := s.modEng Engine.idled

/-- The sequence of a slot completes (R24, R37); the choice that follows is `engineReact`'s. -/
def State.seqComplete (s : State) (n : SlotName) : State := s.modEng fun e => (e.domainsComplete n).idled

/-! ### Step boundaries (R42, R46, R47) -/

/-- The domain of an up sequence is still desired up. -/
def State.seqDesired (s : State) : SlotName → Bool
  | .boardUp => s.boardDesired
  | .panelUp => s.panelDesired
  | .boardDown | .panelDown | .panelSwift | .boardSwift | .trip => true

/-- The running up sequence suspends, keeping its slot and the index of the next step (R47). A quiet hold that the
beginning of BOARD_UP set and its first step has not yet released is released here (R35 names no such case;
notes/assumptions/42.md). -/
def State.suspend (s : State) : State :=
  s.modEng fun e => { e with mode := .suspended, step := .idle, quietHold := false }

/-- The next step of the sequence is to begin, or the sequence completes after its last step (R42). -/
def State.nextStep (s : State) (n : SlotName) : State :=
  if s.eng.index < (s.plan.slotRange n).count then s.modEng fun e => { e with mode := .running, step := .ready }
  else s.seqComplete n

/-- A step boundary, or the judgement of a suspended sequence at the return to NORMAL (R42, R47). -/
def State.boundary (s : State) : State :=
  let t := s.takeClaims
  match t.eng.slot with
  | none => t
  | some n =>
    if n.isUp then
      if t.boc.state != .normal then t.suspend
      else if !t.seqDesired n then t.seqEnd
      else t.nextStep n
    else t.nextStep n

/-- The step completes: a boundary follows (R25). A LINE or LINE_PULSE step releases its quiet hold (R35). -/
def State.stepDone (s : State) : State :=
  (s.modEng fun e => { e with index := e.index + 1, step := .idle, quietHold := false }).boundary

/-- The lockouts of an up sequence abandoned for a failed step (R39). -/
def State.lockForFailure (s : State) : SlotName → State
  | .boardUp => s.lockBoth
  | .panelUp => s.lockPanel
  | .boardDown | .panelDown | .panelSwift | .boardSwift | .trip => s

/-- The step at the step index, if a sequence is held and has one there. -/
def State.currentStep (s : State) : Option Step :=
  match s.eng.slot with
  | some n => if s.eng.index < (s.plan.slotRange n).count then some (s.plan.stepAt n s.eng.index) else none
  | none => none

/-- The step fails (R39): a STEP_FAIL record, then by on_fail and the kind of sequence. -/
def State.stepFail (s : State) (cause : FailCause) : State :=
  match s.eng.slot, s.currentStep with
  | some n, some st =>
    let abandoned := n.isUp && st.abandon
    let t := s.offerRecord (.stepFail n s.eng.index st.kind.code st.kind.target cause abandoned)
    if abandoned then (t.lockForFailure n).seqEnd else t.stepDone
  | _, _ => s

/-- The cause of a failed RAIL_UP or RAIL_DOWN: the fault kind of its channel (R39). -/
def State.railCause (s : State) (ch : Fin 12) : FailCause := .fault ((s.rail ch).faultKind.getD .stuckOn)

/-- A RAIL_UP or RAIL_DOWN step ends on its channel's answer (R26, R27). -/
def State.endOnAnswer (s : State) (ch : Fin 12) (a : Answer) : State :=
  match a with
  | .done | .deferred => s.stepDone
  | .failed => s.stepFail (s.railCause ch)

/-- An answer reaches the engine: it ends the step that waits for it. -/
def State.answerFrom (s : State) (ch : Fin 12) (a : Answer) : State :=
  match s.eng.step with
  | .railWait c => if c = ch then s.endOnAnswer ch a else s
  | _ => s

/-! ### The beginning of a sequence (R35, R37, R41, R43) -/

/-- A sequence begins at step index 0; an empty one completes at the same moment (R24). -/
def State.seqStart (s : State) (n : SlotName) : State :=
  let t := s.modEng fun e => e.domainsBegin n
  if (s.plan.slotRange n).count = 0 then t.seqComplete n
  else t.modEng fun e => { e with mode := .running, slot := some n, index := 0, step := .ready }

/-- The work chosen begins. TRIP of origin RAIL sets both lockouts (R43). The beginning of BOARD_UP that would end
quietness sets the quiet hold and waits for the Journal Unit's internal work (R35); in that wait the engine is RUNNING,
at slot BOARD_UP and index 0 (notes/assumptions/64.md). -/
def State.seqBegin (s : State) (n : SlotName) : State :=
  match n with
  | .trip =>
    let t := s.modEng fun e => { e with trip := none }
    (if s.eng.trip = some .rail then t.lockBoth else t).seqStart .trip
  | .boardUp =>
    if s.eng.board = .down && !s.mainActive then
      let t := s.modEng fun e => { e with quietHold := true }
      if s.internalWork then
        t.modEng fun e => { e with mode := .running, slot := some .boardUp, index := 0, step := .beginWait }
      else t.seqStart .boardUp
    else s.seqStart .boardUp
  | .boardDown | .panelUp | .panelDown | .panelSwift | .boardSwift => s.seqStart n

/-- The work the engine can choose (R41). -/
inductive Choice
  | begin (n : SlotName)
  | takeClaims
deriving DecidableEq, Repr

/-- The choice of work: the first applicable row of R41's table; none where the engine stays IDLE. -/
def State.choice (s : State) : Option Choice :=
  if s.eng.trip.isSome then some (.begin .trip)
  else if s.eng.descent then
    if s.eng.panel != .down then some (.begin .panelSwift)
    else if s.eng.board != .down then some (.begin .boardSwift)
    else none
  else if s.eng.claimBoard || s.eng.claimPanel then some .takeClaims
  else if s.eng.panel != .down && !s.panelDesired then some (.begin .panelDown)
  else if s.eng.board != .down && !s.boardDesired then
    if s.eng.panel != .down then some (.begin .panelDown) else some (.begin .boardDown)
  else if s.boc.state = .normal && s.eng.board == .down && s.boardDesired then some (.begin .boardUp)
  else if s.boc.state = .normal && s.eng.panel == .down && s.panelDesired then some (.begin .panelUp)
  else none

/-! ### Claims (R43, R44) -/

/-- The step in progress is dropped (R25): a pending order is withdrawn (R15), a pulse ends (R31). -/
def State.dropStep (s : State) : State :=
  match s.eng.step with
  | .railWait ch => s.setRail ch (s.rail ch).withdraw
  | .pulsing l _ => s.driveLine l false
  | .idle | .ready | .beginWait | .lineWait | .delaying _ | .awaiting _ _ _ | .linkWait => s

/-- The running sequence is pre-empted: its step is dropped and it ends. -/
def State.preempt (s : State) : State := s.dropStep.seqEnd

/-- A TRIP claim is placed (R43); while TRIP runs it adds nothing. -/
def State.placeTrip (s : State) (o : ClaimOrigin) : State :=
  match s.eng.mode with
  | .idle => s.modEng fun e => { e with trip := some o }
  | .suspended => s.seqEnd.modEng fun e => { e with trip := some o }
  | .running => if s.eng.slot = some .trip then s else s.preempt.modEng fun e => { e with trip := some o }

/-- TRIP and the descent sequences go on under a descent claim (R44). -/
def SlotName.descends : SlotName → Bool
  | .panelSwift | .boardSwift | .trip => true
  | .boardUp | .boardDown | .panelUp | .panelDown => false

/-- The descent claim is placed (R44). -/
def State.placeDescent (s : State) : State :=
  let t := s.modEng fun e => { e with descent := true }
  match s.eng.mode with
  | .idle => t
  | .suspended => t.seqEnd
  | .running =>
    match s.eng.slot with
    | some n => if n.descends then t else t.preempt
    | none => t.preempt

/-- A fault claim is marked (R45). -/
def State.markClaim (s : State) (d : Domain) : State :=
  match d with
  | .board => s.modEng fun e => { e with claimBoard := true }
  | .panel => s.modEng fun e => { e with claimPanel := true }

/-! ### The steps (R26 to R31, R48 to R50) -/

/-- The line is driven, after any wait for quiet (R30, R31). -/
def State.performLine (s : State) : State :=
  match s.currentStep with
  | some ⟨.line l a, _⟩ => (s.driveLine l a).stepDone
  | some ⟨.linePulse l ms, _⟩ =>
    (s.driveLine l true).modEng fun e => { e with step := .pulsing l (s.clock + msCounts ms) }
  | _ => s

/-- A LINE or LINE_PULSE step that would leave the upstream side not quiet (R35). -/
def State.quietEnding (s : State) (k : StepKind) : Bool :=
  s.eng.board != .down &&
    match k with
    | .line l a => s.plan.mainLine == some l && !a
    | .linePulse l _ => s.plan.mainLine == some l
    | _ => false

/-- A LINE or LINE_PULSE step begins (R30, R31, R35). -/
def State.lineStep (s : State) (k : StepKind) : State :=
  if s.quietEnding k then
    let t := s.modEng fun e => { e with quietHold := true }
    if s.internalWork then t.modEng fun e => { e with step := .lineWait } else t.performLine
  else s.performLine

/-- A RAIL_UP or RAIL_DOWN step has given its order: it ends on an answer given at once, or waits (R26, R27). -/
def State.orderTaken (s : State) (ch : Fin 12) (st : ChanStep) : State :=
  let t := s.setRail ch st.chan
  match st.answer with
  | some a => t.endOnAnswer ch a
  | none => t.modEng fun e => { e with step := .railWait ch }

/-- An AWAIT step begins (R29). -/
def State.awaitStep (s : State) (input : Fin 2) (active : Bool) (ms : Nat) : State :=
  if s.sense.aux[input] = active then s.stepDone
  else s.modEng fun e => { e with step := .awaiting input active (s.clock + msCounts ms) }

/-- A FLASH_QUIESCE step begins (R48). -/
def State.quiesceStep (s : State) : State :=
  let t := s.modEng fun e => { e with quiesceHold := true }
  match s.eng.slot with
  | some n => if n.descends || s.linkFree then t.stepDone else t.modEng fun e => { e with step := .linkWait }
  | none => t

/-- A step begins (R25). -/
def State.beginStep (s : State) (k : StepKind) : State :=
  match k with
  | .nop => s.stepDone
  | .railUp ch wait => s.orderTaken ch ((s.rail ch).takeEnable (s.railEntry ch) s.clock wait)
  | .railDown ch wait => s.orderTaken ch ((s.rail ch).takeDisable (s.railEntry ch) s.clock wait)
  | .delay ms => s.modEng fun e => { e with step := .delaying (s.clock + msCounts ms) }
  | .line _ _ | .linePulse _ _ => s.lineStep k
  | .dimLimit v => ((s.modEng fun e => { e with cap := v }).retarget).stepDone
  | .await input active ms => s.awaitStep input active ms
  | .flashQuiesce => s.quiesceStep
  | .flashResume => (s.modEng fun e => { e with quiesceHold := false }).stepDone

/-- The engine is to begin a step of this kind. -/
def State.atStep (s : State) (k : StepKind) : Bool :=
  s.applied && s.eng.mode == .running && s.eng.step == .ready && s.currentStep.map Step.kind == some k

/-- The boundary before a step that is to begin is judged as it stands now: what has come about since it was judged
counts. Before the first step there is no boundary, but no step of an up sequence begins outside NORMAL (R40). -/
def State.rejudge (s : State) : State :=
  if s.eng.index = 0 then
    match s.eng.slot with
    | some n => if n.isUp && s.boc.state != .normal then s.suspend else s
    | none => s
  else s.boundary

/-- The first step of BOARD_UP releases the hold its beginning set (R35). -/
def State.releaseHold (s : State) : State := s.modEng fun e => { e with quietHold := false }

/-- A step command's effect on the engine: the step begins if the engine is to begin it. -/
def State.takeStep (s : State) (k : StepKind) : State :=
  let t := s.rejudge
  if t.atStep k then t.releaseHold.beginStep k else t

/-! ### What the engine does of itself -/

/-- The engine's next action of its own: its choice while IDLE (R41), the end of a wait for quiet (R35) or for the
link (R48), the judgement of a suspended sequence in NORMAL (R47). BOARD_UP does not begin outside NORMAL: a
beginning that waited is then given up. -/
def State.engineReact (s : State) : Option State :=
  if !s.applied then none
  else match s.eng.mode with
    | .idle =>
      match s.choice with
      | some (.begin n) => some (s.seqBegin n)
      | some .takeClaims => some s.takeClaims
      | none => none
    | .suspended => if s.boc.state = .normal then some s.boundary else none
    | .running =>
      match s.eng.step with
      | .beginWait =>
        if s.internalWork then none
        else if s.boc.state = .normal then some (s.seqStart .boardUp)
        else some s.seqEnd
      | .lineWait => if s.internalWork then none else some s.performLine
      | .linkWait => if s.linkFree then some s.stepDone else none
      | .idle | .ready | .railWait _ | .delaying _ | .pulsing _ _ | .awaiting _ _ _ => none

end Sys2Proof.Machine
end

