-- ==== Sys2Proof/Machine/BrownOut.lean ====
section
/-! DEFINITION. The Brown-Out Controller: the shed level (R93), the dip history and the storm test (R94, R95), dips and
recovery (R98 to R106), the commitment (R107 to R111), descent, dark and the rearm (R112 to R117); and the hand-off of
a rail fault (R21, R102). -/

namespace Sys2Proof.Machine

/-! ### The shed level (R16, R66, R93, R98) -/

/-- The peak shed of the current dip takes a higher level reached in DIP (R98). -/
def BrownOut.peakAt (b : BrownOut) (level : Nat) : Option Dip :=
  if b.state = .dip then b.dip.map fun d => { d with peakShed := max d.peakShed level } else b.dip

/-- What a shed level does to one channel (R16). -/
def State.shedStep (s : State) (level : Nat) (ch : Fin 12) : ChanStep :=
  (s.rail ch).takeShed (s.railEntry ch) s.clock level

/-- A new shed level is delivered as one change: the channels take their marks, the Dimming Path its target, and a
step that waited for a rail now shed ends. -/
def State.setShed (s : State) (level : Nat) : State :=
  if level = s.boc.shedLevel then s
  else
    let t := ((s.setRails (Vector.ofFn fun ch => (s.shedStep level ch).chan)).modBoc fun b =>
      { b with shedLevel := level, dip := b.peakAt level }).retarget
    match s.eng.step with
    | .railWait ch =>
      match (s.shedStep level ch).answer with
      | some a => t.endOnAnswer ch a
      | none => t
    | _ => t

/-! ### The dip history (R94, R95) -/

/-- An entry is pushed: position 15 is lost where it held one. -/
def pushEntry (e : DipEntry) (history : List DipEntry) : List DipEntry :=
  (e :: history).take Config.historySlots

/-- The age at which an entry is marked stale, in ms. -/
def staleAge : Nat := 600000

/-- The entries of the history that count towards a storm. -/
def stormEntries (now : Word32) (windowMs : Nat) (history : List DipEntry) : Nat :=
  (history.filter fun e => !e.stale && decide (uptimeAge now e.start < windowMs)).length

/-- The entry of a position is marked stale. -/
def State.markStale (s : State) (pos : Nat) : State :=
  s.modBoc fun b => { b with history := b.history.modify pos fun e => { e with stale := true } }

/-! ### DIP and RECOVER (R98, R99, R103, R104, R106) -/

/-- A current dip is opened by the loss taken now. -/
def State.openDip (s : State) : State :=
  s.modBoc fun b => { b with dip := some ⟨s.sense.uptime, b.shedLevel, (b.latest.map BocBudget.reserve).getD 0⟩ }

/-- A timer started now with a length in ms; a length of 0 leaves it STOPPED. -/
def State.timerIn (s : State) (ms : Nat) : Timer := if ms = 0 then none else some (s.clock + msCounts ms)

/-- DIP is entered. -/
def State.enterDip (s : State) : State :=
  (s.modBoc fun b => { b with state := .dip, ride := s.timerIn s.plan.rideLimitMs, restore := none }).parkedAtState

/-- NORMAL is entered from RECOVER: the held marks become fault claims of the engine (R106). -/
def State.normalFromRecover (s : State) : State :=
  ((s.modEng fun e =>
      { e with claimBoard := e.claimBoard || s.boc.heldBoard, claimPanel := e.claimPanel || s.boc.heldPanel }).modBoc
    fun b => { b with state := .normal, restore := none, heldBoard := false, heldPanel := false }).parkedAtState

/-- An expiry of the restore timer: one level less, and NORMAL at level 0 (R104). -/
def State.restoreStep (s : State) : State :=
  let t := s.setShed (s.boc.shedLevel - 1)
  if s.boc.shedLevel ≤ 1 then t.normalFromRecover
  else t.modBoc fun b => { b with restore := some (s.clock + msCounts s.plan.restoreStepMs) }

/-- The current dip is closed and pushed, and reported in a DIP record (R103). -/
def State.closeDip (s : State) : State :=
  match s.boc.dip with
  | some d =>
    ((s.modBoc fun b =>
        { b with history :=
            pushEntry ⟨d.start, s.dipCount, d.peakShed, clamp16 d.minReserve, false⟩ b.history }).offerRecord
      (.dip d.start s.dipCount d.peakShed (clamp16 d.minReserve))).modBoc fun b => { b with dip := none }
  | none => s

/-- RECOVER is entered from DIP (R103, R104). -/
def State.enterRecover (s : State) : State :=
  let t := ((s.modBoc fun b => { b with ride := none }).closeDip.modBoc fun b =>
    { b with state := .recover, restore := s.timerIn s.plan.restoreDelayMs }).parkedAtState
  if s.plan.restoreDelayMs = 0 then t.restoreStep else t

/-! ### The commitment (R107 to R109, R111) -/

/-- The commit notes of this moment (R108). -/
def State.commitNotes (s : State) : CommitNotes :=
  match s.boc.latest with
  | some b => ⟨s.sense.uptime, b.reserve, b.eUs, b.tDd⟩
  | none => ⟨s.sense.uptime, 0, 0, 0⟩

/-- COMMIT is entered (R107); what follows with nothing in flight is `bocReact`'s. -/
def State.enterCommit (s : State) (reason : CommitReason) : State :=
  ((s.modBoc fun b =>
      { b with state := .commit, ride := none, restore := none, heldBoard := false, heldPanel := false,
               reason := reason, notes := some s.commitNotes }).setShed 3).parkedAtState

/-- The operation in flight is marked AT_RISK, and noted for the SURVIVAL record (R109). -/
def State.markAtRisk (s : State) : State :=
  match s.flb.inflight with
  | some f =>
    (s.modFlb fun l => { l with inflight := some { f with atRisk := true } }).modBoc
      fun b => { b with atRisk := some (f.op, f.origin) }
  | none => s

/-- DESCENT is entered, and the descent claim placed (R109, R112). -/
def State.enterDescent (s : State) : State :=
  (s.modBoc fun b =>
    { b with state := .descent, ride := none, restore := none, mains := none, heldBoard := false,
             heldPanel := false }).placeDescent.parkedAtState

/-- DARK is entered (R113). -/
def State.enterDark (s : State) : State :=
  (((s.modEng fun e => { e with descent := false }).modBoc fun b =>
    { b with state := .dark, ride := none, restore := none, heldBoard := false, heldPanel := false,
             mains := if s.sense.acOk then some (s.clock + msCounts s.plan.rearmDelayMs) else none,
             mainsMet := false }).parkedAtState).survivalBegin

/-- The rearm (R117). Its fall of the shed level forms the dimming target afresh, which may start the ramp timer
(notes/assumptions/44.md). -/
def State.rearm (s : State) : State :=
  let t := (s.modBoc fun b =>
    { b with state := .normal, mains := none, mainsMet := false, dip := none, reason := .none, notes := none,
             acReturned := false, atRisk := none, survival := .notBegun }).setShed 0
  (if s.plan.autoResume then t.modEng fun e => { e with boardLock := false, panelLock := false }
    else t.lockBoth).parkedAtState

/-- NORMAL is entered from INIT (R96). -/
def State.normalFromInit (s : State) : State :=
  (s.modBoc fun b => { b with state := .normal, mains := none, mainsMet := false }).parkedAtState

/-- A bus collapse takes the controller to DESCENT with a TRIP claim, or to DARK with both domains DOWN (R111). The shed
level acts before the claim, and the claim before a parked command is refused (notes/assumptions/67.md). -/
def State.collapseDown (s : State) (notes : Option CommitNotes) : State :=
  let target : BocState := if s.eng.bothDown then .dark else .descent
  let t := ((s.modBoc fun b =>
    { b with state := target, ride := none, restore := none, heldBoard := false, heldPanel := false,
             reason := .busCollapse, notes := notes }).setShed 3).markAtRisk
  if s.eng.bothDown then t.enterDark else (t.placeTrip .boc).enterDescent

/-- A bus collapse is taken (R111). -/
def State.bocCollapse (s : State) : State :=
  match s.boc.state with
  | .init | .dark => s
  | .normal | .dip | .recover => s.collapseDown (some s.commitNotes)
  | .commit => s.collapseDown s.boc.notes
  | .descent => s.placeTrip .boc

/-! ### Losses and returns of AC_OK (R96, R97, R103, R105, R110, R112, R116) -/

/-- The storm test, whose count is kept (R95). -/
def State.stormTest (s : State) : State :=
  s.modBoc fun b => { b with stormFound := stormEntries s.sense.uptime s.plan.stormWindowMs b.history }

/-- A loss taken in NORMAL (R97). -/
def State.lossInNormal (s : State) : State :=
  let t := s.stormTest.openDip
  if s.plan.stormCount ≤ t.boc.stormFound then t.enterCommit .storm else t.enterDip

/-- A loss of AC_OK reaches the controller. -/
def State.bocLoss (s : State) : State :=
  match s.boc.state with
  | .init | .dark => s.modBoc fun b => { b with mains := none, mainsMet := false }
  | .normal => s.lossInNormal
  | .recover => s.openDip.enterDip
  | .dip | .commit | .descent => s

/-- A return of AC_OK reaches the controller, with the dip window count that `dipCount` now holds. -/
def State.bocReturn (s : State) : State :=
  match s.boc.state with
  | .init | .dark => s.modBoc fun b => { b with mains := some (s.clock + msCounts s.plan.rearmDelayMs), mainsMet := false }
  | .dip => s.enterRecover
  | .commit | .descent => s.modBoc fun b => { b with acReturned := true }
  | .normal | .recover => s

/-! ### Computations (R100, R105, R110, R112) -/

/-- The target level of a reserve (R100). -/
def Plan.targetLevel (p : Plan) (reserve : Int) : Nat :=
  if (p.s1 : Int) ≤ reserve then 0
  else if (p.s2 : Int) ≤ reserve then 1
  else if (p.s3 : Int) ≤ reserve then 2
  else 3

/-- The controller keeps a computation; the current dip takes its reserve in DIP, COMMIT and DESCENT (R98). -/
def BrownOut.keep (b : BrownOut) (r : Budget) : BrownOut :=
  { b with
    latest := some ⟨r.reserve, r.eUs, r.tDd, r.deadline⟩
    dip :=
      match b.state with
      | .dip | .commit | .descent => b.dip.map fun d => { d with minReserve := min d.minReserve r.reserve }
      | .init | .normal | .recover | .dark => b.dip }

/-- The controller takes a computation. -/
def State.bocTakes (s : State) (r : Budget) : State :=
  let t := s.modBoc fun b => b.keep r
  match s.boc.state with
  | .dip =>
    if r.reserve < 0 then t.enterCommit .reserve
    else t.setShed (max t.boc.shedLevel (s.plan.targetLevel r.reserve))
  | .commit => if r.deadline && s.flb.inflight.isSome then t.markAtRisk.enterDescent else t
  | .init | .normal | .recover | .descent | .dark => t

/-! ### Rail faults (R21, R102) -/

/-- A held fault mark is set. -/
def State.holdMark (s : State) (d : Domain) : State :=
  s.modBoc fun b =>
    match d with
    | .board => { b with heldBoard := true }
    | .panel => { b with heldPanel := true }

/-- The controller takes a rail fault (R102). -/
def State.bocFault (s : State) (e : RailEntry) (kind : FaultKind) : State :=
  match s.boc.state with
  | .dip =>
    if kind = .dropout then s.enterCommit .dropout
    else if e.faultAction = .domainDown then s.holdMark e.domain
    else s
  | .recover => if e.faultAction = .domainDown then s.holdMark e.domain else s
  | .init | .normal | .commit | .descent | .dark => s

/-- The engine takes a rail fault by its fault_action (R21, R43, R45). -/
def State.engineFault (s : State) (e : RailEntry) : State :=
  match e.faultAction with
  | .log => s
  | .domainDown => s.markClaim e.domain
  | .trip => s.placeTrip .rail

/-- The RAIL_FAULT record of a fault just entered (R21). -/
def State.faultRecord (s : State) (ch : Fin 12) (kind : FaultKind) : State :=
  s.offerRecord (.railFault ch (s.railEntry ch).tag kind ((s.rail ch).prior.getD .off) s.eng.slot s.eng.index)

/-- An event of a channel: the channel after it, the record of a fault, the answer the engine waits for, and the
hand-off of the fault to the engine and the controller (R21). -/
def State.chanEvent (s : State) (ch : Fin 12) (st : ChanStep) : State :=
  let t := s.setRail ch st.chan
  let u := match st.fault with
    | some k => t.faultRecord ch k
    | none => t
  let v := match st.answer with
    | some a => u.answerFrom ch a
    | none => u
  match st.fault with
  | some k => (v.engineFault (s.railEntry ch)).bocFault (s.railEntry ch) k
  | none => v

end Sys2Proof.Machine
end

