-- ==== Sys2Proof/Machine/Settle.lean ====
section
/-! DEFINITION. What follows of itself at the moment of an event: the link mode follows the MAIN_RESET line (R121, R142),
the Brown-Out Controller passes on (R96, R107, R109, R112, R116), the engine chooses and resumes (R41, R47, R48, R35),
the Journal Unit works (R171, R175) and the bridge takes what it offers (R138). -/

namespace Sys2Proof.Machine

/-- RELAY and IGNORE follow the MAIN_RESET line once nothing of the link is under way (R121, R141, R142). At a deassertion
this goes before an internal operation that waits for it (notes/assumptions/54.md). In RELAY the level at the deassertion
decides, whatever the line did during the transaction (notes/assumptions/62.md). -/
def State.linkReact (s : State) : Option State :=
  match s.flb.mode with
  | .tenure => none
  | .relay =>
    if s.mainActive && s.flb.xfer.isNone then some (s.modFlb fun f => { f with mode := .ignore }) else none
  | .ignore =>
    if s.applied && !s.mainActive && s.flb.xfer.isNone && s.flb.inflight.isNone && s.flb.issue.isNone &&
        s.flb.tenure.isNone then
      some (s.modFlb fun f => { f with mode := .relay, barred := false })
    else none

/-- The controller passes on where the condition of its next state holds. -/
def State.bocReact (s : State) : Option State :=
  if !s.applied then none
  else match s.boc.state with
    | .init => if s.boc.mainsMet && s.boc.latest.isSome then some s.normalFromInit else none
    | .commit => if s.flb.inflight.isNone then some s.enterDescent else none
    | .descent => if s.eng.bothDown then some s.enterDark else none
    | .dark => if s.boc.mainsMet && s.boc.survival == .ended then some s.rearm else none
    | .normal | .dip | .recover => none

/-- The next thing that follows of itself, if any. -/
def State.react (s : State) : Option State :=
  s.linkReact <|> s.bocReact <|> s.engineReact <|> s.survivalWaitEnd <|> s.quietWork <|> s.takeOffer

/-- Everything that follows, `fuel` things at most. -/
def State.settleFor (s : State) : Nat → State
  | 0 => s
  | fuel + 1 =>
    match s.react with
    | some t => t.settleFor fuel
    | none => s

/-- The most things one event is followed through: more than any chain the rules give. -/
def settleFuel : Nat := 64

/-- The state after an event and all that follows from it at the same moment. -/
def State.settle (s : State) : State := s.settleFor settleFuel

end Sys2Proof.Machine
end

