-- ==== Sys2Proof/Machine/RailCommands.lean ====
section
/-! DEFINITION. The commands of the Rail Channel Array: changes of a filtered PG (R4, R7 to R11, R22) and the expiries of a
channel's timers (R7, R8, R11, R12). -/

namespace Sys2Proof.Machine

/-- A channel whose PG events reach it: present, MONITORED, and the plan applied (R2, R4). -/
def State.pgFollowed (s : State) (ch : Fin 12) : Bool :=
  s.applied && (s.railEntry ch).present && !(s.railEntry ch).timed

/-- The PG filter of a channel changes: its time, by the channel's pg_filter, has passed with the raw pin at its new
level (R1, R4). -/
def State.pgFiltered (s : State) (ch : Fin 12) (pin : RawPin) : State :=
  let t := s.reach (pinDue pin s.sense.filters.pg[ch] (filterCounts (s.railEntry ch).pgFilter))
  t.modFilters fun f => { f with pg := f.pg.set ch t.clock }

/-- FILTERED_PG_GOOD (R4, R7, R22). -/
def execFilteredPgGood (ch : Fin 12) (s : State) (pin : RawPin := ⟨true, 0⟩) : Host.Outcome State Fault Refusal :=
  .next (if s.pgFollowed ch && !(s.rail ch).pgGood && pinActive pin (s.railEntry ch).pgActiveLow then
    let t := s.pgFiltered ch pin
    (t.chanEvent ch ((s.rail ch).pgBecomesGood (s.railEntry ch) t.clock)).settle else s)

/-- FILTERED_PG_NOT_GOOD (R4, R8, R9, R11, R22). -/
def execFilteredPgNotGood (ch : Fin 12) (s : State) (pin : RawPin := ⟨false, 0⟩) : Host.Outcome State Fault Refusal :=
  .next (if s.pgFollowed ch && (s.rail ch).pgGood && !pinActive pin (s.railEntry ch).pgActiveLow then
    ((s.pgFiltered ch pin).chanEvent ch (s.rail ch).pgBecomesNotGood).settle else s)

/-- RISE_TIMER_EXPIRY (R7, R12). -/
def execRiseTimerExpiry (ch : Fin 12) (s : State) : Host.Outcome State Fault Refusal :=
  .next (match (s.rail ch).rise with
    | some due => ((s.reach due).chanEvent ch ((s.rail ch).riseExpires (s.railEntry ch))).settle
    | none => s)

/-- SETTLE_TIMER_EXPIRY (R8). -/
def execSettleTimerExpiry (ch : Fin 12) (s : State) : Host.Outcome State Fault Refusal :=
  .next (match (s.rail ch).settle with
    | some due => ((s.reach due).chanEvent ch (s.rail ch).settleExpires).settle
    | none => s)

/-- FALL_TIMER_EXPIRY (R11, R12). -/
def execFallTimerExpiry (ch : Fin 12) (s : State) : Host.Outcome State Fault Refusal :=
  .next (match (s.rail ch).fall with
    | some due => ((s.reach due).chanEvent ch ((s.rail ch).fallExpires (s.railEntry ch))).settle
    | none => s)

end Sys2Proof.Machine
end

