-- ==== Sys2Proof/Machine/SequenceCommands.lean ====
section
/-! DEFINITION. The commands of the Sequence Engine: the beginning of each kind of step (R25 to R31, R48 to R50), the ends
of the steps that take time (R28, R29, R31), and the changes of the AUX and request inputs (R29, R36, R38, R58). -/

namespace Sys2Proof.Machine

/-! ### The beginning of a step

A step command stands for the beginning of the step at the step index: where the engine is not to begin a step of this
kind with these parameters, no such event takes place. -/

/-- The beginning of a step and what follows from it. -/
def State.stepEvent (s : State) (k : StepKind) : State := if s.atStep k then (s.takeStep k).settle else s

/-- RAIL_UP (R13, R26). -/
def execRailUp (rail : Fin 12) (wait : Bool) (s : State) : Host.Outcome State Fault Refusal := .next (s.stepEvent (.railUp rail wait))

/-- RAIL_DOWN (R14, R27). -/
def execRailDown (rail : Fin 12) (wait : Bool) (s : State) : Host.Outcome State Fault Refusal := .next (s.stepEvent (.railDown rail wait))

/-- DELAY (R28). -/
def execDelay (ms : Nat) (s : State) : Host.Outcome State Fault Refusal := .next (s.stepEvent (.delay ms))

/-- LINE (R30, R35). -/
def execLine (ctl : Fin 6) (active : Bool) (s : State) : Host.Outcome State Fault Refusal := .next (s.stepEvent (.line ctl active))

/-- LINE_PULSE (R31, R35). -/
def execLinePulse (ctl : Fin 6) (ms : Nat) (s : State) : Host.Outcome State Fault Refusal := .next (s.stepEvent (.linePulse ctl ms))

/-- DIM_LIMIT (R50, R66). -/
def execDimLimit (value : Nat) (s : State) : Host.Outcome State Fault Refusal := .next (s.stepEvent (.dimLimit value))

/-- AWAIT (R29). -/
def execAwait (input : Fin 2) (active : Bool) (ms : Nat) (s : State) : Host.Outcome State Fault Refusal := .next (s.stepEvent (.await input active ms))

/-- FLASH_QUIESCE (R48). -/
def execFlashQuiesce (s : State) : Host.Outcome State Fault Refusal := .next (s.stepEvent .flashQuiesce)

/-- FLASH_RESUME (R49). -/
def execFlashResume (s : State) : Host.Outcome State Fault Refusal := .next (s.stepEvent .flashResume)

/-- NOP (R25). -/
def execNop (s : State) : Host.Outcome State Fault Refusal := .next (s.stepEvent .nop)

/-! ### The end of a step that takes time -/

/-- DELAY_EXPIRY (R28). -/
def execDelayExpiry (s : State) : Host.Outcome State Fault Refusal :=
  .next (match s.eng.step with
    | .delaying due => (s.reach due).stepDone.settle
    | _ => s)

/-- LINE_PULSE_EXPIRY (R31). -/
def execLinePulseExpiry (s : State) : Host.Outcome State Fault Refusal :=
  .next (match s.eng.step with
    | .pulsing l due => ((s.reach due).driveLine l false).stepDone.settle
    | _ => s)

/-- AWAIT_TIMEOUT (R29, R39). -/
def execAwaitTimeout (s : State) : Host.Outcome State Fault Refusal :=
  .next (match s.eng.step with
    | .awaiting _ _ due => ((s.reach due).stepFail .timeout).settle
    | _ => s)

/-! ### AUX inputs and requests -/

/-- An AWAIT step that waits for this level of this input completes (R29). -/
def State.auxSeen (s : State) (input : Fin 2) (active : Bool) : State :=
  match s.eng.step with
  | .awaiting i a _ => if i = input ∧ a = active then s.stepDone else s
  | _ => s

/-- Polarity and filter code of an AUX input (R58). -/
def Plan.auxEntry (p : Plan) (input : Fin 2) : InputEntry := if input = 0 then p.aux0 else p.aux1

/-- The filter of an AUX input changes to a level, its time having passed with the raw pin there (R57, R58). -/
def State.auxFiltered (s : State) (input : Fin 2) (pin : RawPin) (active : Bool) : State :=
  let t := s.reach (pinDue pin s.sense.filters.aux[input] (filterCounts (s.plan.auxEntry input).filter))
  t.modSense fun m =>
    { m with aux := m.aux.set input active, filters := { m.filters with aux := m.filters.aux.set input t.clock } }

/-- AUX_CHANGE (R29, R58): the filter runs from the plan application (R57). -/
def execAuxChange (input : Fin 2) (pin : RawPin) (s : State) : Host.Outcome State Fault Refusal :=
  let active := pinActive pin (s.plan.auxEntry input).activeLow
  .next (if s.applied && s.sense.aux[input] != active then
    ((s.auxFiltered input pin active).auxSeen input active).settle else s)

/-- The filtered level of a request (R36). -/
def Sense.request (m : Sense) : Request → Bool
  | .run => m.runReq
  | .panel => m.panelReq

/-- A filtered request takes a level; going inactive it clears the lockouts it clears (R36, R38). -/
def State.requestTaken (s : State) (r : Request) (active : Bool) : State :=
  match r with
  | .run =>
    (s.modSense fun m => { m with runReq := active }).modEng fun e =>
      { e with boardLock := e.boardLock && active, panelLock := e.panelLock && active }
  | .panel =>
    (s.modSense fun m => { m with panelReq := active }).modEng fun e => { e with panelLock := e.panelLock && active }

/-- The filter of a request changes, 1 ms having passed with the raw pin at its new level (R57). -/
def State.requestFiltered (s : State) (r : Request) (pin : RawPin) : State :=
  match r with
  | .run =>
    let t := s.reach (pinDue pin s.sense.filters.runReq requestCounts)
    t.modFilters fun f => { f with runReq := t.clock }
  | .panel =>
    let t := s.reach (pinDue pin s.sense.filters.panelReq requestCounts)
    t.modFilters fun f => { f with panelReq := t.clock }

/-- REQUEST_CHANGE (R36, R38, R41): the pins are active high, and the filters run from the release of part reset (R57). -/
def execRequestChange (request : Request) (pin : RawPin) (s : State) : Host.Outcome State Fault Refusal :=
  .next (if s.released && s.sense.request request != pin.high then
    ((s.requestFiltered request pin).requestTaken request pin.high).settle else s)

end Sys2Proof.Machine
end

