-- ==== Sys2Proof/Machine/MainsCommands.lean ====
section
/-! DEFINITION. The commands of the Brown-Out Controller and of mains: losses and returns of AC_OK (R59, R60), the
controller's timers (R96, R101, R104, R116), the computations and bus collapses it takes (R100, R111) and the stale mark
(R94). -/

namespace Sys2Proof.Machine

/-- The filter of AC_OK changes, its time having passed with the raw pin at its new level (R57, R59). -/
def State.acOkFiltered (s : State) (pin : RawPin) : State :=
  let t := s.reach (pinDue pin s.sense.filters.acOk (acOkCounts s.plan.acOk.filter))
  t.modFilters fun f => { f with acOk := t.clock }

/-- The loss of AC_OK: the dip window timer starts at 0, and the controller takes the loss (R59, R60). -/
def State.acOkLost (s : State) : State :=
  (s.modSense fun m => { m with acOk := false, dipSince := some s.clock, dipHeld := 0 }).bocLoss

/-- The return of AC_OK: the dip window timer stops, and the controller takes the return (R59, R60). -/
def State.acOkBack (s : State) : State :=
  (s.modSense fun m => { m with acOk := true, dipSince := none, dipHeld := s.dipCount }).bocReturn

/-- AC_OK_LOSS (R59, R60, R96, R97, R105, R110, R112, R116). -/
def execAcOkLoss (s : State) (pin : RawPin := ⟨false, 0⟩) : Host.Outcome State Fault Refusal :=
  .next (if s.applied && s.sense.acOk && !pinActive pin s.plan.acOk.activeLow then (s.acOkFiltered pin).acOkLost.settle else s)

/-- AC_OK_RETURN (R59, R60, R96, R103, R110, R112, R116). -/
def execAcOkReturn (s : State) (pin : RawPin := ⟨true, 0⟩) : Host.Outcome State Fault Refusal :=
  .next (if s.applied && !s.sense.acOk && pinActive pin s.plan.acOk.activeLow then (s.acOkFiltered pin).acOkBack.settle else s)

/-- RIDE_TIMER_EXPIRY (R101). -/
def execRideTimerExpiry (s : State) : Host.Outcome State Fault Refusal :=
  .next (match s.boc.ride with
    | some due => ((s.reach due).enterCommit .rideLimit).settle
    | none => s)

/-- RESTORE_TIMER_EXPIRY (R104). -/
def execRestoreTimerExpiry (s : State) : Host.Outcome State Fault Refusal :=
  .next (match s.boc.restore with
    | some due => (((s.reach due).modBoc fun b => { b with restore := none }).restoreStep).settle
    | none => s)

/-- MAINS_TIMER_EXPIRY (R96, R116); what it lets take place is `bocReact`'s. -/
def execMainsTimerExpiry (s : State) : Host.Outcome State Fault Refusal :=
  .next (match s.boc.mains with
    | some due => ((s.reach due).modBoc fun b => { b with mains := none, mainsMet := true }).settle
    | none => s)

/-- BOC_COMPUTATION (R88, R100, R105, R110, R112, R113): the computation offered is taken. -/
def execBocComputation (s : State) : Host.Outcome State Fault Refusal :=
  .next (if s.sense.bocOffer then
    match s.hbu with
    | some r => ((s.modSense fun m => { m with bocOffer := false }).bocTakes r).settle
    | none => s
  else s)

/-- BUS_COLLAPSE (R61, R111): the collapse delivered is taken. -/
def execBusCollapse (s : State) : Host.Outcome State Fault Refusal :=
  .next (if s.sense.collapse then ((s.modSense fun m => { m with collapse := false }).bocCollapse).settle else s)

/-- The entry of a position of the history has reached the age at which it is marked stale (R94). -/
def State.staleDue (s : State) (pos : Nat) : Bool :=
  match s.boc.history[pos]? with
  | some e => !e.stale && decide (staleAge ≤ uptimeAge s.sense.uptime e.start)
  | none => false

/-- DIP_ENTRY_STALE (R94). -/
def execDipEntryStale (pos : Fin 16) (s : State) : Host.Outcome State Fault Refusal :=
  .next (if s.staleDue pos.val then s.markStale pos.val else s)

end Sys2Proof.Machine
end

