-- ==== Sys2Proof/Machine/Budget.lean ====
section
/-! DEFINITION. The Holdup Budget Unit (R71 to R87), and the command by which the Admission Unit takes a computation
(R88, R157). -/

namespace Sys2Proof.Machine

/-- What a computation reads (R71). -/
structure Inputs where
  vbulkV : Nat
  vbusMv : Nat
  ibusMa : Nat
  railsMw : Nat
  duty : Nat
  panelDown : Bool
  boardDown : Bool
  /-- the class and elapsed time of the operation in flight -/
  flight : Option (OpClass × Nat)
deriving DecidableEq, Repr

/-- The bound at which costs saturate, in mJ. -/
def costLimit : Nat := 1000000

/-- E_st (R76). -/
def Plan.storedEnergy (p : Plan) (vb : Nat) : Nat := p.capUf * (vb ^ 2 - p.dropoutV ^ 2) / 2000

/-- E_us (R77). -/
def Plan.usableEnergy (p : Plan) (eSt : Nat) : Nat := eSt * p.eff / 1000

/-- P_meas (R78). -/
def measuredLoad (vbusMv ibusMa : Nat) : Nat := ceilDiv (vbusMv * ibusMa) 1000

/-- P_model (R79). -/
def Plan.modelledLoad (p : Plan) (i : Inputs) : Nat :=
  p.baseMw + i.railsMw + ceilDiv (p.blFullMw * i.duty) 1000 + (if i.flight.isSome then p.flashActiveMw else 0)

/-- T_desc (R81). -/
def Plan.descentTime (p : Plan) (i : Inputs) : Nat :=
  (if i.panelDown then 0 else p.tPanelSwift) + (if i.boardDown then 0 else p.tBoardSwift)

/-- D_cost (R81). -/
def descentCost (load tDesc : Nat) : Nat := min costLimit (ceilDiv (load * tDesc) 1000)

/-- A load over a time in 0.1 ms, as a cost (R82, R87). -/
def flashEnergy (load tenths : Nat) : Nat := min costLimit (ceilDiv (load * tenths) 10000)

/-- F_cost (R82). -/
def Plan.flashCost (p : Plan) (load : Nat) : Option (OpClass × Nat) → Nat
  | none => 0
  | some (op, elapsed) => flashEnergy load (p.maxTime.at op - elapsed)

/-- T_dd (R86). -/
def timeToDropout (eUs load : Nat) : Nat := if load = 0 then 65535 else min 65535 (eUs * 1000 / load)

/-- A_cost of the five classes (R87). -/
def Plan.admissionCosts (p : Plan) (load : Nat) : PerOp :=
  { program := flashEnergy load p.maxTime.program
    eraseSector := flashEnergy load p.maxTime.eraseSector
    eraseBlock := flashEnergy load p.maxTime.eraseBlock
    eraseDevice := flashEnergy load p.maxTime.eraseDevice
    regWrite := flashEnergy load p.maxTime.regWrite }

/-- The computation (R71 to R87). -/
def Plan.compute (p : Plan) (i : Inputs) : Budget :=
  let eSt := p.storedEnergy i.vbulkV
  let eUs := p.usableEnergy eSt
  let pMeas := measuredLoad i.vbusMv i.ibusMa
  let pModel := p.modelledLoad i
  let load := max pMeas pModel
  let tDesc := p.descentTime i
  let dCost := descentCost load tDesc
  let fCost := p.flashCost load i.flight
  let eCm := dCost + fCost + p.recordCost + p.margin
  let free : Int := (eUs : Int) - ((dCost + p.recordCost + p.margin : Nat) : Int)
  { eSt := eSt, eUs := eUs, pMeas := pMeas, pModel := pModel, pLoad := load, tDesc := tDesc, dCost := dCost,
    fCost := fCost, eCm := eCm, reserve := (eUs : Int) - (eCm : Int), flashFree := free,
    deadline := decide (free ≤ 0), tDd := timeToDropout eUs load, aCost := p.admissionCosts load }

/-- The inputs as they stand at a computation (R71, R89). -/
def State.budgetInputs (s : State) : Inputs :=
  { vbulkV := s.sense.vbulkV.getD 0, vbusMv := s.sense.vbusMv.getD 0, ibusMa := s.sense.ibusMa.getD 0,
    railsMw := s.railLoad, duty := s.dpt.duty, panelDown := s.eng.panel == .down, boardDown := s.eng.board == .down,
    flight := s.flb.inflight.map fun f => (f.op, f.elapsed s.clock) }

/-- ADU_COMPUTATION (R88, R151, R157): the Admission Unit takes the computation offered. -/
def execAduComputation (s : State) : Host.Outcome State Fault Refusal :=
  .next (if s.sense.aduOffer then
    match s.hbu with
    | some b => ((s.modSense fun m => { m with aduOffer := false }).aduTakes b).settle
    | none => s
  else s)

end Sys2Proof.Machine
end

