-- ==== Sys2Proof/Machine/Sensing.lean ====
section
/-! DEFINITION. The Measurement Unit's scan (R52 to R55), its bus-floor check (R61) and uptime (R62), with their
commands. -/

namespace Sys2Proof.Machine

/-- A trimmed code (R53). -/
def trimCode (raw : BitVec 12) (trim : Int) : Nat := (max 0 (min 4095 ((raw.toNat : Int) + trim))).toNat

/-- A trimmed code in engineering units (R54). -/
def toUnits (code scale : Nat) : Nat := code * scale / 4095

/-- The IBUS ring with one more code (R55). -/
def pushCode (ring : List Nat) (code : Nat) : List Nat := (ring ++ [code]).drop (ring.length + 1 - 8)

/-- The average code of the ring (R55). -/
def averageCode (ring : List Nat) : Nat := ring.sum / ring.length

/-- The trim in force for a conversion: the plan's, for a conversion that ends after the plan application (R53). -/
def State.trimFor (s : State) (ended : Nat) (trim : Int) : Int :=
  if s.applied && decide (s.load.appliedAt < ended) then trim else 0

/-- The trimmed codes of a scan that completes now, and the values formed from them (R52 to R55). -/
def State.takeCodes (s : State) (vbus vbulk ibus vstby : BitVec 12) : State :=
  let ended (after : Nat) : Nat := s.clock - after * Config.countsPerConversion
  let vbusCode := trimCode vbus (s.trimFor (ended 3) s.plan.trimVbus)
  let vbulkCode := trimCode vbulk (s.trimFor (ended 2) s.plan.trimVbulk)
  let ibusCode := trimCode ibus (s.trimFor (ended 1) s.plan.trimIbus)
  let ring := pushCode s.sense.ibusRing ibusCode
  let scaled (v : Nat) : Option Nat := if s.applied then some v else none
  s.modSense fun m =>
    { m with
      ibusRing := ring
      vbusMv := scaled (min 32767 (toUnits vbusCode s.plan.scaleVbus))
      vbulkV := scaled (toUnits vbulkCode s.plan.scaleVbulk)
      ibusMa := scaled (toUnits (averageCode ring) s.plan.scaleIbus)
      vstbyMv := trimCode vstby (s.trimFor (ended 0) s.plan.trimVstby) }

/-- The bus-floor check acts on the VBUS value of a scan (R61). -/
def Sense.busFloor (m : Sense) (floor vbus : Nat) : Sense :=
  if floor = 0 then m
  else if decide (vbus < floor) == m.busBelow then { m with busCount := 0 }
  else if m.busCount + 1 < 3 then { m with busCount := m.busCount + 1 }
  else if m.busBelow then { m with busBelow := false, busCount := 0 }
  else { m with busBelow := true, busCount := 0, collapse := true }

/-- What a scan completion does once the plan is applied: the bus-floor check, and the computation, which is offered to
the Brown-Out Controller and to the Admission Unit (R52, R71, R88). -/
def State.scanOffers (s : State) : State :=
  let t := s.modSense fun m => { m.busFloor s.plan.busFloorMv (m.vbusMv.getD 0) with bocOffer := true, aduOffer := true }
  t.setHbu (some (s.plan.compute s.budgetInputs))

/-- The clock and the next completion at a scan completion (R52). -/
def State.reachScan (s : State) : State :=
  let now := nextMoment s.clock s.sense.scanDue Config.countsPerScan
  (s.setClock now).modSense fun m => { m with scanDue := now + Config.countsPerScan }

/-- SCAN_COMPLETION (R52 to R55, R61, R71 to R88). -/
def execScanCompletion (vbus vbulk ibus vstby : BitVec 12) (s : State) : Host.Outcome State Fault Refusal :=
  .next (if s.released then
    let t := s.reachScan.takeCodes vbus vbulk ibus vstby
    if t.applied then t.scanOffers else t
  else s)

/-- A millisecond ends (R62). -/
def State.endMs (s : State) : State :=
  (s.reach s.sense.msDue).modSense fun m => { m with uptime := m.uptime + 1, msDue := m.msDue + Config.countsPerMs }

/-- UPTIME_TICK (R62). -/
def execUptimeTick (s : State) : Host.Outcome State Fault Refusal := .next (if s.released then s.endMs else s)

end Sys2Proof.Machine
end

