-- ==== Sys2Proof/Machine/FlashLink.lean ====
section
/-! DEFINITION. The flash link: U-link transactions (R121 to R129, R140 to R142), issuing, polling and the end of operations
(R131 to R136, R139) and the hold timer of the parked slot (R159), with their commands. -/

namespace Sys2Proof.Machine

/-! ### The eighth edge of an opcode (R121, R123, R128, R129, R140) -/

/-- A transaction is under way, and what the part drives in it. -/
def State.setXfer (s : State) (x : Xfer) (out : UOut) : State :=
  s.modFlb fun f => { f with xfer := some x, uOut := out }

/-- A classed transaction in RELAY, no fail report concerning it: passed on, or withdrawn into an intake (R123, R124). -/
def State.relayOpen (s : State) (opcode : Byte) (c : Classed) : State :=
  if c.cls.buffered then s.setXfer (.intake opcode c.cls s.sense.uptime) .undriven
  else s.setXfer (.relayed opcode) .relayed

/-- A classed transaction in RELAY (R123, R140). -/
def State.relayOpcode (s : State) (opcode : Byte) (c : Classed) : State :=
  match s.flb.failReport with
  | none => s.relayOpen opcode c
  | some bit =>
    if c.cls = .statusRead then s.setXfer (.failAnswer opcode) (.status (failStatus s.flb.lastStatus bit) c.dataLanes)
    else s.clearFailReport.relayOpen opcode c

/-- A classed transaction under a tenure: a status read is answered, any other class is a violation (R128, R129), whose
record arrives in the queue and may start quiet work (R171). -/
def State.tenureOpcode (s : State) (opcode : Byte) (c : Classed) (t : Tenure) : State :=
  if c.cls = .statusRead then s.setXfer (.localAnswer opcode) (.status (localStatus s.flb.lastStatus) c.dataLanes)
  else
    ((s.offerRecord (.linkViolation opcode c.cls t.owner t.phase (s.flb.inflight.map InFlight.op))).setXfer
      (.violation opcode) (if c.cls = .read then .allOnes c.addrBytes c.addrLanes c.dataLanes else .undriven)).settle

/-- The bridge ignores U-link transactions: in IGNORE, and under a tenure with the MAIN_RESET line active (R121, R141). One
whose first bits came under a tenure that has closed before its eighth edge is ignored too (notes/assumptions/61.md). Under a
tenure the level of the line at the eighth edge decides (R142; notes/assumptions/66.md). -/
def State.linkIgnores (s : State) : Bool :=
  match s.flb.mode with
  | .ignore => true
  | .tenure => s.mainActive
  | .relay => s.flb.xfer == some (.selected false)

/-- An eighth edge may come: no transaction is in progress, or one that has not had it. -/
def State.awaitsOpcode (s : State) : Bool :=
  match s.flb.xfer with
  | none | some (.selected _) => true
  | some _ => false

/-- U_CSN is asserted: a transaction begins, with no bit of its opcode yet (R123). -/
def State.assertXfer (s : State) : State :=
  if !s.released || s.flb.xfer.isSome then s
  else s.setXfer (.selected (s.flb.mode == .relay)) (if s.flb.mode = .relay then .relayed else .undriven)

/-- The opening of a transaction of a class: its opcode is whole. One that the class table gives another class is no such
transaction; one that is ignored is not classed. -/
def State.openXfer (s : State) (cls : FlashClass) (opcode : Byte) : State :=
  if !s.released || !s.awaitsOpcode then s
  else if s.linkIgnores then s.setXfer (.ignored opcode) .undriven
  else
    let c := s.plan.classOf opcode
    if c.cls ≠ cls then s
    else match s.flb.tenure with
      | some t => s.tenureOpcode opcode c t
      | none => s.relayOpcode opcode c

/-! ### The deassertion of U_CSN (R124 to R126, R140) -/

/-- The classes whose data bytes are kept (R124). -/
def FlashClass.keepsData : FlashClass → Bool
  | .program | .regWrite => true
  | .read | .statusRead | .writeEnable | .writeDisable | .otherPass | .eraseSector | .eraseBlock | .eraseDevice
  | .otherBlock => false

/-- The command an intake received: the whole bytes after its opcode are address bytes, then data bytes (R124, R148,
R149). With no address byte the address is 0 (notes/assumptions/68.md). -/
def State.bufferedCommand (s : State) (opcode : Byte) (cls : FlashClass) (begun : Word32) (bytes : List Byte) : Command :=
  let c := s.plan.classOf opcode
  let data := bytes.drop c.addrBytes
  let address := beNat (bytes.take c.addrBytes)
  let range := s.plan.affectedRange cls address
  let policy := s.effectivePolicy cls range
  { opcode := opcode, cls := cls, addrBytes := c.addrBytes, addrLanes := c.addrLanes, dataLanes := c.dataLanes,
    address := address, data := if cls.keepsData then data.take Config.bufferBytes else [],
    clocked := min 65535 data.length, begun := begun, range := range, policy := policy.1, source := policy.2 }

/-- A command is dropped: address bytes are missing, or a PROGRAM has no data byte (R126). -/
def droppedIntake (cls : FlashClass) (addrBytes : Nat) (bytes : List Byte) : Bool :=
  decide (bytes.length < addrBytes) || (cls == .program && decide (bytes.length = addrBytes))

/-- A clipped command is reported (R125). -/
def State.reportClipped (s : State) (c : Command) : State :=
  if c.cls.keepsData && decide (Config.bufferBytes < c.clocked) then s.offerRecord (.clipped c) else s

/-- A tenure of owner REQUESTED opens, and the Admission Unit takes the command (R126, R127, R152). -/
def State.openTenure (s : State) (c : Command) : State :=
  (s.modFlb fun f =>
    { f with mode := .tenure, tenure := some ⟨.requested, some c, .deciding, 0, false⟩ }).takeCommand c

/-- The end of an intake (R125, R126). Of a CLIPPED and a REFUSAL record offered in the one event, the CLIPPED record is
offered first (R167 leaves the order open; notes/assumptions/47.md). -/
def State.endIntake (s : State) (opcode : Byte) (cls : FlashClass) (begun : Word32) (bytes : List Byte) : State :=
  if droppedIntake cls (s.plan.classOf opcode).addrBytes bytes then s
  else
    let c := s.bufferedCommand opcode cls begun bytes
    (s.reportClipped c).openTenure c

/-- The opcode of the transaction in progress, once it is whole. -/
def Xfer.opcode : Xfer → Option Byte
  | .selected _ => none
  | .relayed o | .intake o _ _ | .failAnswer o | .localAnswer o | .violation o | .ignored o => some o

/-- U_CSN is deasserted at the end of the transaction in progress. -/
def State.endXfer (s : State) (x : Xfer) (bytes : List Byte) : State :=
  let t := s.modFlb fun f => { f with xfer := none }
  match x with
  | .intake opcode cls begun => t.endIntake opcode cls begun bytes
  | .failAnswer _ => t.clearFailReport
  | .selected _ | .relayed _ | .localAnswer _ | .violation _ | .ignored _ => t

/-- The closing of the transaction of this opcode, if it is the one in progress. -/
def State.closeXfer (s : State) (opcode : Option Byte) (bytes : List Byte) : State :=
  match s.flb.xfer with
  | some x => if x.opcode = opcode then (s.endXfer x bytes).settle else s
  | none => s

/-- A U-link transaction of a class, or the part of it a span names. -/
def State.linkEvent (s : State) (cls : FlashClass) (span : Span) (opcode : Byte) (bytes : List Byte) : State :=
  match span with
  | .asserted => s.assertXfer
  | .opening => s.openXfer cls opcode
  | .closing => s.closeXfer (some opcode) bytes
  | .whole => if s.flb.xfer.isNone then (s.openXfer cls opcode).closeXfer (some opcode) bytes else s

/-- READ (R121, R123, R129, R140). -/
def execRead (span : Span) (opcode : Byte) (s : State) : Host.Outcome State Fault Refusal :=
  .next (s.linkEvent .read span opcode [])

/-- STATUS_READ (R121, R123, R128, R140). -/
def execStatusRead (span : Span) (opcode : Byte) (s : State) : Host.Outcome State Fault Refusal :=
  .next (s.linkEvent .statusRead span opcode [])

/-- WRITE_ENABLE (R121, R123, R129). -/
def execWriteEnable (span : Span) (opcode : Byte) (s : State) : Host.Outcome State Fault Refusal :=
  .next (s.linkEvent .writeEnable span opcode [])

/-- WRITE_DISABLE (R121, R123, R129). -/
def execWriteDisable (span : Span) (opcode : Byte) (s : State) : Host.Outcome State Fault Refusal :=
  .next (s.linkEvent .writeDisable span opcode [])

/-- OTHER_PASS (R121, R123, R129). -/
def execOtherPass (span : Span) (opcode : Byte) (s : State) : Host.Outcome State Fault Refusal :=
  .next (s.linkEvent .otherPass span opcode [])

/-- PROGRAM (R123 to R126, R152). -/
def execProgram (span : Span) (opcode : Byte) (bytes : List Byte) (s : State) : Host.Outcome State Fault Refusal :=
  .next (s.linkEvent .program span opcode bytes)

/-- ERASE_SECTOR (R123 to R126, R152). -/
def execEraseSector (span : Span) (opcode : Byte) (bytes : List Byte) (s : State) : Host.Outcome State Fault Refusal :=
  .next (s.linkEvent .eraseSector span opcode bytes)

/-- ERASE_BLOCK (R123 to R126, R152). -/
def execEraseBlock (span : Span) (opcode : Byte) (bytes : List Byte) (s : State) : Host.Outcome State Fault Refusal :=
  .next (s.linkEvent .eraseBlock span opcode bytes)

/-- ERASE_DEVICE (R123 to R126, R152). -/
def execEraseDevice (span : Span) (opcode : Byte) (bytes : List Byte) (s : State) : Host.Outcome State Fault Refusal :=
  .next (s.linkEvent .eraseDevice span opcode bytes)

/-- REG_WRITE (R123 to R126, R152). -/
def execRegWrite (span : Span) (opcode : Byte) (bytes : List Byte) (s : State) : Host.Outcome State Fault Refusal :=
  .next (s.linkEvent .regWrite span opcode bytes)

/-- OTHER_BLOCK (R123 to R126, R152). -/
def execOtherBlock (span : Span) (opcode : Byte) (bytes : List Byte) (s : State) : Host.Outcome State Fault Refusal :=
  .next (s.linkEvent .otherBlock span opcode bytes)

/-- CUT_TRANSACTION (R123, R126, R140). -/
def execCutTransaction (span : Span) (s : State) : Host.Outcome State Fault Refusal :=
  .next (match span with
    | .asserted | .opening => s.assertXfer
    | .closing => s.closeXfer none []
    | .whole => if s.flb.xfer.isNone then s.assertXfer.closeXfer none [] else s)

/-! ### The bridge's own D-link transactions -/

/-- The operation begins in the flash: its in-flight record (R131, R132), its first poll (R133). -/
def State.startOperation (s : State) (i : Issue) : State :=
  s.modFlb fun f =>
    { f with
      issue := none
      dlinkDue := none
      inflight := some { op := i.op, origin := i.origin, range := i.range, admitted := i.admitted,
                         typ := s.plan.typTime.at i.op, max := s.plan.maxTime.at i.op, created := s.clock,
                         overrun := false, atRisk := false }
      nextPoll := some (s.clock + s.plan.typTime.at i.op * Config.countsPerTenth)
      tenure := f.tenure.map fun t => { t with phase := .operating, command := none } }

/-- COMMAND_ISSUED (R131, R132). -/
def execCommandIssued (s : State) : Host.Outcome State Fault Refusal :=
  .next (match s.flb.issue with
    | some i => (s.startOperation i).settle
    | none => s)

/-- The open tenure is in this phase. -/
def State.inPhase (s : State) (p : Phase) : Bool :=
  match s.flb.tenure with
  | some t => t.phase == p
  | none => false

/-- The report of a refusal carried out (R139, R140), but for one that gives none (R162). -/
def State.refusalReport (s : State) (reportless : Bool) : State := if reportless then s else s.setFailReport

/-- REFUSING_WRITE_DISABLE_END (R139, R162). -/
def execRefusingWriteDisableEnd (s : State) : Host.Outcome State Fault Refusal :=
  .next (if s.inPhase .refusing then
    ((s.modFlb fun f => { f with dlinkDue := none, reportless := false }).refusalReport s.flb.reportless).closeTenure.settle
  else s)

/-- A poll begins, and the next is set one poll interval later (R133). -/
def State.startPoll (s : State) : State :=
  s.modFlb fun f => { f with poll := .live, nextPoll := some (s.clock + s.plan.pollUs * Config.countsPerUs) }

/-- FLASH_POLL_START (R133). -/
def execFlashPollStart (s : State) : Host.Outcome State Fault Refusal :=
  .next (if s.flb.inflight.isSome && s.flb.poll == .idle then (s.reachTimer s.flb.nextPoll).startPoll else s)

/-- The busy bit of a status byte (R118). -/
def busyBit (status : Byte) : Bool := status.getLsbD 0

/-- The byte of a poll is read (R133, R135). -/
def State.pollByte (s : State) (status : Byte) : State := s.modFlb fun f => { f with lastStatus := status, poll := .idle }

/-- A poll of the operation in flight acts on its busy bit (R133, R136). -/
def State.pollActs (s : State) (status : Byte) : State :=
  match s.flb.inflight with
  | some f => if busyBit status then s else s.opEnd f false
  | none => s

/-- FLASH_POLL_COMPLETE (R133, R135, R136). -/
def execFlashPollComplete (status : Byte) (s : State) : Host.Outcome State Fault Refusal :=
  .next (match s.flb.poll with
    | .idle => s
    | .live => ((s.pollByte status).pollActs status).settle
    | .stale => s.pollByte status)

/-- The count of the clock at which an operation has run `n` times its maximum time. -/
def InFlight.atMax (f : InFlight) (n : Nat) : Nat := f.created + n * f.max * Config.countsPerTenth

/-- OVERRUN (R134, R175). -/
def execOverrun (s : State) : Host.Outcome State Fault Refusal :=
  .next (match s.flb.inflight with
    | some f =>
      if f.overrun then s
      else ((s.reach (f.atMax 1)).modFlb fun l => { l with inflight := some { f with overrun := true } }).settle
    | none => s)

/-- The FLASH_STUCK record of the bridge (R135). -/
def State.stuckRecord (s : State) (f : InFlight) : State :=
  s.offerRecord (.flashStuck f false (f.elapsed s.clock) s.flb.lastStatus)

/-- FLASH_STUCK (R135, R136). Its record is offered before that of the Journal Unit's own write leaves the queue
(notes/assumptions/69.md). -/
def execFlashStuck (s : State) : Host.Outcome State Fault Refusal :=
  .next (match s.flb.inflight with
    | some f => (((s.reach (f.atMax 2)).stuckRecord f).opEnd f true).settle
    | none => s)

/-- HOLD_TIMER_EXPIRY (R159). -/
def execHoldTimerExpiry (s : State) : Host.Outcome State Fault Refusal :=
  .next (match s.adu.hold, s.adu.parked with
    | some due, some p => ((s.reach due).refuseCommand p.command .holdExpired).settle
    | _, _ => s)

end Sys2Proof.Machine
end

