-- ==== Sys2Proof/Machine/Prepare.lean ====
section
/-! DEFINITION. The plan image (chapter 11.2) and its preparation in four stages (R184, R185), with the derived descent
times (R51). -/

namespace Sys2Proof.Machine

/-! ### Fields of the image (R190) -/

/-- The number a field of the image stores. -/
def fieldAt (img : List Byte) (offset size : Nat) : Nat := leNat ((img.drop offset).take size)

/-- One byte of the image. -/
def byteAt (img : List Byte) (offset : Nat) : Nat := (img.getD offset 0).toNat

/-- One bit of a byte of the image. -/
def bitAt (img : List Byte) (offset bit : Nat) : Bool := (img.getD offset 0).getLsbD bit

/-- A field that has a range: its place, its size, and what a stored value is brought to. -/
structure Field where
  offset : Nat
  size : Nat
  fit : Nat → Nat

/-- The value of a field after stage 1. -/
def Field.value (f : Field) (img : List Byte) : Nat := f.fit (fieldAt img f.offset f.size)

/-- The clamp of a field, at its offset, if stage 1 changes it. -/
def Field.clamps (f : Field) (img : List Byte) : List Nat :=
  if f.value img = fieldAt img f.offset f.size then [] else [f.offset]

/-! ### Nearest allowed values (R122, R146, R164, R190) -/

/-- unknown_class: code 5 or 11. -/
def fitUnknownClass (v : Nat) : Nat := if v < 8 then 5 else 11

/-- A class code of an entry: an unknown one becomes NONE. -/
def fitClass (v : Nat) : Nat := if v ≤ 11 then v else 0

/-- Address bytes: 0, 3 or 4. -/
def fitAddrBytes (v : Nat) : Nat := if v ≤ 1 then 0 else if v ≤ 3 then 3 else 4

/-- Lanes: 1, 2 or 4. -/
def fitLanes (v : Nat) : Nat := if v ≤ 1 then 1 else if v = 2 then 2 else 4

/-- A policy code of a window: an unknown one becomes NONE. -/
def fitPolicy (v : Nat) : Nat := if v ≤ 5 then v else 0

/-- A kind byte of a step: an unknown kind becomes NOP, on_fail kept. -/
def fitKind (v : Nat) : Nat := if v % 128 ≤ 9 then v else v / 128 * 128

/-- The journal's sector count: 0, or 2 to 16. -/
def fitSectors (v : Nat) : Nat := if v = 0 then 0 else clampNat 2 16 v

/-- A field with inclusive bounds. -/
def ranged (offset size lo hi : Nat) : Field := ⟨offset, size, clampNat lo hi⟩

/-! ### Offsets of the tables -/

def railOffset (i : Nat) : Nat := 38 + 13 * i
def lineOffset (i : Nat) : Nat := 194 + i
def slotOffset (i : Nat) : Nat := 200 + 2 * i
def stepOffset (i : Nat) : Nat := 214 + 4 * i
def classOffset (i : Nat) : Nat := 726 + 6 * i
def windowOffset (i : Nat) : Nat := 822 + 6 * i
def typOffset (k : Nat) : Nat := 922 + 8 * k
def maxOffset (k : Nat) : Nat := 926 + 8 * k

/-! ### The fields (chapter 11.2, with the ranges of R1, R24, R54, R56, R61, R66, R75, R91, R119, R133, R137, R147,
R156, R164) -/

def fUnknownClass : Field := ⟨12, 1, fitUnknownClass⟩
def fDefaultPolicy : Field := ranged 13 1 1 5
def fRegWritePolicy : Field := ranged 14 1 1 5
def fFailBit : Field := ranged 15 1 0 8
def fScaleVbus : Field := ranged 16 2 5000 33000
def fScaleVbulk : Field := ranged 18 2 100 511
def fScaleIbus : Field := ranged 20 2 1000 32767
def fBusFloor : Field := ranged 26 2 0 32767
def fSupplyLevel : Field := ranged 28 1 0 3
def fCap1 : Field := ranged 32 2 0 1000
def fCap2 : Field := ranged 34 2 0 1000
def fRamp : Field := ranged 36 2 1 1000
def fCap : Field := ranged 870 2 10 2000
def fDropout : Field := ranged 872 2 50 400
def fEff : Field := ranged 874 2 500 1000
def fMargin : Field := ranged 876 2 0 10000
def fRecordCost : Field := ranged 878 2 0 1000
def fBase : Field := ranged 880 2 0 20000
def fFlashActive : Field := ranged 882 2 0 5000
def fBlFull : Field := ranged 884 4 0 300000
def fS1 : Field := ranged 888 4 0 261121
def fS2 : Field := ranged 892 4 0 261121
def fS3 : Field := ranged 896 4 0 261121
def fRideLimit : Field := ranged 900 2 0 10000
def fRestoreDelay : Field := ranged 902 2 0 10000
def fRestoreStep : Field := ranged 904 2 1 2000
def fRearmDelay : Field := ranged 906 2 10 10000
def fStormWindow : Field := ranged 908 4 1000 600000
def fStormCount : Field := ranged 912 1 2 16
def fAutoResume : Field := ranged 913 1 0 1
def fDiv : Field := ranged 914 1 1 15
def fPoll : Field := ranged 915 2 20 2000
def fPage : Field := ranged 917 1 6 8
def fSector : Field := ranged 918 1 12 16
def fBlock : Field := ranged 919 1 15 18
def fHold : Field := ranged 920 2 1 5000
def fTyp (k : Nat) : Field := ranged (typOffset k) 4 1 0xFFFFFFFF
def fMax (k : Nat) : Field := ranged (maxOffset k) 4 1 1000000
def fSectors : Field := ⟨966, 1, fitSectors⟩
def fPiggyback : Field := ranged 967 1 1 8

/-- The fields of every image. -/
def headFields : List Field :=
  [fUnknownClass, fDefaultPolicy, fRegWritePolicy, fFailBit, fScaleVbus, fScaleVbulk, fScaleIbus, fBusFloor,
   fSupplyLevel, fCap1, fCap2, fRamp, fCap, fDropout, fEff, fMargin, fRecordCost, fBase, fFlashActive, fBlFull, fS1, fS2,
   fS3, fRideLimit, fRestoreDelay, fRestoreStep, fRearmDelay, fStormWindow, fStormCount, fAutoResume, fDiv, fPoll, fPage,
   fSector, fBlock, fHold, fSectors, fPiggyback]

/-! ### Rail entries (R1) -/

def fPgFilter (i : Nat) : Field := ranged (railOffset i + 1) 1 0 3
def fSettle (i : Nat) : Field := ranged (railOffset i + 2) 1 0 7
def fRise (i : Nat) : Field := ranged (railOffset i + 3) 1 1 255
def fFall (i : Nat) : Field := ranged (railOffset i + 4) 1 1 255
def fShedClass (i : Nat) : Field := ranged (railOffset i + 7) 1 0 3
def fFaultAction (i : Nat) : Field := ranged (railOffset i + 8) 1 0 2

/-- The clamped fields of a rail entry: none where the rail is absent. -/
def railFields (img : List Byte) (i : Nat) : List Field :=
  if bitAt img (railOffset i) 0 then [fPgFilter i, fSettle i, fRise i, fFall i, fShedClass i, fFaultAction i] else []

/-- A fault_action of its code. -/
def FaultAction.ofCode : Nat → FaultAction
  | 0 => .log
  | 1 => .domainDown
  | _ => .trip

/-- A rail entry. -/
def parseRail (img : List Byte) (i : Nat) : RailEntry :=
  { present := bitAt img (railOffset i) 0
    tag := (img.drop (railOffset i + 9)).take 4
    domain := if bitAt img (railOffset i) 1 then .panel else .board
    timed := bitAt img (railOffset i) 2
    enActiveLow := bitAt img (railOffset i) 3
    pgActiveLow := bitAt img (railOffset i) 4
    pgFilter := (fPgFilter i).value img
    riseMs := (fRise i).value img
    settle := (fSettle i).value img
    fallMs := (fFall i).value img
    powerMw := fieldAt img (railOffset i + 5) 2
    shedClass := (fShedClass i).value img
    faultAction := .ofCode ((fFaultAction i).value img) }

/-! ### Line entries (R32, R33) -/

/-- A line entry as stored. -/
def parseLine (img : List Byte) (i : Nat) : LineEntry :=
  { present := bitAt img (lineOffset i) 0, activeLow := bitAt img (lineOffset i) 1,
    initialActive := bitAt img (lineOffset i) 2, mainReset := bitAt img (lineOffset i) 3 }

/-- A present line below this one carries the MAIN_RESET role. -/
def roleTaken (img : List Byte) (i : Nat) : Bool :=
  (List.range i).any fun j => bitAt img (lineOffset j) 0 && bitAt img (lineOffset j) 3

/-- A present line whose MAIN_RESET role is set to GENERAL (R33). -/
def roleDropped (img : List Byte) (i : Nat) : Bool :=
  bitAt img (lineOffset i) 0 && bitAt img (lineOffset i) 3 && roleTaken img i

/-- A line entry, its role settled. -/
def prepareLine (img : List Byte) (i : Nat) : LineEntry :=
  { parseLine img i with mainReset := bitAt img (lineOffset i) 3 && !roleDropped img i }

/-! ### Slots and steps (R24, R25) -/

def fStart (k : Nat) : Field := ranged (slotOffset k) 1 0 127
def fCount (k : Nat) : Field := ranged (slotOffset k + 1) 1 0 24

/-- A slot's range of the pool. -/
def parseSlot (img : List Byte) (k : Nat) : SlotRange := ⟨(fStart k).value img, (fCount k).value img⟩

/-- The clamps of the positions of a slot beyond the pool, at the slot's count field (R24, R184). -/
def beyondPool (img : List Byte) (k : Nat) : List Nat :=
  let r := parseSlot img k
  List.replicate (min r.count (r.start + r.count - 128)) (slotOffset k + 1)

def fKind (i : Nat) : Field := ⟨stepOffset i, 1, fitKind⟩

/-- The kind code of a step after stage 1. -/
def stepCode (img : List Byte) (i : Nat) : Nat := (fKind i).value img % 128

/-- Parameter b of a step, with the range its kind gives it; NOP, FLASH_QUIESCE and FLASH_RESUME have none. -/
def fParam (code i : Nat) : Option Field :=
  match code with
  | 1 | 2 | 4 => some (ranged (stepOffset i + 2) 2 0 1)
  | 3 | 7 => some (ranged (stepOffset i + 2) 2 1 10000)
  | 5 => some (ranged (stepOffset i + 2) 2 1 255)
  | 6 => some (ranged (stepOffset i + 2) 2 0 1000)
  | _ => none

/-- The clamped fields of a step entry. -/
def stepFields (img : List Byte) (i : Nat) : List Field := fKind i :: (fParam (stepCode img i) i).toList

/-- The channel of a rail number, if it is a channel whose rail is present. -/
def presentRail (img : List Byte) (n : Nat) : Option (Fin 12) :=
  if h : n < 12 then (if bitAt img (railOffset n) 0 then some ⟨n, h⟩ else none) else none

/-- The control line of a number, if it is a line and present. -/
def presentLine (img : List Byte) (n : Nat) : Option (Fin 6) :=
  if h : n < 6 then (if bitAt img (lineOffset n) 0 then some ⟨n, h⟩ else none) else none

/-- The kind of a step, none where it names an absent rail or line and becomes a NOP (stage 3). -/
def parseKind (img : List Byte) (i : Nat) : Option StepKind :=
  let a := byteAt img (stepOffset i + 1)
  let b := ((fParam (stepCode img i) i).map fun f => f.value img).getD 0
  match stepCode img i with
  | 0 => some .nop
  | 1 => (presentRail img a).map fun r => .railUp r (b == 1)
  | 2 => (presentRail img a).map fun r => .railDown r (b == 1)
  | 3 => some (.delay b)
  | 4 => (presentLine img a).map fun l => .line l (b == 1)
  | 5 => (presentLine img a).map fun l => .linePulse l b
  | 6 => some (.dimLimit b)
  | 7 => some (.await (if bitAt img (stepOffset i + 1) 0 then 1 else 0) (bitAt img (stepOffset i + 1) 1) b)
  | 8 => some .flashQuiesce
  | 9 => some .flashResume
  | _ => some .nop

/-- A step of the pool. -/
def parseStep (img : List Byte) (i : Nat) : Step := ⟨(parseKind img i).getD .nop, bitAt img (stepOffset i) 7⟩

/-! ### Class entries (R122) -/

def fClass (i : Nat) : Field := ⟨classOffset i + 2, 1, fitClass⟩
def fAddrBytes (i : Nat) : Field := ⟨classOffset i + 3, 1, fitAddrBytes⟩
def fAddrLanes (i : Nat) : Field := ⟨classOffset i + 4, 1, fitLanes⟩
def fDataLanes (i : Nat) : Field := ⟨classOffset i + 5, 1, fitLanes⟩

/-- A class entry after stage 1. -/
def parseClass (img : List Byte) (i : Nat) : ClassEntry :=
  { opcode := img.getD (classOffset i) 0, mask := img.getD (classOffset i + 1) 0, cls := FlashClass.ofCode ((fClass i).value img),
    addrBytes := (fAddrBytes i).value img, addrLanes := (fAddrLanes i).value img, dataLanes := (fDataLanes i).value img }

/-- The class table, with the entries that were taken from the built-in table. -/
structure ClassTable where
  entries : List ClassEntry
  filled : List Nat

/-- The entry that receives a built-in entry: the first that is NONE, or the highest-numbered that has not received
one. -/
def ClassTable.place (t : ClassTable) : Nat :=
  match t.entries.findIdx? fun e => e.cls.isNone with
  | some i => i
  | none => (((List.range 16).reverse).find? fun i => !t.filled.contains i).getD 15

/-- An entry of a class the bridge needs is taken from the built-in table where the plan has none (R122). Each class is
looked for once, so one whose only entry a later placement overwrites stays missing (notes/assumptions/57.md). -/
def ClassTable.need (t : ClassTable) (cls : FlashClass) : ClassTable :=
  if t.entries.any fun e => e.cls == some cls then t
  else
    match builtinClasses.find? fun e => e.cls == some cls with
    | some e => ⟨t.entries.set t.place e, t.filled ++ [t.place]⟩
    | none => t

/-- The class table after stage 2. -/
def prepareClasses (img : List Byte) : ClassTable :=
  (((ClassTable.mk ((List.range 16).map (parseClass img)) []).need .writeEnable).need .writeDisable).need .statusRead

/-! ### Windows (R146) -/

def fWindowPolicy (i : Nat) : Field := ⟨windowOffset i + 5, 1, fitPolicy⟩
def fSizeLog (i : Nat) : Field := ranged (windowOffset i + 4) 1 12 28

/-- A window in use. -/
def windowUsed (img : List Byte) (i : Nat) : Bool := (fWindowPolicy i).value img != 0

/-- The clamped fields of a window entry: its policy, and its size where it is in use. An unknown policy code becomes NONE
(R146) and the entry is then an unused one, so its policy's clamp is the only one (notes/assumptions/50.md). -/
def windowFields (img : List Byte) (i : Nat) : List Field :=
  fWindowPolicy i :: (if windowUsed img i then [fSizeLog i] else [])

/-- An address aligned to a power of two. -/
def alignDown (address log : Nat) : Nat := address / 2 ^ log * 2 ^ log

/-- A window entry, its base aligned. -/
def parseWindow (img : List Byte) (i : Nat) : Window :=
  if windowUsed img i then
    ⟨alignDown (fieldAt img (windowOffset i) 4) ((fSizeLog i).value img), (fSizeLog i).value img,
      Policy.ofCode ((fWindowPolicy i).value img)⟩
  else unusedWindow

/-- The clamp of a window whose base is aligned. -/
def windowClamps (img : List Byte) (i : Nat) : List Nat :=
  if windowUsed img i && (parseWindow img i).base != fieldAt img (windowOffset i) 4 then [windowOffset i] else []

/-! ### Dependent figures (R91, R132, R147, R164) -/

/-- A figure brought down to a bound, with its clamp. -/
def atMost (bound v offset : Nat) : Nat × List Nat := if bound < v then (bound, [offset]) else (v, [])

/-- The block size, not below the sector size. -/
def prepareBlock (img : List Byte) : Nat × List Nat :=
  if fBlock.value img < fSector.value img then (fSector.value img, [919]) else (fBlock.value img, [])

/-- typ_time of a class, not above its max_time. -/
def prepareTyp (img : List Byte) (k : Nat) : Nat × List Nat :=
  atMost ((fMax k).value img) ((fTyp k).value img) (typOffset k)

/-- The journal base, aligned to the sector size. -/
def prepareBase (img : List Byte) : Nat × List Nat :=
  let stored := fieldAt img 962 4
  let base := alignDown stored (fSector.value img)
  (base, if base = stored then [] else [962])

/-- The largest address an entry's address bytes carry; an entry of 0 address bytes carries none (R164). -/
def ClassEntry.carries (e : ClassEntry) (address : Nat) : Bool :=
  e.addrBytes != 0 && decide (address < 256 ^ e.addrBytes)

/-- The first entry of a class carries an address. -/
def classCarries (entries : List ClassEntry) (cls : FlashClass) (address : Nat) : Bool :=
  match entries.find? fun e => e.cls == some cls with
  | some e => e.carries address
  | none => false

/-- The journal's sector count, 0 where a class the journal needs is missing or cannot carry the ring's last address. -/
def prepareSectors (img : List Byte) (entries : List ClassEntry) : Nat × List Nat :=
  let count := fSectors.value img
  let last := (prepareBase img).1 + count * 2 ^ fSector.value img - 1
  if count = 0 then (0, [])
  else if classCarries entries .read last && classCarries entries .program last && classCarries entries .eraseSector last
    then (count, [])
  else (0, [966])

/-! ### Derived descent times (R51) -/

/-- The contribution of a step, in units of 0.5 ms. -/
def stepHalfMs (rails : Vector RailEntry 12) : StepKind → Nat
  | .delay ms | .linePulse _ ms | .await _ _ ms => 2 * ms
  | .railDown ch true => 2 * rails[ch].fallMs
  | .railUp ch true =>
    2 * rails[ch].riseMs + (if rails[ch].timed then 0 else settleCounts rails[ch].settle / (Config.countsPerMs / 2))
  | .railDown _ false | .railUp _ false | .nop | .line _ _ | .dimLimit _ | .flashQuiesce | .flashResume => 0

/-- The worst-case duration of a slot's sequence, in ms. -/
def derivedTime (rails : Vector RailEntry 12) (pool : List Step) (r : SlotRange) : Nat :=
  min 65535 (ceilDiv (((List.range r.count).map fun i =>
    stepHalfMs rails (pool.getD (r.start + i) Step.noop).kind).sum) 2)

/-! ### The prepared plan (R184, R185) -/

/-- A trim of an image: sign and magnitude (R53). -/
def parseTrim (img : List Byte) (offset : Nat) : Int :=
  let m : Int := ((byteAt img offset % 8 : Nat) : Int)
  if bitAt img offset 7 then -m else m

/-- An input entry of an image (R58, R59). -/
def parseInput (img : List Byte) (offset : Nat) : InputEntry := ⟨byteAt img offset % 4, bitAt img offset 7⟩

/-- A figure of each operation class, by its place in the image. -/
def perOp (f : Nat → Nat) : PerOp := ⟨f 0, f 1, f 2, f 3, f 4⟩

/-- Every field with a range, in this image. -/
def imageFields (img : List Byte) : List Field :=
  headFields ++ (List.range 12).flatMap (railFields img) ++ (List.range 7).flatMap (fun k => [fStart k, fCount k]) ++
    (List.range 128).flatMap (stepFields img) ++
    (List.range 16).flatMap (fun i => [fClass i, fAddrBytes i, fAddrLanes i, fDataLanes i]) ++
    (List.range 8).flatMap (windowFields img) ++ (List.range 5).flatMap (fun k => [fTyp k, fMax k])

/-- The offsets of the changes of stage 1. -/
def rangeClamps (img : List Byte) : List Nat := (imageFields img).flatMap fun f => f.clamps img

/-- The offsets of the changes of stage 2. -/
def dependentClamps (img : List Byte) : List Nat :=
  let s2 := atMost (fS1.value img) (fS2.value img) 892
  let s3 := atMost s2.1 (fS3.value img) 896
  let t := prepareClasses img
  s2.2 ++ s3.2 ++ (prepareBlock img).2 ++ (List.range 5).flatMap (fun k => (prepareTyp img k).2) ++
    (List.range 8).flatMap (windowClamps img) ++ ((List.range 6).filter (roleDropped img)).map lineOffset ++
    t.filled.map classOffset ++ (prepareBase img).2 ++ (prepareSectors img t.entries).2

/-- The offsets of the changes of stage 3. -/
def stepClamps (img : List Byte) : List Nat :=
  ((List.range 128).filter fun i => (parseKind img i).isNone).map stepOffset ++ (List.range 7).flatMap (beyondPool img)

/-- Every change of the preparation, by its offset. -/
def allClamps (img : List Byte) : List Nat := rangeClamps img ++ dependentClamps img ++ stepClamps img

/-- The prepared plan. -/
def preparePlan (img : List Byte) : Plan :=
  let s2 := atMost (fS1.value img) (fS2.value img) 892
  let s3 := atMost s2.1 (fS3.value img) 896
  let entries := (prepareClasses img).entries
  let rails := Vector.ofFn fun i : Fin 12 => parseRail img i.val
  let slots := Vector.ofFn fun k : Fin 7 => parseSlot img k.val
  let pool := (List.range 128).map (parseStep img)
  { lockFlag := bitAt img 5 0
    unknownClass := if fUnknownClass.value img = 5 then .otherPass else .otherBlock
    defaultPolicy := (Policy.ofCode (fDefaultPolicy.value img)).getD .free
    regWritePolicy := (Policy.ofCode (fRegWritePolicy.value img)).getD .free
    failBit := fFailBit.value img
    scaleVbus := fScaleVbus.value img, scaleVbulk := fScaleVbulk.value img, scaleIbus := fScaleIbus.value img
    trimVbus := parseTrim img 22, trimVbulk := parseTrim img 23, trimIbus := parseTrim img 24
    trimVstby := parseTrim img 25
    busFloorMv := fBusFloor.value img
    supplyLevel := fSupplyLevel.value img
    acOk := parseInput img 29, aux0 := parseInput img 30, aux1 := parseInput img 31
    cap1 := fCap1.value img, cap2 := fCap2.value img, ramp := fRamp.value img
    rails := rails
    lines := Vector.ofFn fun i : Fin 6 => prepareLine img i.val
    slots := slots
    pool := pool
    classes := entries
    windows := (List.range 8).map (parseWindow img)
    capUf := fCap.value img, dropoutV := fDropout.value img, eff := fEff.value img, margin := fMargin.value img
    recordCost := fRecordCost.value img, baseMw := fBase.value img, flashActiveMw := fFlashActive.value img
    blFullMw := fBlFull.value img
    s1 := fS1.value img, s2 := s2.1, s3 := s3.1
    rideLimitMs := fRideLimit.value img, restoreDelayMs := fRestoreDelay.value img
    restoreStepMs := fRestoreStep.value img, rearmDelayMs := fRearmDelay.value img
    stormWindowMs := fStormWindow.value img, stormCount := fStormCount.value img
    autoResume := fAutoResume.value img == 1
    div := fDiv.value img, pollUs := fPoll.value img, pageLog := fPage.value img, sectorLog := fSector.value img
    blockLog := (prepareBlock img).1, holdLimitMs := fHold.value img
    typTime := perOp fun k => (prepareTyp img k).1
    maxTime := perOp fun k => (fMax k).value img
    journalBase := (prepareBase img).1, sectorCount := (prepareSectors img entries).1
    piggybackLimit := fPiggyback.value img
    alert := ⟨bitAt img 968 0, bitAt img 968 1, bitAt img 968 2, bitAt img 968 3, bitAt img 968 4⟩
    tPanelSwift := derivedTime rails pool slots[4]
    tBoardSwift := derivedTime rails pool slots[5] }

/-- The smallest offset of a list of changes (R184). -/
def firstClamp (clamps : List Nat) : Option Nat := clamps.min?

end Sys2Proof.Machine
end

