-- ==== Sys2Proof/Machine/Loader.lean ====
section
/-! DEFINITION. Part reset (R56), the Plan Loader (R178 to R182), the start-up scan of the journal ring (R173, R174, R186)
and plan application (R187, R188), with their commands. -/

namespace Sys2Proof.Machine

/-! ### Part reset (R56) -/

/-- The trip level of a level code of the VSTBY comparator, in mV (R56). -/
def tripMv : Nat → Nat
  | 0 => 2950
  | 1 => 2900
  | 2 => 2850
  | _ => 2800

/-- Its release level (R56). -/
def releaseMv : Nat → Nat
  | 0 => 3050
  | 1 => 3000
  | 2 => 2950
  | _ => 2900

/-- Every block at its values for part reset, the comparator at level code 3. The two causes stand as they do, and the
filter of RESET_N, which part reset leaves alone (R57), keeps its history on the clock; the commands that wait, and the
count of orders drawn, are the model's and stay. -/
def State.resetBlocks (s : State) : State :=
  { State.reset with
    clock := s.clock
    sense := { Sense.reset with
               supplyLow := s.sense.supplyLow, resetNLow := s.sense.resetNLow
               filters := { Filters.reset with resetN := s.sense.filters.resetN } }
    draws := s.draws
    pending := s.pending }

/-- The VSTBY comparator enters SUPPLY_LOW: part reset begins, or is prolonged (R56). -/
def State.supplyFails (s : State) : State := (s.modSense fun m => { m with supplyLow := true }).resetBlocks

/-- The filtered RESET_N takes a level, 4 µs having passed with the raw pin there (R56, R57). -/
def State.resetNFiltered (s : State) (high : Bool) (since : Int) : State :=
  let t := s.reach (max since s.sense.filters.resetN + resetNCounts).toNat
  t.modSense fun m => { m with resetNLow := !high, filters := { m.filters with resetN := t.clock } }

/-- PART_RESET (R56): the comparator enters SUPPLY_LOW below the trip level, or the filtered RESET_N goes low. -/
def execPartReset (cause : ResetInput) (s : State) : Host.Outcome State Fault Refusal :=
  .next (match cause with
    | .vstby mv at_ =>
      if !s.sense.supplyLow && decide (mv < tripMv s.sense.supplyCode) then (s.reach at_).supplyFails else s
    | .resetN high since => if !s.sense.resetNLow && !high then (s.resetNFiltered high since).resetBlocks else s)

/-- A cause of part reset ends: the comparator returns to SUPPLY_GOOD at the release level, or the filtered RESET_N goes
high (R56). -/
def State.causeEnds (s : State) (ended : ResetInput) : State :=
  match ended with
  | .vstby mv at_ =>
    if s.sense.supplyLow && decide (releaseMv s.sense.supplyCode ≤ mv) then
      (s.reach at_).modSense fun m => { m with supplyLow := false }
    else s
  | .resetN high since => if s.sense.resetNLow && high then s.resetNFiltered high since else s

/-- The release of part reset: the straps are sampled, and the clock, the scan, uptime, the request filters and the
measurement of DIM_IN begin (R56, R144, R178). The filter of RESET_N runs on: its history is counted from the release
(R57; notes/assumptions/28.md). -/
def State.release (s : State) (planSel : BitVec 2) (unlock dimIn : Bool) : State :=
  { s.resetBlocks with
    clock := 0
    load := { Loader.reset with phase := some .oscWait, strap := planSel, unlockHeld := unlock }
    sense := { Sense.reset with
               supplyLow := false, dim := { Sense.reset.dim with high := dimIn }
               filters := { Filters.reset with resetN := s.sense.filters.resetN - s.clock } } }

/-- PART_RESET_RELEASE (R56): part reset is released at the moment both causes have ended; where it is not held there is
no release. -/
def execPartResetRelease (planSel : BitVec 2) (planUnlock dimIn : Bool) (s : State) (ended : ResetInput := .vstby 3300 0) :
    Host.Outcome State Fault Refusal :=
  .next (if s.released then s
    else
      let t := s.causeEnds ended
      if t.sense.supplyLow || t.sense.resetNLow then t else t.release planSel planUnlock dimIn)

/-! ### Plan application (R187, R188) -/

/-- The BOC state and uptime aside, the fields of the PLAN record (R188). -/
def State.planRecord (s : State) : RecordBody :=
  .plan (s.load.source.getD .fallback) s.load.generation s.load.clamps s.load.firstClamped s.load.strap
    s.load.unlockHeld s.planRegionLocked s.load.busyAtLoad s.sense.vstbyMv

/-- The filters that start at plan application, and the level code the VSTBY comparator takes there (R56, R57). -/
def Sense.atApplication (m : Sense) (p : Plan) (now : Nat) : Sense :=
  { m with supplyCode := p.supplyLevel
           filters := { m.filters with pg := Vector.replicate 12 now, aux := Vector.replicate 2 now, acOk := now } }

/-- The blocks at plan application: the lines at their initial levels, every block else as part reset left it but for
what runs from the release, and the Journal Unit as the scan found it. A U-link transaction in progress goes on being
ignored to its deassertion (notes/assumptions/48.md), and the link then leaves IGNORE in `linkReact`, by the level of the
MAIN_RESET line. -/
def State.applyBlocks (s : State) (jnu : Journal) : State :=
  { s with
    load := { s.load with phase := some .applied, appliedAt := s.clock }
    rails := Vector.replicate 12 Channel.reset
    eng := { Engine.reset with
             lines := Vector.ofFn fun l : Fin 6 => s.plan.lines[l].present && s.plan.lines[l].initialActive }
    sense := s.sense.atApplication s.plan s.clock
    hbu := none
    boc := BrownOut.reset
    flb := { Bridge.reset with xfer := s.flb.xfer, uOut := s.flb.uOut }
    adu := Admission.reset
    jnu := jnu }

/-- The supply stands below the trip level the plan brings, which is not the level of the load (R56). -/
def Plan.tripsAt (p : Plan) (vstbyMv : Nat) : Bool := decide (p.supplyLevel < 3) && decide (vstbyMv < tripMv p.supplyLevel)

/-- The prepared plan is applied, and the PLAN record offered; or part reset begins at once. -/
def State.applyPlan (s : State) (jnu : Journal) (vstbyMv : Nat) : State :=
  if s.plan.tripsAt vstbyMv then s.supplyFails
  else
    let t := s.applyBlocks jnu
    (t.offerRecord t.planRecord).settle

/-! ### The load phases (R178 to R182) -/

/-- OSC_WAIT_END (R178). -/
def execOscWaitEnd (s : State) : Host.Outcome State Fault Refusal :=
  .next (if s.load.phase = some .oscWait then
    let t := s.reach (msCounts 2)
    t.modLoad fun l => { l with phase := some .flashWait, statusDue := t.clock }
  else s)

/-- The divider of the load's D-link transactions (R119, R179, R180). -/
def loadDiv : Nat := 3

/-- A status read of FLASH_WAIT: the STATUS_READ entry of the built-in class table, and one byte (R179). -/
def loadStatusRead : Transaction := { fallbackPlan.polling with div := loadDiv }

/-- The clock counts of a status read of FLASH_WAIT: 64. -/
def statusReadCounts : Nat := loadStatusRead.counts

/-- The longest wait for the flash, in clock counts from the first status read (R179). -/
def flashWaitCounts : Nat := msCounts 5000

/-- FLASH_WAIT_STATUS_READ (R179). -/
def execFlashWaitStatusRead (status : Byte) (s : State) : Host.Outcome State Fault Refusal :=
  .next (if s.load.phase = some .flashWait then
    let begun := max s.clock s.load.statusDue
    let first := s.load.firstStatus.getD begun
    let t := s.setClock (begun + statusReadCounts)
    if !busyBit status then t.modLoad fun l => { l with phase := some .read, firstStatus := some first }
    else if flashWaitCounts ≤ t.clock - first then
      t.modLoad fun l => { l with phase := some .read, firstStatus := some first, busyAtLoad := true }
    else
      t.modLoad fun l => { l with firstStatus := some first, statusDue := begun + Config.countsPerTenth }
  else s)

/-- The image header's length, and the shortest and longest image (chapter 11.2, R181). -/
def headerSize : Nat := 12
def shortestImage : Nat := 973
def longestImage : Nat := 16384

/-- The length field of an image. -/
def imageLength (img : List Byte) : Nat := fieldAt img 6 2

/-- The checks of the header: signature, format, length (R181). -/
def headerPasses (img : List Byte) : Bool :=
  img.take 4 == [0x4D, 0x54, 0x50, 0x4E] && byteAt img 4 == 1 &&
    decide (shortestImage ≤ imageLength img) && decide (imageLength img ≤ longestImage)

/-- The check of the CRC-32 (R181). -/
def crcPasses (img : List Byte) : Bool :=
  (crc32 (img.take (imageLength img - 4))).toNat == fieldAt img (imageLength img - 4) 4

/-- The fallback plan takes the place of the image and, having no journal, is applied (R182, R187). -/
def State.fallBack (s : State) (vstbyMv : Nat) : State :=
  (((s.setPlan fallbackPlan).modLoad fun l => { l with source := some .fallback, phase := some .prepare })).applyPlan
    Journal.reset vstbyMv

/-- A valid image is prepared: the scan follows where the plan has a journal, and the application otherwise (R184 to
R186). -/
def State.prepareImage (s : State) (vstbyMv : Nat) : State :=
  let img := s.load.image
  let clamps := allClamps img
  let t := (s.setPlan (preparePlan img)).modLoad fun l =>
    { l with source := some .flash, generation := BitVec.ofNat 32 (fieldAt img 8 4), phase := some .prepare,
             clamps := min 65535 clamps.length, firstClamped := firstClamp clamps }
  if t.plan.hasJournal then t.modLoad fun l => { l with phase := some .scan }
  else t.applyPlan Journal.reset vstbyMv

/-- PLAN_HEADER_READ_END (R180, R181): a header that fails ends the read, and the fallback plan is taken. -/
def execPlanHeaderReadEnd (bytes : List Byte) (s : State) : Host.Outcome State Fault Refusal :=
  .next (if s.load.phase = some .read ∧ s.load.image = [] then
    let t := s.modLoad fun l => { l with image := readBytes headerSize bytes }
    if headerPasses t.load.image then t else t.fallBack t.sense.vstbyMv
  else s)

/-- PLAN_BODY_READ_END (R180, R181). -/
def execPlanBodyReadEnd (bytes : List Byte) (vstbyMv : Nat) (s : State) : Host.Outcome State Fault Refusal :=
  .next (if s.load.phase = some .read ∧ s.load.image ≠ [] then
    let t := s.modLoad fun l => { l with image := l.image ++ readBytes (imageLength l.image - headerSize) bytes }
    if crcPasses t.load.image then t.prepareImage vstbyMv else t.fallBack vstbyMv
  else s)

/-! ### The start-up scan (R173, R174, R186) -/

/-- Bytes cut into pieces of 64. -/
def cutSlots : Nat → List Byte → List (List Byte)
  | 0, _ => []
  | n + 1, bytes => bytes.take 64 :: cutSlots n (bytes.drop 64)

/-- A slot reads erased. -/
def slotErased (slot : List Byte) : Bool := slot.all fun b => b == 0xFF

/-- The bytes are a valid record of this many slots: its kind, its slot count and its trailer (R173). -/
def validRecord (bytes : List Byte) (slots : Nat) : Bool :=
  slotsOfKind (bytes.getD 0 0xFF) == some slots && (bytes.getD 1 0).toNat == slots &&
    (crc16 (bytes.take (64 * slots - 2))).toNat == leNat ((bytes.drop (64 * slots - 2)).take 2)

/-- The sequence number a record carries. -/
def recordSeq (bytes : List Byte) : Word32 := BitVec.ofNat 32 (leNat ((bytes.drop 4).take 4))

/-- The class of a slot that does not begin a record of two slots. -/
def classSlot (slot : List Byte) : SlotClass :=
  if slotErased slot then .erased
  else if validRecord slot 1 then .begins (recordSeq slot) 1
  else .used

/-- The classes of the slots of a sector, in order. -/
def classSlots : List (List Byte) → List SlotClass
  | [] => []
  | [a] => [classSlot a]
  | a :: b :: rest =>
    if validRecord (a ++ b) 2 then .begins (recordSeq a) 2 :: .continues :: classSlots rest
    else classSlot a :: classSlots (b :: rest)

/-- A valid record of the ring: where it begins, its sequence, its slots. -/
structure Found where
  pos : Nat
  seq : Word32
  slots : Nat
deriving DecidableEq, Repr

/-- The valid records of the ring, in ring order, from the given position on. -/
def foundRecords : Nat → List SlotClass → List Found
  | _, [] => []
  | pos, .begins seq slots :: cs => ⟨pos, seq, slots⟩ :: foundRecords (pos + 1) cs
  | pos, .erased :: cs | pos, .used :: cs | pos, .continues :: cs => foundRecords (pos + 1) cs

/-- One record is newer than another (R174). -/
def Found.newer (a b : Found) : Bool :=
  decide (1 ≤ uptimeAge a.seq b.seq) && decide (uptimeAge a.seq b.seq ≤ 2 ^ 31 - 1)

/-- The one of two records with the greater sequence number, the later of equals. -/
def Found.greater (a b : Found) : Found := if a.seq.toNat ≤ b.seq.toNat then b else a

/-- The newest record (R174). -/
def newestOf (fs : List Found) : Option Found :=
  match fs.find? fun a => fs.all fun b => b.pos == a.pos || a.newer b with
  | some a => some a
  | none =>
    match fs with
    | [] => none
    | f :: rest => some (rest.foldl Found.greater f)

/-- The class of a slot of the ring, by its place from sector 0, slot 0. -/
def ringAt (ring : List SlotClass) (pos : Nat) : SlotClass := ring.getD (pos % ring.length) .used

/-- Erased slots that follow one another at the front of a list. -/
def erasedRun : List SlotClass → Nat
  | .erased :: cs => erasedRun cs + 1
  | _ => 0

/-- Every slot of a sector of the ring reads erased (R174). -/
def sectorErased (sectors : List (List SlotClass)) (sector : Nat) : Bool :=
  (sectors.getD sector []).all fun c => c == .erased

/-- The next sequence, write position and room that the scan finds (R174). -/
def Plan.findRing (p : Plan) (sectors : List (List SlotClass)) : Ring :=
  let ring := sectors.flatten
  let newest := newestOf (foundRecords 0 ring)
  let start := match newest with
    | some f => (f.pos + f.slots) % ring.length
    | none => 0
  let erased := ((List.range ring.length).map fun i => (start + i) % ring.length).find? fun pos => ringAt ring pos == .erased
  let pos := erased.getD start
  let sector := pos / p.slotsPerSector
  let slot := pos % p.slotsPerSector
  { nextSeq := match newest with
      | some f => f.seq + 1
      | none => 1
    sector := sector
    slot := slot
    room := erasedRun ((sectors.getD sector []).drop slot) }

/-- The Journal Unit as it starts: what the scan finds, with the next-sector mark (R168, R174). -/
def Plan.startJournal (p : Plan) (sectors : List (List SlotClass)) : Journal :=
  let ring := p.findRing sectors
  { Journal.reset with ring := some ring, nextErased := sectorErased sectors ((ring.sector + 1) % p.sectorCount) }

/-- JOURNAL_SCAN_SECTOR_READ (R173, R174, R186): the plan is applied after the last sector. -/
def execJournalScanSectorRead (bytes : List Byte) (vstbyMv : Nat) (s : State) : Host.Outcome State Fault Refusal :=
  .next (if s.load.phase = some .scan then
    let classes := classSlots (cutSlots s.plan.slotsPerSector (readBytes s.plan.sectorSize bytes))
    let t := s.modLoad fun l => { l with scanned := l.scanned ++ [classes] }
    if t.load.scanned.length < t.plan.sectorCount then t
    else t.applyPlan (t.plan.startJournal t.load.scanned) vstbyMv
  else s)

end Sys2Proof.Machine
end

