-- ==== Sys2Proof/Machine/DLinkPins.lean ====
section
/-! DEFINITION. The D-link pins (R119, chapter 11.5): the reads of the load and of the start-up scan (R179, R180, R186), the
bridge's own transactions (R131, R133, R139), and the relay; and what the part drives on U_IO0 to U_IO3. -/

namespace Sys2Proof.Machine

/-- The READ entry of the built-in class table that the load uses (R180): the first of them, 0x03
(notes/assumptions/63.md). -/
def builtinRead : ClassEntry := fallbackPlan.entryFor .read

/-- The D-link read in progress before plan application: a status read once it is due, the header and then the body of the
image in the plan region that the strap selects, and the next sector of the ring with the prepared plan's READ entry and
divider (R179, R180, R186). -/
def State.loadRead (s : State) : Option Transaction :=
  match s.load.phase with
  | some .flashWait => if s.load.statusDue ≤ s.clock then some loadStatusRead else none
  | some .read =>
    if s.load.image = [] then some (builtinRead.readFrom loadDiv (planRegionBase s.load.strap) headerSize)
    else
      some (builtinRead.readFrom loadDiv (planRegionBase s.load.strap + headerSize) (imageLength s.load.image - headerSize))
  | some .scan =>
    some ((s.plan.entryFor .read).readFrom s.plan.div (s.plan.journalBase + s.load.scanned.length * s.plan.sectorSize)
      s.plan.sectorSize)
  | none | some .oscWait | some .check | some .prepare | some .applied => none

/-- What the D-link pins show. -/
inductive DLink
  /-- not driven: under part reset, and before plan application while nothing is read -/
  | undriven
  /-- D_CSN deasserted -/
  | deasserted
  /-- the switch is closed: the pins follow the U-link -/
  | relayed
  /-- transactions of the part's own, made in turn -/
  | own (ts : List Transaction)
deriving DecidableEq, Repr

/-- The transactions of the part's own that are in progress: of ISSUING, of REFUSING, or a poll (R131, R133, R139); before
plan application a read of the load. What is issued or refused while a poll goes on after its operation's end is shown in
the poll's place (notes/assumptions/56.md). -/
def State.ownTransactions (s : State) : List Transaction :=
  if !s.applied then s.loadRead.toList
  else match s.flb.issue with
    | some i => s.plan.issuing i
    | none =>
      if s.inPhase .refusing then [s.plan.refusing]
      else if s.flb.poll != .idle then [s.plan.polling]
      else []

/-- The D-link pins. A poll that finishes after its operation ended goes before the relay (notes/assumptions/52.md). -/
def State.dlink (s : State) : DLink :=
  match s.ownTransactions with
  | t :: ts => .own (t :: ts)
  | [] => if !s.applied then .undriven else if s.relayClosed then .relayed else .deasserted

/-- The level of D_CSN, where the part drives it (R119). -/
def State.dcsnPin (s : State) : PinLevel :=
  match s.dlink with
  | .undriven => .undriven
  | .deasserted => .high
  | .relayed => if s.flb.xfer.isSome then .low else .high
  | .own _ => .low

/-- D_IO0 to D_IO3 in the part's own transactions in progress, clock by clock (R118, R119). -/
def State.dioPins (s : State) : List Lanes := s.ownTransactions.flatMap Transaction.lanes

/-! ### U_IO0 to U_IO3 (R128, R129, R140) -/

/-- What the part gives U_IO0 to U_IO3 at a clock after the eighth edge of an opcode, the first of them being clock 0; none
where the flash's lanes pass through the closed switch. -/
def UOut.lanesAt (o : UOut) (clock : Nat) : Option Lanes :=
  match o with
  | .undriven => some lanesUndriven
  | .relayed => none
  | .status b lanes => some (byteOnLanes lanes b (clock % (8 / lanes)))
  | .allOnes addrBytes addrLanes dataLanes =>
    if clock < laneClocks addrBytes addrLanes then some lanesUndriven
    else some (Vector.ofFn fun lane => if lane.val < dataLanes then .high else .undriven)

/-- U_IO0 to U_IO3 at a clock after the eighth edge of the transaction in progress: driven by the part for its own answers
alone (R119), and not at all once U_CSN is deasserted. -/
def State.uioPins (s : State) (clock : Nat) : Option Lanes :=
  if s.relayClosed then none
  else match s.flb.xfer with
    | none => some lanesUndriven
    | some _ => s.flb.uOut.lanesAt clock

end Sys2Proof.Machine
end

