-- ==== Sys2Proof/Machine/Clock.lean ====
section
/-! DEFINITION. The part's own clock: what it raises while no command waits. DESIGN CHOICE (notes/assumptions/3.md): a
step on an empty queue is one count of the 96 MHz clock, or, where an event of the part's own timers, blocks or engine is
due, the raising of one such event as a command. -/

namespace Sys2Proof.Machine

/-- A timer that has run out at this count of the clock. -/
def timerDue (clock : Nat) (t : Timer) : Bool :=
  match t with
  | some due => decide (due ≤ clock)
  | none => false

/-- A command, where its condition holds. -/
def raise (c : Instr) (cond : Bool) : List Instr := if cond then [c] else []

/-- The timers of a channel (R7, R8, R11, R12). -/
def State.channelDue (s : State) (ch : Fin 12) : List Instr :=
  raise (.riseTimerExpiry ch) (timerDue s.clock (s.rail ch).rise) ++
    raise (.settleTimerExpiry ch) (timerDue s.clock (s.rail ch).settle) ++
    raise (.fallTimerExpiry ch) (timerDue s.clock (s.rail ch).fall)

/-- The engine's next step, or the end of the one in progress (R25, R28, R29, R31). -/
def State.engineDue (s : State) : List Instr :=
  match s.eng.step with
  | .ready => ((s.currentStep.map fun st => st.kind.command).toList).filter fun _ => s.applied && s.eng.mode == .running
  | .delaying due => raise .delayExpiry (decide (due ≤ s.clock))
  | .pulsing _ due => raise .linePulseExpiry (decide (due ≤ s.clock))
  | .awaiting _ _ due => raise .awaitTimeout (decide (due ≤ s.clock))
  | .idle | .beginWait | .lineWait | .railWait _ | .linkWait => []

/-- The bridge's own transactions and the operation in flight (R131, R133 to R135, R139). -/
def State.linkDue (s : State) : List Instr :=
  raise .commandIssued (s.flb.issue.isSome && timerDue s.clock s.flb.dlinkDue) ++
    raise .refusingWriteDisableEnd (s.inPhase .refusing && timerDue s.clock s.flb.dlinkDue) ++
    raise .flashPollStart (s.flb.inflight.isSome && s.flb.poll == .idle && timerDue s.clock s.flb.nextPoll) ++
    match s.flb.inflight with
    | some f =>
      raise .overrun (!f.overrun && decide (f.atMax 1 ≤ s.clock)) ++ raise .flashStuck (decide (f.atMax 2 ≤ s.clock))
    | none => []

/-- The events of the part's own that are due at the present count of the clock. -/
def State.due (s : State) : List Instr :=
  raise .oscWaitEnd (s.load.phase == some .oscWait && decide (msCounts 2 ≤ s.clock)) ++
    raise .uptimeTick (decide (s.sense.msDue ≤ s.clock)) ++
    ((List.finRange 16).flatMap fun pos => raise (.dipEntryStale pos) (s.staleDue pos.val)) ++
    (List.finRange 12).flatMap s.channelDue ++
    s.engineDue ++
    raise .rideTimerExpiry (timerDue s.clock s.boc.ride) ++
    raise .restoreTimerExpiry (timerDue s.clock s.boc.restore) ++
    raise .mainsTimerExpiry (timerDue s.clock s.boc.mains) ++
    raise .holdTimerExpiry (timerDue s.clock s.adu.hold) ++
    raise .dimInSteady (!s.sense.dim.state.steady && decide (s.sense.dim.lastEdge + steadyCounts ≤ s.clock)) ++
    raise .dimOutHighTimeEnd (timerDue s.clock s.dpt.highEnd) ++
    raise .rampExpiry (timerDue s.clock s.dpt.ramp) ++
    raise .bocComputation s.sense.bocOffer ++
    raise .aduComputation s.sense.aduOffer ++
    raise .busCollapse s.sense.collapse ++
    s.linkDue

/-- What a step on an empty queue does: nothing while part reset is held; with events due, one of them is put in the
queue, which one being a free value where there are several; otherwise the clock counts once. -/
def State.tick (s : State) : State :=
  if !s.released then s
  else match s.due with
    | [] => s.setClock (s.clock + 1)
    | [c] => { s with pending := [c] }
    | c :: cs =>
      { s with pending := [(c :: cs).getD (Config.tieOrder s.draws % (cs.length + 1)) c], draws := s.draws + 1 }

end Sys2Proof.Machine
end

