-- ==== Sys2Proof/Machine/Dispatch.lean ====
section
/-! DEFINITION. One arm for each command of the table. -/

namespace Sys2Proof.Machine

def exec (i : Instr) (s : State) : Host.Outcome State Fault Refusal :=
  match i with
  | .partReset cause => Sys2Proof.Machine.execPartReset cause s
  | .partResetRelease planSel planUnlock dimIn ended => Sys2Proof.Machine.execPartResetRelease planSel planUnlock dimIn s ended
  | .oscWaitEnd => Sys2Proof.Machine.execOscWaitEnd s
  | .flashWaitStatusRead status => Sys2Proof.Machine.execFlashWaitStatusRead status s
  | .planHeaderReadEnd bytes => Sys2Proof.Machine.execPlanHeaderReadEnd bytes s
  | .planBodyReadEnd bytes vstbyMv => Sys2Proof.Machine.execPlanBodyReadEnd bytes vstbyMv s
  | .journalScanSectorRead bytes vstbyMv => Sys2Proof.Machine.execJournalScanSectorRead bytes vstbyMv s
  | .scanCompletion vbus vbulk ibus vstby => Sys2Proof.Machine.execScanCompletion vbus vbulk ibus vstby s
  | .bocComputation => Sys2Proof.Machine.execBocComputation s
  | .aduComputation => Sys2Proof.Machine.execAduComputation s
  | .busCollapse => Sys2Proof.Machine.execBusCollapse s
  | .uptimeTick => Sys2Proof.Machine.execUptimeTick s
  | .dipEntryStale pos => Sys2Proof.Machine.execDipEntryStale pos s
  | .filteredPgGood ch pin => Sys2Proof.Machine.execFilteredPgGood ch s pin
  | .filteredPgNotGood ch pin => Sys2Proof.Machine.execFilteredPgNotGood ch s pin
  | .riseTimerExpiry ch => Sys2Proof.Machine.execRiseTimerExpiry ch s
  | .settleTimerExpiry ch => Sys2Proof.Machine.execSettleTimerExpiry ch s
  | .fallTimerExpiry ch => Sys2Proof.Machine.execFallTimerExpiry ch s
  | .auxChange input pin => Sys2Proof.Machine.execAuxChange input pin s
  | .requestChange request pin => Sys2Proof.Machine.execRequestChange request pin s
  | .acOkLoss pin => Sys2Proof.Machine.execAcOkLoss s pin
  | .acOkReturn pin => Sys2Proof.Machine.execAcOkReturn s pin
  | .rideTimerExpiry => Sys2Proof.Machine.execRideTimerExpiry s
  | .restoreTimerExpiry => Sys2Proof.Machine.execRestoreTimerExpiry s
  | .mainsTimerExpiry => Sys2Proof.Machine.execMainsTimerExpiry s
  | .railUp rail wait => Sys2Proof.Machine.execRailUp rail wait s
  | .railDown rail wait => Sys2Proof.Machine.execRailDown rail wait s
  | .delay ms => Sys2Proof.Machine.execDelay ms s
  | .delayExpiry => Sys2Proof.Machine.execDelayExpiry s
  | .line ctl active => Sys2Proof.Machine.execLine ctl active s
  | .linePulse ctl ms => Sys2Proof.Machine.execLinePulse ctl ms s
  | .linePulseExpiry => Sys2Proof.Machine.execLinePulseExpiry s
  | .dimLimit value => Sys2Proof.Machine.execDimLimit value s
  | .await input active ms => Sys2Proof.Machine.execAwait input active ms s
  | .awaitTimeout => Sys2Proof.Machine.execAwaitTimeout s
  | .flashQuiesce => Sys2Proof.Machine.execFlashQuiesce s
  | .flashResume => Sys2Proof.Machine.execFlashResume s
  | .nop => Sys2Proof.Machine.execNop s
  | .dimInRisingEdge at_ => Sys2Proof.Machine.execDimInRisingEdge at_ s
  | .dimInFallingEdge at_ => Sys2Proof.Machine.execDimInFallingEdge at_ s
  | .dimInSteady => Sys2Proof.Machine.execDimInSteady s
  | .dimOutHighTimeEnd => Sys2Proof.Machine.execDimOutHighTimeEnd s
  | .rampExpiry => Sys2Proof.Machine.execRampExpiry s
  | .read span opcode => Sys2Proof.Machine.execRead span opcode s
  | .statusRead span opcode => Sys2Proof.Machine.execStatusRead span opcode s
  | .writeEnable span opcode => Sys2Proof.Machine.execWriteEnable span opcode s
  | .writeDisable span opcode => Sys2Proof.Machine.execWriteDisable span opcode s
  | .otherPass span opcode => Sys2Proof.Machine.execOtherPass span opcode s
  | .program span opcode bytes => Sys2Proof.Machine.execProgram span opcode bytes s
  | .eraseSector span opcode bytes => Sys2Proof.Machine.execEraseSector span opcode bytes s
  | .eraseBlock span opcode bytes => Sys2Proof.Machine.execEraseBlock span opcode bytes s
  | .eraseDevice span opcode bytes => Sys2Proof.Machine.execEraseDevice span opcode bytes s
  | .regWrite span opcode bytes => Sys2Proof.Machine.execRegWrite span opcode bytes s
  | .otherBlock span opcode bytes => Sys2Proof.Machine.execOtherBlock span opcode bytes s
  | .cutTransaction span => Sys2Proof.Machine.execCutTransaction span s
  | .holdTimerExpiry => Sys2Proof.Machine.execHoldTimerExpiry s
  | .commandIssued => Sys2Proof.Machine.execCommandIssued s
  | .refusingWriteDisableEnd => Sys2Proof.Machine.execRefusingWriteDisableEnd s
  | .flashPollStart => Sys2Proof.Machine.execFlashPollStart s
  | .flashPollComplete status => Sys2Proof.Machine.execFlashPollComplete status s
  | .overrun => Sys2Proof.Machine.execOverrun s
  | .flashStuck => Sys2Proof.Machine.execFlashStuck s

end Sys2Proof.Machine
end

