-- ==== Sys2Proof/WellFormed.lean ====
section
/-! DEFINITION. Which commands the part can be sent: the ranges of the step parameters (R28, R29, R31, R50) and
the lengths of the load phase's reads (R180, R147, R164). -/

namespace Sys2Proof

/-- A value within inclusive bounds. -/
def inRange (lo hi v : Nat) : Bool := decide (lo ≤ v) && decide (v ≤ hi)

/-- The checks on one command. A length that depends on the state (the image's body, the ring's sector) is
checked against its bounds only. -/
def Instr.wellFormed : Instr → Bool
  | .delay ms => inRange 1 10000 ms
  | .linePulse _ ms => inRange 1 255 ms
  | .dimLimit v => inRange 0 1000 v
  | .await _ _ ms => inRange 1 10000 ms
  | .planHeaderReadEnd bytes => decide (bytes.length = 12)
  | .planBodyReadEnd bytes _ => inRange (973 - 12) (16384 - 12) bytes.length
  | .journalScanSectorRead bytes _ => inRange 4096 65536 bytes.length && decide (bytes.length % 64 = 0)
  | .partReset _ | .partResetRelease _ _ _ _ | .oscWaitEnd | .flashWaitStatusRead _ | .scanCompletion _ _ _ _
  | .bocComputation | .aduComputation | .busCollapse | .uptimeTick | .dipEntryStale _ | .filteredPgGood _ _
  | .filteredPgNotGood _ _ | .riseTimerExpiry _ | .settleTimerExpiry _ | .fallTimerExpiry _ | .auxChange _ _
  | .requestChange _ _ | .acOkLoss _ | .acOkReturn _ | .rideTimerExpiry | .restoreTimerExpiry | .mainsTimerExpiry
  | .railUp _ _ | .railDown _ _ | .delayExpiry | .line _ _ | .linePulseExpiry | .awaitTimeout | .flashQuiesce
  | .flashResume | .nop | .dimInRisingEdge _ | .dimInFallingEdge _ | .dimInSteady | .dimOutHighTimeEnd
  | .rampExpiry | .read _ _ | .statusRead _ _ | .writeEnable _ _ | .writeDisable _ _ | .otherPass _ _
  | .program _ _ _ | .eraseSector _ _ _ | .eraseBlock _ _ _ | .eraseDevice _ _ _ | .regWrite _ _ _
  | .otherBlock _ _ _ | .cutTransaction _ | .holdTimerExpiry | .commandIssued | .refusingWriteDisableEnd
  | .flashPollStart | .flashPollComplete _ | .overrun | .flashStuck => true

end Sys2Proof
end

