-- ==== Sys2Proof/Safety.lean ====
section
/-! DEFINITION. What holds of the part between two commands: the bounds of its queues and counters, the rules its blocks
keep with one another, the ranges of the plan's figures; and the terms in which the statements speak of steps. -/

namespace Sys2Proof.Machine

/-- The queues and counters stay within the sizes the spec gives them (R55, R61, R93, R94, R95, R167). -/
structure Bounded (s : State) : Prop where
  queue : s.jnu.queue.length ≤ 8
  lost : s.jnu.lost ≤ 255
  ring : s.sense.ibusRing.length ≤ 8
  busCount : s.sense.busCount ≤ 2
  dipHeld : s.sense.dipHeld ≤ 65535
  history : s.boc.history.length ≤ 16
  storm : s.boc.stormFound ≤ 16
  shed : s.boc.shedLevel ≤ 3

/-- The states in which the controller has committed (R107, R112, R113). -/
def BocState.committed : BocState → Bool
  | .commit | .descent | .dark => true
  | .init | .normal | .dip | .recover => false

/-- The controller's own items agree with its state, and with the domains and the descent claim of the engine (R92,
R93, R96, R98, R99, R102, R108, R112, R113). -/
structure ControllerSafe (s : State) : Prop where
  /-- the shed level is 0 in INIT and NORMAL (R93) -/
  shedZero : s.boc.state = .init ∨ s.boc.state = .normal → s.boc.shedLevel = 0
  /-- and 3 from the commitment to the rearm (R107, R111) -/
  shedThree : s.boc.state.committed = true → s.boc.shedLevel = 3
  /-- a current dip is open in DIP, and none in INIT, NORMAL and RECOVER (R97, R98, R103) -/
  dipOpen : s.boc.state = .dip → s.boc.dip.isSome = true
  dipNone : s.boc.state = .init ∨ s.boc.state = .normal ∨ s.boc.state = .recover → s.boc.dip = none
  /-- the timers run in the states that use them (R96, R101, R104, R116) -/
  ride : s.boc.ride.isSome = true → s.boc.state = .dip
  restore : s.boc.restore.isSome = true → s.boc.state = .recover
  mains : s.boc.mains.isSome = true → s.boc.state = .init ∨ s.boc.state = .dark
  /-- held fault marks stand in DIP and RECOVER alone (R102, R106) -/
  held : s.boc.heldBoard = true ∨ s.boc.heldPanel = true → s.boc.state = .dip ∨ s.boc.state = .recover
  /-- the commit notes stand from the commitment to the rearm (R108) -/
  notes : s.boc.state.committed = s.boc.notes.isSome
  /-- both domains are DOWN in INIT and in DARK (R96, R113) -/
  domains : s.boc.state = .init ∨ s.boc.state = .dark → s.eng.board = .down ∧ s.eng.panel = .down
  /-- the descent claim stands in DESCENT alone (R44, R112) -/
  descent : (s.eng.descent = true) ↔ s.boc.state = .descent

/-- The transaction in progress is an intake (R124). -/
def Xfer.isIntake : Xfer → Bool
  | .intake _ _ _ => true
  | .selected _ | .relayed _ | .failAnswer _ | .localAnswer _ | .violation _ | .ignored _ => false

/-- The bridge takes no part in the transaction in progress (R121, R123). -/
def Xfer.unseen : Xfer → Bool
  | .selected _ | .ignored _ => true
  | .relayed _ | .intake _ _ _ | .failAnswer _ | .localAnswer _ | .violation _ => false

/-- The phase of the open tenure, if any. -/
def State.phase (s : State) : Option Phase := s.flb.tenure.map Tenure.phase

/-- The link's mode, tenure, operations and parked slot agree (R121, R127, R132, R156, R158). -/
structure LinkSafe (s : State) : Prop where
  /-- the mode is TENURE exactly while a tenure is open (R121) -/
  tenure : s.flb.mode = .tenure ↔ s.flb.tenure.isSome = true
  /-- in RELAY nothing is being issued or in flight (R121, R142) -/
  relay : s.flb.mode = .relay → s.flb.issue = none ∧ s.flb.inflight = none
  /-- an intake is under way in RELAY alone, which it holds to its end (R121, R126, R138, R142) -/
  intake : s.flb.xfer.any Xfer.isIntake = true → s.flb.mode = .relay
  /-- a transaction begun through the closed switch holds RELAY to its end (R138, R141) -/
  passed : s.flb.xfer = some (.selected true) → s.flb.mode = .relay
  /-- a report is withheld in REFUSING alone (R162) -/
  reportless : s.flb.reportless = true → s.phase = some .refusing
  /-- further internal operations are barred in IGNORE with the MAIN_RESET line inactive alone (R142) -/
  barred : s.flb.barred = true → s.flb.mode = .ignore ∧ s.mainActive = false
  /-- until plan application the bridge is in IGNORE and takes no part in a transaction (R120, R121) -/
  loading : s.applied = false → s.flb.mode = .ignore ∧ s.flb.xfer.all Xfer.unseen = true
  /-- at most one write-class command is on the D-link (R132) -/
  one : s.flb.inflight.isSome = true → s.flb.issue = none
  /-- the phase says what the tenure is doing (R127) -/
  issuing : s.phase = some .issuing → s.flb.issue.isSome = true
  operating : s.phase = some .operating → s.flb.inflight.isSome = true
  waiting : s.phase = some .parked ∨ s.phase = some .refusing → s.flb.issue = none ∧ s.flb.inflight = none
  /-- DECIDING and APPENDING do not outlast the event they arise in (R126, R137) -/
  passing : s.phase ≠ some .deciding ∧ s.phase ≠ some .appending
  /-- the slot is occupied exactly in phase PARKED, with the hold timer running (R156) -/
  parked : s.adu.parked.isSome = true ↔ s.phase = some .parked
  hold : s.adu.hold.isSome = s.adu.parked.isSome
  /-- a parked command asks for an operation, and the controller is in DIP or RECOVER (R153, R158) -/
  command : ∀ p, s.adu.parked = some p → p.command.cls.op.isSome = true
  dip : s.adu.parked.isSome = true → s.boc.state = .dip ∨ s.boc.state = .recover

/-- A step that drives a control line (R30, R31). -/
def StepKind.drivesLine : StepKind → Bool
  | .line _ _ | .linePulse _ _ => true
  | .nop | .railUp _ _ | .railDown _ _ | .delay _ | .dimLimit _ | .await _ _ _ | .flashQuiesce | .flashResume => false

/-- The engine's mode, slot, step and holds agree (R35, R40, R47, R49). -/
structure EngineSafe (s : State) : Prop where
  /-- a slot is held exactly while a sequence is RUNNING or SUSPENDED -/
  slot : s.eng.slot = none ↔ s.eng.mode = .idle
  /-- IDLE holds nothing (R40, R49) -/
  idle : s.eng.mode = .idle → s.eng.index = 0 ∧ s.eng.step = .idle ∧ s.eng.quiesceHold = false ∧ s.eng.quietHold = false
  /-- an up sequence alone is SUSPENDED, with no step in progress (R47) -/
  suspended : s.eng.mode = .suspended → s.eng.step = .idle ∧ (s.eng.slot = some .boardUp ∨ s.eng.slot = some .panelUp)
  /-- a RUNNING sequence has a step to begin or in progress -/
  running : s.eng.mode = .running → s.eng.step ≠ .idle
  /-- a step that waits for the end of internal work drives a line (R35) -/
  line : s.applied = true → s.eng.step = .lineWait → (s.currentStep.map Step.kind).any StepKind.drivesLine = true

/-! ### The rails and DIM_OUT -/

/-- What a channel keeps, by its entry and the shed level (R6 to R12, R13, R14, R16, R17, R20). -/
structure ChannelSafe (e : RailEntry) (level : Nat) (c : Channel) : Prop where
  /-- a timer runs in the state it belongs to, and in no other (R6 to R12) -/
  rise : c.rise.isSome = (c.state == .rising)
  settle : c.settle.isSome = (c.state == .settling)
  fall : c.fall.isSome = (c.state == .falling)
  /-- a fault kind and a prior state are held in FAULT alone (R3, R20, R22) -/
  kind : c.faultKind.isSome = (c.state == .fault)
  prior : c.prior.isSome = (c.state == .fault)
  /-- the shed mark follows the shed level (R16) -/
  mark : c.shed = e.shedAt level
  /-- a shed channel is not energised (R17) -/
  shed : c.shed = true → c.state = .off ∨ c.state = .falling ∨ c.state = .fault
  /-- an order is pending only while the channel is on its way (R13, R14) -/
  enable : c.order = some .enable → (c.state = .rising ∨ c.state = .settling) ∧ c.want = true
  disable : c.order = some .disable → c.state = .falling ∧ c.want = false
  /-- the filtered PG of a monitored channel by its state (R6 to R11) -/
  good : e.timed = false → c.state = .settling ∨ c.state = .on ∨ c.state = .falling → c.pgGood = true
  notGood : e.timed = false → c.state = .rising → c.pgGood = false
  /-- a timed channel has no PG, no SETTLING and no FAULT (R4, R12) -/
  timed : e.timed = true → c.state ≠ .settling ∧ c.state ≠ .fault ∧ c.pgGood = false

/-- Every channel keeps its rules from plan application on, and an order is pending only at the channel the engine
waits for (section 1.5, R26, R27). -/
structure RailsSafe (s : State) : Prop where
  channels : s.applied = true → ∀ ch : Fin 12, ChannelSafe (s.railEntry ch) s.boc.shedLevel (s.rail ch)
  orders : s.applied = true → ∀ ch : Fin 12, (s.rail ch).order.isSome = true →
    s.eng.mode = .running ∧ s.eng.step = .railWait ch

/-- The applied cap never stands above the target, nor the duty in force above the applied cap and the measured duty:
so the duty in force never exceeds the smallest of the measured duty, the sequence cap and the shed cap (R66, R69). -/
structure DimSafe (s : State) : Prop where
  /-- nothing is lit before plan application (R70) -/
  dark : s.applied = false → s.dpt.applied = 0 ∧ s.dpt.ramp = none ∧ s.eng.cap = 0
  target : s.applied = true → s.dpt.applied ≤ s.dimTarget
  cap : s.dpt.duty ≤ s.dpt.applied
  measured : s.dpt.duty ≤ s.sense.dim.duty
  /-- no light before the second period start (R67), and a steady high level is a duty of 1,000 (R65) -/
  waiting : s.sense.dim.state = .waiting → s.dpt.duty = 0
  high : s.sense.dim.state = .steadyHigh → s.sense.dim.duty = 1000

/-! ### Before plan application -/

/-- Until the plan is applied every block holds its values for part reset, but for what runs from the release (R3, R40,
R57, R70, R72, R92, R120, R150, R168, R178). -/
structure HeldUntilApplied (s : State) : Prop where
  rails : s.applied = false → s.rails = Vector.replicate 12 Channel.reset
  eng : s.applied = false → s.eng = Engine.reset
  hbu : s.applied = false → s.hbu = none
  boc : s.applied = false → s.boc = BrownOut.reset
  adu : s.applied = false → s.adu = Admission.reset
  jnu : s.applied = false → s.jnu = Journal.reset
  flb : s.applied = false → s.flb = { Bridge.reset with xfer := s.flb.xfer, uOut := s.flb.uOut }
  link : s.applied = false → s.flb.xfer.all Xfer.unseen = true
  dpt : s.applied = false → s.dpt = Dimming.reset
  inputs : s.applied = false → s.sense.acOk = false ∧ s.sense.aux = Vector.replicate 2 false ∧
    s.sense.dipSince = none ∧ s.sense.dipHeld = 0 ∧ s.sense.busBelow = false ∧ s.sense.busCount = 0
  offers : s.applied = false → s.sense.collapse = false ∧ s.sense.bocOffer = false ∧ s.sense.aduOffer = false
  values : s.applied = false → s.sense.vbusMv = none ∧ s.sense.vbulkV = none ∧ s.sense.ibusMa = none
  /-- the comparator uses level code 3, and the filters that start at plan application have no history (R56, R57) -/
  filters : s.applied = false → s.sense.supplyCode = 3 ∧ s.sense.filters.pg = Vector.replicate 12 0 ∧
    s.sense.filters.aux = Vector.replicate 2 0 ∧ s.sense.filters.acOk = 0
  /-- part reset is held exactly while one of its causes persists (R56) -/
  causes : s.released = false ↔ s.sense.supplyLow = true ∨ s.sense.resetNLow = true
  /-- and while part reset is held nothing runs at all -/
  load : s.released = false → s.load = Loader.reset
  uptime : s.released = false → s.sense.uptime = 0 ∧ s.sense.ibusRing = [] ∧ s.sense.runReq = false ∧
    s.sense.panelReq = false

/-! ### The plan and the budget's inputs -/

/-- Every figure of a plan lies in the range the spec gives it, and the figures that depend on one another agree (R1, R24,
R25, R51, R53, R54, R61, R66, R75, R91, R119, R122, R133, R137, R146, R147, R156, R164). -/
structure Plan.InRange (p : Plan) : Prop where
  unknownClass : p.unknownClass = .otherPass ∨ p.unknownClass = .otherBlock
  failBit : p.failBit ≤ 8
  scales : (5000 ≤ p.scaleVbus ∧ p.scaleVbus ≤ 33000) ∧ (100 ≤ p.scaleVbulk ∧ p.scaleVbulk ≤ 511) ∧
    (1000 ≤ p.scaleIbus ∧ p.scaleIbus ≤ 32767)
  trims : ∀ t ∈ [p.trimVbus, p.trimVbulk, p.trimIbus, p.trimVstby], -7 ≤ t ∧ t ≤ 7
  busFloor : p.busFloorMv ≤ 32767
  supply : p.supplyLevel ≤ 3
  filters : p.acOk.filter ≤ 3 ∧ p.aux0.filter ≤ 3 ∧ p.aux1.filter ≤ 3
  caps : p.cap1 ≤ 1000 ∧ p.cap2 ≤ 1000 ∧ 1 ≤ p.ramp ∧ p.ramp ≤ 1000
  rails : ∀ ch : Fin 12, p.rails[ch].pgFilter ≤ 3 ∧ p.rails[ch].settle ≤ 7 ∧
    (1 ≤ p.rails[ch].riseMs ∧ p.rails[ch].riseMs ≤ 255) ∧ (1 ≤ p.rails[ch].fallMs ∧ p.rails[ch].fallMs ≤ 255) ∧
    p.rails[ch].powerMw ≤ 65535 ∧ p.rails[ch].shedClass ≤ 3
  slots : ∀ k : Fin 7, p.slots[k].start ≤ 127 ∧ p.slots[k].count ≤ 24
  pool : p.pool.length = 128 ∧ ∀ st ∈ p.pool, st.kind.command.wellFormed = true
  classes : p.classes.length = 16 ∧ ∀ e ∈ p.classes, (e.addrBytes = 0 ∨ e.addrBytes = 3 ∨ e.addrBytes = 4) ∧
    (e.addrLanes = 1 ∨ e.addrLanes = 2 ∨ e.addrLanes = 4) ∧ (e.dataLanes = 1 ∨ e.dataLanes = 2 ∨ e.dataLanes = 4)
  windows : p.windows.length = 8 ∧ ∀ w ∈ p.windows, 12 ≤ w.sizeLog ∧ w.sizeLog ≤ 28 ∧ w.base % 2 ^ w.sizeLog = 0
  energy : (10 ≤ p.capUf ∧ p.capUf ≤ 2000) ∧ (50 ≤ p.dropoutV ∧ p.dropoutV ≤ 400) ∧ (500 ≤ p.eff ∧ p.eff ≤ 1000) ∧
    p.margin ≤ 10000 ∧ p.recordCost ≤ 1000
  loads : p.baseMw ≤ 20000 ∧ p.flashActiveMw ≤ 5000 ∧ p.blFullMw ≤ 300000
  levels : p.s3 ≤ p.s2 ∧ p.s2 ≤ p.s1 ∧ p.s1 ≤ 261121
  ride : p.rideLimitMs ≤ 10000 ∧ p.restoreDelayMs ≤ 10000 ∧ (1 ≤ p.restoreStepMs ∧ p.restoreStepMs ≤ 2000) ∧
    (10 ≤ p.rearmDelayMs ∧ p.rearmDelayMs ≤ 10000)
  storm : (1000 ≤ p.stormWindowMs ∧ p.stormWindowMs ≤ 600000) ∧ (2 ≤ p.stormCount ∧ p.stormCount ≤ 16)
  link : (1 ≤ p.div ∧ p.div ≤ 15) ∧ (20 ≤ p.pollUs ∧ p.pollUs ≤ 2000) ∧ (1 ≤ p.holdLimitMs ∧ p.holdLimitMs ≤ 5000)
  geometry : (6 ≤ p.pageLog ∧ p.pageLog ≤ 8) ∧ (12 ≤ p.sectorLog ∧ p.sectorLog ≤ 16) ∧
    (15 ≤ p.blockLog ∧ p.blockLog ≤ 18) ∧ p.sectorLog ≤ p.blockLog
  times : ∀ op : OpClass, 1 ≤ p.typTime.at op ∧ p.typTime.at op ≤ p.maxTime.at op ∧ p.maxTime.at op ≤ 1000000
  journal : (p.sectorCount = 0 ∨ (2 ≤ p.sectorCount ∧ p.sectorCount ≤ 16)) ∧ p.journalBase % p.sectorSize = 0 ∧
    (1 ≤ p.piggybackLimit ∧ p.piggybackLimit ≤ 8)
  descent : p.tPanelSwift ≤ 65535 ∧ p.tBoardSwift ≤ 65535

/-- The inputs of a computation lie in the ranges of the blocks that give them (R54, R69, R79). -/
structure Inputs.InRange (i : Inputs) : Prop where
  vbulk : i.vbulkV ≤ 511
  vbus : i.vbusMv ≤ 32767
  ibus : i.ibusMa ≤ 32767
  rails : i.railsMw ≤ 786420
  duty : i.duty ≤ 1000

/-! ### The terms in which the beginning and the end of a step are stated -/

/-- The engine is to begin a step of this kind of the sequence of this slot, and the boundary before it lets it begin: no
fault claim is pending, and an up sequence finds NORMAL and its domain desired up (R25, R42, R45, R47). -/
structure StepReady (s : State) (n : SlotName) (k : StepKind) : Prop where
  applied : s.applied = true
  running : s.eng.mode = .running
  slot : s.eng.slot = some n
  ready : s.eng.step = .ready
  kind : s.currentStep.map Step.kind = some k
  claims : s.eng.claimBoard = false ∧ s.eng.claimPanel = false
  up : n.isUp = true → s.boc.state = .normal ∧ s.seqDesired n = true

/-- The engine is in this step of the sequence of this slot. -/
structure StepUnderWay (s : State) (n : SlotName) (st : StepStatus) : Prop where
  running : s.eng.mode = .running
  slot : s.eng.slot = some n
  step : s.eng.step = st

/-- The engine after a step of the sequence of a slot has completed: at the next step, or, after the last, IDLE with the
domain states of R37 and without the holds the sequence set (R24, R25, R35, R37, R42, R49). -/
def Engine.passed (e : Engine) (n : SlotName) (count : Nat) : Engine :=
  if e.index + 1 < count then { e with index := e.index + 1, step := .ready, quietHold := false }
  else
    { e with
      mode := .idle, slot := none, index := 0, step := .idle, quiesceHold := false, quietHold := false
      board :=
        match n with
        | .boardUp => if e.board = .goingUp then .up else e.board
        | .boardDown | .boardSwift => if e.board = .goingDown then .down else e.board
        | .trip => .down
        | .panelUp | .panelDown | .panelSwift => e.board
      panel :=
        match n with
        | .panelUp => if e.panel = .goingUp then .up else e.panel
        | .panelDown | .panelSwift => if e.panel = .goingDown then .down else e.panel
        | .trip => .down
        | .boardUp | .boardDown | .boardSwift => e.panel }


/-- A domain state at the beginning of a sequence that takes the domain down (R37). -/
def DomainState.falls (d : DomainState) : DomainState := if d = .down then .down else .goingDown

/-- The engine after the sequence of a slot of this many steps has begun: at its first step, or, where it has none,
completed at once (R24, R37, R41). -/
def Engine.begun (e : Engine) (n : SlotName) (count : Nat) : Engine :=
  let first : Engine :=
    { e with
      mode := .running, slot := some n, index := 0, step := .ready
      board :=
        match n with
        | .boardUp => if e.board = .down then .goingUp else e.board
        | .boardDown | .boardSwift | .trip => e.board.falls
        | .panelUp | .panelDown | .panelSwift => e.board
      panel :=
        match n with
        | .panelUp => if e.panel = .down then .goingUp else e.panel
        | .panelDown | .panelSwift | .trip => e.panel.falls
        | .boardUp | .boardDown | .boardSwift => e.panel }
  if count = 0 then first.passed n 0 else first

/-- The engine after the pending fault claims are taken: in INIT and NORMAL a board claim sets both lockouts and a panel
claim the panel lockout, each only while its clearing requests are active; elsewhere they are discarded (R38, R45). -/
def State.claimsTaken (s : State) : Engine :=
  let acts := s.boc.state = .init ∨ s.boc.state = .normal
  { s.eng with
    claimBoard := false, claimPanel := false
    boardLock := if acts ∧ s.eng.claimBoard = true then s.sense.runReq else s.eng.boardLock
    panelLock :=
      if acts ∧ (s.eng.claimBoard = true ∨ s.eng.claimPanel = true) then s.sense.runReq && s.sense.panelReq
      else s.eng.panelLock }

/-- The engine of a state after the step in progress of the sequence of a slot has completed and the boundary after it is
judged (R25, R42, R45 to R47): the fault claims are taken; a down sequence, a descent sequence or TRIP goes on; an up
sequence suspends outside NORMAL at the index of its next step, a kept quiet hold released (notes/assumptions/42.md), is
abandoned where its domain is no longer desired up, and otherwise goes on. -/
def State.passed (s : State) (n : SlotName) : Engine :=
  let g : Engine := s.claimsTaken
  let waiting : Engine := { g with step := .idle, quietHold := false }
  if n.isUp = true ∧ s.boc.state ≠ .normal then { waiting with mode := .suspended, index := g.index + 1 }
  else if n.isUp = true ∧ ({ s with eng := g } : State).seqDesired n = false then
    { waiting with mode := .idle, slot := none, index := 0, quiesceHold := false }
  else g.passed n (s.plan.slotRange n).count

/-- The engine as it begins a step: the quiet hold that the beginning of its sequence set is released (R35). -/
def State.beginning (s : State) : Engine := { s.eng with quietHold := false }

/-- The command that stands for a transaction of a class. -/
def FlashClass.event (cls : FlashClass) (span : Span) (opcode : Byte) (bytes : List Byte) : Instr :=
  match cls with
  | .read => .read span opcode
  | .statusRead => .statusRead span opcode
  | .writeEnable => .writeEnable span opcode
  | .writeDisable => .writeDisable span opcode
  | .otherPass => .otherPass span opcode
  | .program => .program span opcode bytes
  | .eraseSector => .eraseSector span opcode bytes
  | .eraseBlock => .eraseBlock span opcode bytes
  | .eraseDevice => .eraseDevice span opcode bytes
  | .regWrite => .regWrite span opcode bytes
  | .otherBlock => .otherBlock span opcode bytes

/-- The Journal Unit after these records are offered in turn: each joins the queue of 8, or is lost and counted; a plan
without a journal keeps none (R164, R167). -/
def Journal.offered (j : Journal) (p : Plan) : List Record → Journal
  | [] => j
  | r :: rs =>
    (if p.sectorCount = 0 then j
      else if j.queue.length < 8 then { j with queue := j.queue ++ [r] }
      else { j with lost := min 255 (j.lost + 1) }).offered p rs

/-! ### The part at plan application -/

/-- Every block at plan application, by the tables of the chapters: the lines at their initial levels, the VSTBY comparator
at the plan's level code, the filters of PG, AUX and AC_OK started, the journal's ring and next-sector mark as the scan
found them, and these records in the queue (R3, R32, R40, R56, R57, R92, R120, R150, R168, R187). -/
def State.atApplication (s : State) (p : Plan) (l : Loader) (ring : Option Ring) (erased : Bool) (queue : List Record) :
    State :=
  { s with
    plan := p
    load := { l with phase := some .applied, appliedAt := s.clock }
    rails := Vector.replicate 12 ⟨.off, false, false, none, none, none, none, none, false, none⟩
    eng :=
      { mode := .idle, slot := none, index := 0, step := .idle, trip := none, descent := false, claimBoard := false,
        claimPanel := false, board := .down, panel := .down, boardLock := false, panelLock := false,
        quiesceHold := false, quietHold := false, cap := 0,
        lines := Vector.ofFn fun l : Fin 6 => p.lines[l].present && p.lines[l].initialActive }
    sense :=
      { s.sense with
        supplyCode := p.supplyLevel
        filters := { s.sense.filters with
                     pg := Vector.replicate 12 s.clock, aux := Vector.replicate 2 s.clock, acOk := s.clock } }
    hbu := none
    boc :=
      { state := .init, shedLevel := 0, mains := none, mainsMet := false, ride := none, restore := none,
        history := [], dip := none, stormFound := 0, heldBoard := false, heldPanel := false, reason := .none,
        notes := none, atRisk := none, acReturned := false, latest := none, survival := .notBegun }
    flb :=
      { s.flb with
        mode := .ignore, tenure := none, issue := none, dlinkDue := none, inflight := none, poll := .idle,
        nextPoll := none, offer := none, failReport := none, reportless := false, barred := false, lastStatus := 0 }
    adu := ⟨none, none, none⟩
    jnu := ⟨queue, 0, ring, erased, none, .none⟩ }

end Sys2Proof.Machine
end

