-- ==== Sys2Proof/Certificates/Slice0/Obligations.lean ====
section
/-! DEFINITION. The statements for the provers. A statement about an event ends, where other things follow from the event
at the same moment, in `State.settle` of the state the event gives: what `settle` does is the statements' of the blocks
it moves. -/

open Sys2Proof Sys2Proof.Machine

/-- For every state whose queue begins with a command c, the step is the execution of c on the state with the rest
of the queue. The queue is the model's own (log entry 1). -/
def Obligations.StepTakesTheFrontCommand : Prop :=
  ∀ (c : Instr) (rest : List Instr) (s : State),
    s.pending = c :: rest →
    step s = exec c { s with pending := rest }

/-- Every command, in every state, answers a next state: none ends in a fault or a refusal; and no command changes
the queue of the commands that wait. Both are the model's choices: a command whose event does not arise changes
nothing (log entry 4, DESIGN CHOICE), and the queue is the model's own (log entries 2, 28 and 34). -/
def Obligations.EveryCommandAnswersNext : Prop :=
  ∀ (c : Instr) (s : State),
    ∃ t, exec c s = .next t ∧ t.pending = s.pending

/-- The model's choice (log entry 3, DESIGN CHOICE): with an empty queue the step leaves the state as it is while
part reset is held; counts the clock once while nothing of the part's own is due; and otherwise puts exactly one
of the due events in the queue, whichever the free order of events that arrive together names, and changes
nothing else. -/
def Obligations.IdleStepKeepsTheTime : Prop :=
  ∀ (s : State),
    s.pending = [] →
    (s.released = false →
      step s = .next s) ∧
    (s.released = true ∧ s.due = [] →
      step s = .next { s with clock := s.clock + 1 }) ∧
    (s.released = true ∧ s.due ≠ [] →
      ∃ c ∈ s.due, ∃ d, step s = .next { s with pending := [c], draws := d })

/-- After reset every channel is OFF and unwanted with no timer and no fault; the engine is IDLE with both domains
DOWN, no claim, no lockout, no hold and cap 0; uptime is 0 and the IBUS ring empty; the measurement of DIM_IN is
WAITING and the applied cap and duty 0; no computation has been made; the controller is in INIT with shed level
0 and an empty history; the link is in IGNORE with no tenure, nothing in flight and no fail report; the parked
slot and the journal's queue are empty, the lost count 0 and the next-sector mark UNKNOWN; the VSTBY comparator
uses level code 3. -/
def Obligations.ResetValues : Prop :=
  let s := State.reset
  (∀ ch : Fin 12, s.rail ch = ⟨.off, false, false, none, none, none, none, none, false, none⟩) ∧
      (s.eng.mode = .idle ∧ s.eng.slot = none ∧ s.eng.trip = none ∧ s.eng.descent = false ∧ s.eng.claimBoard = false ∧
        s.eng.claimPanel = false ∧ s.eng.board = .down ∧ s.eng.panel = .down ∧ s.eng.boardLock = false ∧
        s.eng.panelLock = false ∧ s.eng.quiesceHold = false ∧ s.eng.quietHold = false ∧ s.eng.cap = 0) ∧
      (s.sense.uptime = 0 ∧ s.sense.ibusRing = [] ∧ s.sense.runReq = false ∧ s.sense.panelReq = false ∧
        s.sense.dipSince = none ∧ s.sense.dipHeld = 0 ∧ s.sense.dim.state = .waiting ∧ s.sense.dim.start = none ∧
        s.sense.dim.period = none ∧ s.sense.dim.duty = 0) ∧
      (s.dpt.applied = 0 ∧ s.dpt.ramp = none ∧ s.dpt.duty = 0 ∧ s.dimOutPin = .undriven) ∧ s.hbu = none ∧
      (s.boc.state = .init ∧ s.boc.shedLevel = 0 ∧ s.boc.mains = none ∧ s.boc.ride = none ∧ s.boc.restore = none ∧
        s.boc.history = [] ∧ s.boc.dip = none ∧ s.boc.reason = .none) ∧
      (s.flb.mode = .ignore ∧ s.flb.tenure = none ∧ s.flb.inflight = none ∧ s.flb.failReport = none ∧
        s.flb.lastStatus = 0) ∧
      (s.adu.parked = none ∧ s.adu.hold = none ∧ s.adu.latest = none) ∧ (s.jnu.queue = [] ∧ s.jnu.lost = 0 ∧ s.jnu.nextErased = false) ∧ s.sense.supplyCode = 3

/-- The state after reset meets Bounded, RailsSafe, DimSafe, HeldUntilApplied, ControllerSafe, LinkSafe and
EngineSafe, and the built-in plan has every figure in range. -/
def Obligations.ResetMeetsTheInvariants : Prop :=
  let s := State.reset
  Bounded s ∧ RailsSafe s ∧ DimSafe s ∧ HeldUntilApplied s ∧ ControllerSafe s ∧ LinkSafe s ∧ EngineSafe s ∧
      s.plan.InRange

/-- For every state that meets Bounded (the journal's queue holds at most 8 records, the lost count at most 255, the
IBUS ring at most 8 codes, the bus-floor count at most 2, the history at most 16 entries, the shed level at most
3), a step that answers a next state answers one that meets it. -/
def Obligations.EveryStepKeepsBounded : Prop :=
  ∀ (s t : State),
    Bounded s → step s = .next t →
    Bounded t

/-- For every state that meets RailsSafe (a timer runs only in its state, a fault kind and prior state are held in
FAULT alone, the shed mark follows the shed level and a shed rail is not energised, PG agrees with the state,
and an order is pending only at the channel the engine waits for), a step that answers a next state answers one
that meets it. -/
def Obligations.EveryStepKeepsRailsSafe : Prop :=
  ∀ (s t : State),
    RailsSafe s → step s = .next t →
    RailsSafe t

/-- For every state that meets DimSafe (the applied cap is at most the target, the duty in force at most the applied
cap and the measured duty, and 0 while the measurement is WAITING), a step that answers a next state answers one
that meets it. -/
def Obligations.EveryStepKeepsDimSafe : Prop :=
  ∀ (s t : State),
    DimSafe s → step s = .next t →
    DimSafe t

/-- For every state that meets ControllerSafe (shed level 0 in INIT and NORMAL and 3 once committed, each timer only
in its states, a current dip open in DIP, commit notes exactly while committed, both domains DOWN in INIT and
DARK, and the descent claim exactly in DESCENT), a step that answers a next state answers one that meets it. -/
def Obligations.EveryStepKeepsControllerSafe : Prop :=
  ∀ (s t : State),
    ControllerSafe s → step s = .next t →
    ControllerSafe t

/-- For every state that meets LinkSafe (the mode is TENURE exactly while a tenure is open, at most one write-class
command is on the D-link and none in RELAY, the phase says what the tenure does, and the slot is occupied
exactly in phase PARKED, in DIP or RECOVER, with the hold timer running), a step that answers a next state
answers one that meets it. -/
def Obligations.EveryStepKeepsLinkSafe : Prop :=
  ∀ (s t : State),
    LinkSafe s → step s = .next t →
    LinkSafe t

/-- For every state that meets EngineSafe (a slot is held exactly outside IDLE, IDLE holds nothing, only an up
sequence is SUSPENDED with no step in progress, a RUNNING sequence has a step, and a step that waits for quiet
drives a line), a step that answers a next state answers one that meets it. -/
def Obligations.EveryStepKeepsEngineSafe : Prop :=
  ∀ (s t : State),
    EngineSafe s → step s = .next t →
    EngineSafe t

/-- For every state that meets HeldUntilApplied (rails, engine, budget, controller, admission unit, journal and
dimming path hold their part-reset values before plan application, the filters that start there have no history,
part reset is held exactly while one of its causes persists, and then nothing at all runs), a step that answers
a next state answers one that meets it. -/
def Obligations.EveryStepKeepsHeldUntilApplied : Prop :=
  ∀ (s t : State),
    HeldUntilApplied s → step s = .next t →
    HeldUntilApplied t

/-- For every state whose plan has all its figures in range, a step that answers a next state answers one whose plan
has: so no image, however damaged, brings a figure out of range. -/
def Obligations.EveryStepKeepsThePlanInRange : Prop :=
  ∀ (s t : State),
    s.plan.InRange → step s = .next t →
    t.plan.InRange

/-- In every state in which the plan is applied, every command other than PART_RESET leaves the plan, the load
phase, the strap values and the clamp count as they are: a plan written into the flash takes effect at the next
part reset. -/
def Obligations.PlanIsFixedAfterApplication : Prop :=
  ∀ (c : Instr) (s t : State),
    s.applied = true → (∀ cause, c ≠ .partReset cause) → exec c s = .next t →
    t.plan = s.plan ∧ t.load = s.load

/-- While part reset is released before and after a command, the clock does not go back; and every command but
UPTIME_TICK leaves uptime as it is. -/
def Obligations.TimeGoesForward : Prop :=
  ∀ (c : Instr) (s t : State),
    s.released = true → t.released = true → exec c s = .next t →
    s.clock ≤ t.clock ∧ (c ≠ .uptimeTick → t.sense.uptime = s.sense.uptime)

/-- PART_RESET arises where the VSTBY comparator is in SUPPLY_GOOD and the level lies below the trip level of its
code (2,950, 2,900, 2,850 or 2,800 mV), or where the raw RESET_N has been low for 4 µs, no level counting from
before the filter's last change; it gives every block its value for part reset. PART_RESET_RELEASE ends the
comparator's cause at the release level (3,050, 3,000, 2,950 or 2,900 mV) and RESET_N's after 4 µs high; while
the other cause persists part reset stays held; with the last cause ended the load phase is OSC_WAIT, with the
strap values, PLAN_UNLOCK and DIM_IN as sampled, and the filter of RESET_N, which runs always, keeps its history
across the release: a low begun before it counts from where it began. The model's choices: a cause that does not
arise or end, and a release while part reset is not held, change nothing (log entry 4); RESET_N's filter is
served on the clock (entries 5, 12 and 28), which starts again from 0 at the release (entry 28); the queue and
the count of orders drawn stay (entry 28). -/
def Obligations.PartResetAndRelease : Prop :=
  ∀ (ended : ResetInput) (mv at_ : Nat) (high : Bool) (since : Int) (planSel : BitVec 2) (planUnlock dimIn : Bool) (s : State),
    let m := s.sense
    let trip := [2950, 2900, 2850].getD m.supplyCode 2800
    let release := [3050, 3000, 2950].getD m.supplyCode 2900
    let vAt := max s.clock at_
    let filtered := max s.clock (max since m.filters.resetN + 384).toNat
    let held (clock : Nat) (supplyLow resetNLow : Bool) (history : Int) : State :=
      { State.reset with
        clock := clock
        sense := { Sense.reset with supplyLow := supplyLow, resetNLow := resetNLow
                                    filters := { Filters.reset with resetN := history } }
        draws := s.draws
        pending := s.pending }
    let released (history : Int) : State :=
      { State.reset with
        load := { Loader.reset with phase := some .oscWait, strap := planSel, unlockHeld := planUnlock }
        sense := { Sense.reset with supplyLow := false, dim := { Sense.reset.dim with high := dimIn }
                                    filters := { Filters.reset with resetN := history } }
        draws := s.draws
        pending := s.pending }
    let byVstby := exec (.partResetRelease planSel planUnlock dimIn (.vstby mv at_)) s
    let byResetN := exec (.partResetRelease planSel planUnlock dimIn (.resetN high since)) s
    let down := s.load.phase = none
    (m.supplyLow = false ∧ mv < trip →
      exec (.partReset (.vstby mv at_)) s = .next (held vAt true m.resetNLow m.filters.resetN)) ∧
    (m.resetNLow = false ∧ high = false →
      exec (.partReset (.resetN high since)) s = .next (held filtered m.supplyLow true filtered)) ∧
    (m.supplyLow = true ∨ trip ≤ mv →
      exec (.partReset (.vstby mv at_)) s = .next s) ∧
    (m.resetNLow = true ∨ high = true →
      exec (.partReset (.resetN high since)) s = .next s) ∧
    (down ∧ m.supplyLow = true ∧ release ≤ mv ∧ m.resetNLow = false →
      byVstby = .next (released (m.filters.resetN - vAt))) ∧
    (down ∧ m.supplyLow = true ∧ release ≤ mv ∧ m.resetNLow = true →
      byVstby = .next { s with clock := vAt, sense := { m with supplyLow := false } }) ∧
    (down ∧ m.resetNLow = true ∧ high = true ∧ m.supplyLow = false →
      byResetN = .next (released 0)) ∧
    (down ∧ m.resetNLow = true ∧ high = true ∧ m.supplyLow = true →
      byResetN = .next
        { s with clock := filtered, sense := { m with resetNLow := false, filters := { m.filters with resetN := filtered } } }) ∧
    (down ∧ m.supplyLow = true ∧ mv < release →
      byVstby = .next s) ∧
    (down ∧ m.resetNLow = true ∧ high = false →
      byResetN = .next s) ∧
    (s.load.phase ≠ none →
      exec (.partResetRelease planSel planUnlock dimIn ended) s = .next s)

/-- In OSC_WAIT the end of the wait brings the clock to 2 ms (192,000 counts), if it is not past it, and begins
FLASH_WAIT, whose first status read may begin at once. In FLASH_WAIT a status read begins when it is due and
takes 64 clock counts: with the busy bit clear the phase becomes READ; with it set, the phase becomes READ with
the busy mark set once 5 s have passed since the first status read began, and otherwise the next read is due 0.1
ms after this one began. The model's choices: the clock brought to the end of the wait (log entry 5), the 64
counts of a status read (entry 18), and the 5 s judged at the end of each read (entry 19). -/
def Obligations.WaitsOfTheLoad : Prop :=
  ∀ (status : Byte) (s : State),
    let osc := max s.clock 192000
    let begun := max s.clock s.load.statusDue
    let now := begun + 64
    let first := s.load.firstStatus.getD begun
    let waiting := s.load.phase = some .flashWait
    let busy := status.getLsbD 0 = true
    (s.load.phase = some .oscWait →
      exec .oscWaitEnd s = .next { s with clock := osc, load := { s.load with phase := some .flashWait, statusDue := osc } }) ∧
    (waiting ∧ ¬ busy →
      exec (.flashWaitStatusRead status) s = .next
        { s with clock := now, load := { s.load with phase := some .read, firstStatus := some first } }) ∧
    (waiting ∧ busy ∧ 480000000 ≤ now - first →
      exec (.flashWaitStatusRead status) s = .next
        { s with clock := now, load := { s.load with phase := some .read, firstStatus := some first, busyAtLoad := true } }) ∧
    (waiting ∧ busy ∧ now - first < 480000000 →
      exec (.flashWaitStatusRead status) s = .next
        { s with clock := now, load := { s.load with firstStatus := some first, statusDue := begun + 9600 } })

/-- In READ, before any byte of the image, the header is 12 bytes. If its signature is MTPN, its format 1 and its
length 973 to 16,384, it is kept and the body follows; otherwise the fallback plan is applied, with every block
at its value for plan application. -/
def Obligations.PlanHeaderRead : Prop :=
  ∀ (bytes : List Byte) (s : State),
    s.load.phase = some .read → s.load.image = [] → bytes.length = 12 →
    let passes := bytes.take 4 = [0x4D, 0x54, 0x50, 0x4E] ∧ bytes.getD 4 0 = 1 ∧
      973 ≤ leNat ((bytes.drop 6).take 2) ∧ leNat ((bytes.drop 6).take 2) ≤ 16384
    (passes →
      exec (.planHeaderReadEnd bytes) s = .next { s with load := { s.load with image := bytes } }) ∧
    (¬ passes →
      exec (.planHeaderReadEnd bytes) s = .next
        (s.atApplication fallbackPlan { s.load with image := bytes, source := some .fallback } none false []))

/-- In READ, after the header, the body is as long as the header says. If the CRC-32 fails, the fallback plan is
applied. If it holds, the prepared image is the plan: with a journal its ring is scanned next; without one the
plan is applied at once, unless VSTBY stands below its trip level, where part reset begins (that the command
carries the level is log entry 11). -/
def Obligations.PlanBodyRead : Prop :=
  ∀ (bytes : List Byte) (vstby : Nat) (s : State),
    s.load.phase = some .read → s.load.image ≠ [] → 12 ≤ leNat ((s.load.image.drop 6).take 2) →
    bytes.length = leNat ((s.load.image.drop 6).take 2) - 12 →
    let image := s.load.image ++ bytes
    let p := preparePlan image
    let loaded : Loader :=
      { s.load with image := image, source := some .flash, generation := BitVec.ofNat 32 (leNat ((image.drop 8).take 4))
                    clamps := min 65535 (allClamps image).length, firstClamped := (allClamps image).min? }
    (crcPasses image = false →
      exec (.planBodyReadEnd bytes vstby) s = .next
        (s.atApplication fallbackPlan { s.load with image := image, source := some .fallback } none false [])) ∧
    (crcPasses image = true ∧ p.sectorCount ≠ 0 →
      exec (.planBodyReadEnd bytes vstby) s = .next { s with plan := p, load := { loaded with phase := some .scan } }) ∧
    (crcPasses image = true ∧ p.sectorCount = 0 ∧ (p.supplyLevel = 3 ∨ tripMv p.supplyLevel ≤ vstby) →
      exec (.planBodyReadEnd bytes vstby) s = .next (s.atApplication p loaded none false []).settle) ∧
    (crcPasses image = true ∧ p.sectorCount = 0 ∧ p.supplyLevel < 3 ∧ vstby < tripMv p.supplyLevel →
      exec (.planBodyReadEnd bytes vstby) s = .next
        { State.reset with
          clock := s.clock
          sense := { Sense.reset with supplyLow := true, resetNLow := s.sense.resetNLow
                                      filters := { Filters.reset with resetN := s.sense.filters.resetN } }
          draws := s.draws
          pending := s.pending })

/-- In SCAN the sector's slots are classed and kept. Before the last sector nothing else changes. After the last,
the plan is applied with the write position, next sequence and room the scan gives, the next-sector mark ERASED
where every slot of the sector after the write position's reads erased, and the PLAN record in the queue, unless
VSTBY stands below the plan's trip level, where part reset begins (that the command carries the level is log
entry 11). The bytes of a sector are cut into slots of 64. A slot is classed from the first on: the second slot
of a valid record of two belongs to that record; else it begins a record of two where it and the next hold one;
else it is erased where all its bytes read 0xFF; else it begins a record of one where it holds one; else it is
used. A record of a kind is valid where its first byte is a kind of that slot count (9 has two slots, the others
of 1 to 10 one), its second the count, and its last two bytes, low byte first, the CRC-16 of the others; that
CRC of the characters 123456789 is 0x29B1. From the classes of the whole ring: a record is newer than another
where its sequence less the other's, modulo 2^32, is 1 to 2^31 - 1. The newest record is the one newer than
every other, or where there is none the one of the greatest sequence, the last of equals. The next sequence is
one more, and the search for the write position starts after its last slot; with no record they are 1 and the
first slot. The write position is the first erased slot from there on, around the ring, and its room the erased
slots that follow one another to the end of the sector; with no erased slot it is the start, with room 0. -/
def Obligations.JournalScanSectorRead : Prop :=
  (∀ (bytes : List Byte) (vstby : Nat) (s : State),
     s.load.phase = some .scan → s.plan.sectorCount ≠ 0 → bytes.length = s.plan.sectorSize →
     let scanned := s.load.scanned ++ [classSlots (cutSlots (s.plan.sectorSize / 64) bytes)]
     let ring := s.plan.findRing scanned
     let record : Record :=
       ⟨.plan (s.load.source.getD .fallback) s.load.generation s.load.clamps s.load.firstClamped s.load.strap s.load.unlockHeld
           s.planRegionLocked s.load.busyAtLoad s.sense.vstbyMv, .init, s.sense.uptime⟩
     (scanned.length < s.plan.sectorCount →
       exec (.journalScanSectorRead bytes vstby) s = .next { s with load := { s.load with scanned := scanned } }) ∧
     (s.plan.sectorCount ≤ scanned.length ∧ (3 ≤ s.plan.supplyLevel ∨ tripMv s.plan.supplyLevel ≤ vstby) →
       exec (.journalScanSectorRead bytes vstby) s = .next
         (s.atApplication s.plan { s.load with scanned := scanned } (some ring)
           (sectorErased scanned ((ring.sector + 1) % s.plan.sectorCount)) [record]).settle) ∧
     (s.plan.sectorCount ≤ scanned.length ∧ s.plan.supplyLevel < 3 ∧ vstby < tripMv s.plan.supplyLevel →
       exec (.journalScanSectorRead bytes vstby) s = .next
         { State.reset with
           clock := s.clock
           sense := { Sense.reset with supplyLow := true, resetNLow := s.sense.resetNLow
                                       filters := { Filters.reset with resetN := s.sense.filters.resetN } }
           draws := s.draws
           pending := s.pending })) ∧
  (∀ (n i : Nat) (bytes : List Byte),
     i < n →
     let slot (k : Nat) : List Byte := (bytes.drop (64 * k)).take 64
     let classes := classSlots (cutSlots n bytes)
     let valid (b : List Byte) (slots : Nat) : Bool :=
       (if slots = 2 then b.getD 0 0xFF == 9 else decide (1 ≤ (b.getD 0 0xFF).toNat ∧ (b.getD 0 0xFF).toNat ≤ 10) && b.getD 0 0xFF != 9) &&
         (b.getD 1 0).toNat == slots && (crc16 (b.take (64 * slots - 2))).toNat == leNat ((b.drop (64 * slots - 2)).take 2)
     let seq : Word32 := BitVec.ofNat 32 (leNat (((slot i).drop 4).take 4))
     let second : Bool :=
       match classes[i - 1]? with
       | some (.begins _ 2) => decide (1 ≤ i)
       | _ => false
     let two := i + 1 < n ∧ valid (slot i ++ slot (i + 1)) 2 = true
     (classes.length = n) ∧
     (second = true →
       classes[i]? = some .continues) ∧
     (second = false ∧ two →
       classes[i]? = some (.begins seq 2)) ∧
     (second = false ∧ ¬ two ∧ (slot i).all (fun b => b == 0xFF) = true →
       classes[i]? = some .erased) ∧
     (second = false ∧ ¬ two ∧ (slot i).all (fun b => b == 0xFF) = false ∧ valid (slot i) 1 = true →
       classes[i]? = some (.begins seq 1)) ∧
     (second = false ∧ ¬ two ∧ (slot i).all (fun b => b == 0xFF) = false ∧ valid (slot i) 1 = false →
       classes[i]? = some .used) ∧
     (crc16 [0x31, 0x32, 0x33, 0x34, 0x35, 0x36, 0x37, 0x38, 0x39] = 0x29B1#16)) ∧
  (∀ (p : Plan) (k : Nat) (sectors : List (List SlotClass)),
     sectors ≠ [] → 0 < p.sectorSize / 64 → (∀ sector ∈ sectors, sector.length = p.sectorSize / 64) →
     let n := p.sectorSize / 64
     let ring := sectors.flatten
     let size := ring.length
     let found := p.findRing sectors
     let records : List (Nat × Word32 × Nat) := (List.range size).flatMap fun q =>
       match ring.getD q .used with
       | .begins seq slots => [(q, seq, slots)]
       | _ => []
     let newer (x y : Nat × Word32 × Nat) : Bool := 1 ≤ (x.2.1 - y.2.1).toNat && (x.2.1 - y.2.1).toNat < 2 ^ 31
     let qualifies (x : Nat × Word32 × Nat) : Bool := records.all fun y => y.1 == x.1 || newer x y
     let newest (x : Nat × Word32 × Nat) :=
       qualifies x = true ∨
         (records.all (fun y => !qualifies y) = true ∧
           ∀ y ∈ records, y.2.1.toNat < x.2.1.toNat ∨ (y.2.1 = x.2.1 ∧ y.1 ≤ x.1))
     let erased (q : Nat) : Bool := ring.getD q .used == .erased
     let placed (pos : Nat) :=
       found.sector = pos / n ∧ found.slot = pos % n ∧ found.slot + found.room ≤ n ∧
         (∀ i < found.room, erased (pos + i) = true) ∧ (found.slot + found.room < n → erased (pos + found.room) = false)
     let writesFrom (start : Nat) (next : Word32) :=
       found.nextSeq = next ∧
         (∀ j < size, (erased ((start + j) % size) = true ∧ ∀ i < j, erased ((start + i) % size) = false) →
           placed ((start + j) % size)) ∧
         ((∀ q < size, erased q = false) → found.sector = start / n ∧ found.slot = start % n ∧ found.room = 0)
     (records = [] →
       writesFrom 0 1) ∧
     (records ≠ [] →
       ∃ x ∈ records, newest x ∧ writesFrom ((x.1 + x.2.2) % size) (x.2.1 + 1)) ∧
     (sectorErased sectors k = true ↔ ∀ c ∈ sectors.getD k [], c = .erased))

/-- For every list of bytes, the plan prepared from it has every figure in the range the spec gives it, the shed
levels in order, every typical time at most its maximum time, blocks no smaller than sectors, bases aligned, and
every step of its pool well formed. Each is the little-endian number, the code or the bit at its place in the
image, brought to the nearest value of its range; S2 is at most S1 and S3 at most S2, the block size at least
the sector size, a typical time at most its maximum time, a window and the journal base aligned. A line above
another of the MAIN_RESET role has lost that role. A step of an unknown kind, or on an absent rail or line, is a
NOP. A missing WRITE_ENABLE, WRITE_DISABLE or STATUS_READ entry is filled in from the built-in table (each
looked for once: log entry 57). The journal is left out where the table has no READ, PROGRAM or ERASE_SECTOR
entry that carries its last address. The two descent times are the sums of their steps in half milliseconds,
rounded up, at most 65,535. The changes of the preparation, each at the offset of its field: every stored
number, code or set outside its values (those of an absent rail and, but for its policy, of an unused window
aside: log entry 50); S2 above S1, S3 above S2, a block below a sector, a typical time above its maximum, a
window or journal base not aligned, a MAIN_RESET role lost, a class entry filled in, a journal left out; a step
that becomes a NOP for an absent rail or line, and each position of a slot beyond the pool. -/
def Obligations.PreparedPlanIsInRange : Prop :=
  (∀ (image : List Byte),
     (preparePlan image).InRange) ∧
  (∀ (image : List Byte),
     let num (offset size : Nat) : Nat := leNat ((image.drop offset).take size)
     let bit (offset i : Nat) : Bool := (image.getD offset 0).getLsbD i
     let fit (lo hi v : Nat) : Nat := max lo (min hi v)
     let p := preparePlan image
     let trim (offset : Nat) : Int := if bit offset 7 then -((num offset 1 % 8 : Nat) : Int) else ((num offset 1 % 8 : Nat) : Int)
     let input (offset : Nat) : InputEntry := ⟨num offset 1 % 4, bit offset 7⟩
     let onRail (a : Nat) (f : Fin 12 → StepKind) : StepKind :=
       if h : a < 12 then (if bit (38 + 13 * a) 0 then f ⟨a, h⟩ else .nop) else .nop
     let onLine (a : Nat) (f : Fin 6 → StepKind) : StepKind :=
       if h : a < 6 then (if bit (194 + a) 0 then f ⟨a, h⟩ else .nop) else .nop
     let kind (o : Nat) : StepKind :=
       let a := num (o + 1) 1
       let b (lo hi : Nat) : Nat := fit lo hi (num (o + 2) 2)
       match num o 1 % 128 with
       | 1 => onRail a fun r => .railUp r (b 0 1 == 1)
       | 2 => onRail a fun r => .railDown r (b 0 1 == 1)
       | 3 => .delay (b 1 10000)
       | 4 => onLine a fun l => .line l (b 0 1 == 1)
       | 5 => onLine a fun l => .linePulse l (b 1 255)
       | 6 => .dimLimit (b 0 1000)
       | 7 => .await (if bit (o + 1) 0 then 1 else 0) (bit (o + 1) 1) (b 1 10000)
       | 8 => .flashQuiesce
       | 9 => .flashResume
       | _ => .nop
     let lanes (v : Nat) : Nat := if v ≤ 1 then 1 else if v = 2 then 2 else 4
     let entry (i : Nat) : ClassEntry :=
       let o := 726 + 6 * i
       let bytes := num (o + 3) 1
       ⟨image.getD o 0, image.getD (o + 1) 0, FlashClass.ofCode (num (o + 2) 1),
         if bytes ≤ 1 then 0 else if bytes ≤ 3 then 3 else 4, lanes (num (o + 4) 1), lanes (num (o + 5) 1)⟩
     let fill (t : List ClassEntry × List Nat) (cls : FlashClass) (opcode : Byte) : List ClassEntry × List Nat :=
       if t.1.any fun e => e.cls == some cls then t
       else
         let free := (List.range 16).find? fun i => (t.1.getD i (entry i)).cls == none
         let last := (List.range 16).reverse.find? fun i => !t.2.contains i
         let i := (free.or last).getD 15
         (t.1.set i ⟨opcode, 0xFF, some cls, 0, 1, 1⟩, t.2 ++ [i])
     let place (op : OpClass) : Nat :=
       match op with
       | .program => 0
       | .eraseSector => 1
       | .eraseBlock => 2
       | .eraseDevice => 3
       | .regWrite => 4
     let sectors := fit 2 16 (num 966 1)
     let carries (cls : FlashClass) : Bool :=
       (p.firstEntry cls).any fun e =>
         e.addrBytes != 0 && decide (p.journalBase + sectors * 2 ^ p.sectorLog - 1 < 256 ^ e.addrBytes)
     let halves (n : SlotName) : Nat :=
       ((List.range (p.slotRange n).count).map fun i =>
         match (p.stepAt n i).kind with
         | .delay ms | .linePulse _ ms | .await _ _ ms => 2 * ms
         | .railDown ch true => 2 * p.rails[ch].fallMs
         | .railUp ch true =>
           2 * p.rails[ch].riseMs + (if p.rails[ch].timed then 0 else [0, 1, 2, 4, 10, 20, 40].getD p.rails[ch].settle 100)
         | _ => 0).sum
     (p.lockFlag = bit 5 0 ∧ p.unknownClass = (if num 12 1 < 8 then .otherPass else .otherBlock) ∧
           some p.defaultPolicy = Policy.ofCode (fit 1 5 (num 13 1)) ∧ some p.regWritePolicy = Policy.ofCode (fit 1 5 (num 14 1)) ∧
           p.failBit = fit 0 8 (num 15 1) ∧ p.scaleVbus = fit 5000 33000 (num 16 2) ∧ p.scaleVbulk = fit 100 511 (num 18 2) ∧
           p.scaleIbus = fit 1000 32767 (num 20 2) ∧ p.trimVbus = trim 22 ∧ p.trimVbulk = trim 23 ∧ p.trimIbus = trim 24 ∧
           p.trimVstby = trim 25 ∧ p.busFloorMv = fit 0 32767 (num 26 2) ∧ p.supplyLevel = fit 0 3 (num 28 1) ∧
           p.acOk = input 29 ∧ p.aux0 = input 30 ∧ p.aux1 = input 31 ∧ p.cap1 = fit 0 1000 (num 32 2) ∧
           p.cap2 = fit 0 1000 (num 34 2) ∧ p.ramp = fit 1 1000 (num 36 2)) ∧
     (∀ ch : Fin 12,
           let o := 38 + 13 * ch.val
           p.rails[ch] =
             { present := bit o 0, domain := if bit o 1 then .panel else .board, timed := bit o 2, enActiveLow := bit o 3
               pgActiveLow := bit o 4, pgFilter := fit 0 3 (num (o + 1) 1), settle := fit 0 7 (num (o + 2) 1)
               riseMs := fit 1 255 (num (o + 3) 1), fallMs := fit 1 255 (num (o + 4) 1), powerMw := num (o + 5) 2
               shedClass := fit 0 3 (num (o + 7) 1)
               faultAction := if num (o + 8) 1 = 0 then .log else if num (o + 8) 1 = 1 then .domainDown else .trip
               tag := (image.drop (o + 9)).take 4 }) ∧
     (∀ l : Fin 6,
           let o := 194 + l.val
           p.lines[l] =
             { present := bit o 0, activeLow := bit o 1, initialActive := bit o 2
               mainReset := bit o 3 && !(bit o 0 && (List.range l.val).any fun j => bit (194 + j) 0 && bit (194 + j) 3) }) ∧
     (∀ n : SlotName, p.slotRange n = ⟨fit 0 127 (num (200 + 2 * n.code.val) 1), fit 0 24 (num (201 + 2 * n.code.val) 1)⟩) ∧
     (p.pool = (List.range 128).map fun i => ⟨kind (214 + 4 * i), bit (214 + 4 * i) 7⟩) ∧
     (p.classes =
           (fill (fill (fill ((List.range 16).map entry, []) .writeEnable 0x06) .writeDisable 0x04) .statusRead 0x05).1) ∧
     (p.windows = (List.range 8).map fun i =>
           let o := 822 + 6 * i
           let log := fit 12 28 (num (o + 4) 1)
           match Policy.ofCode (num (o + 5) 1) with
           | some q => ⟨num o 4 - num o 4 % 2 ^ log, log, some q⟩
           | none => unusedWindow) ∧
     (p.capUf = fit 10 2000 (num 870 2) ∧ p.dropoutV = fit 50 400 (num 872 2) ∧ p.eff = fit 500 1000 (num 874 2) ∧
           p.margin = fit 0 10000 (num 876 2) ∧ p.recordCost = fit 0 1000 (num 878 2) ∧ p.baseMw = fit 0 20000 (num 880 2) ∧
           p.flashActiveMw = fit 0 5000 (num 882 2) ∧ p.blFullMw = fit 0 300000 (num 884 4) ∧ p.s1 = fit 0 261121 (num 888 4) ∧
           p.s2 = min p.s1 (fit 0 261121 (num 892 4)) ∧ p.s3 = min p.s2 (fit 0 261121 (num 896 4)) ∧
           p.rideLimitMs = fit 0 10000 (num 900 2) ∧ p.restoreDelayMs = fit 0 10000 (num 902 2) ∧
           p.restoreStepMs = fit 1 2000 (num 904 2) ∧ p.rearmDelayMs = fit 10 10000 (num 906 2) ∧
           p.stormWindowMs = fit 1000 600000 (num 908 4) ∧ p.stormCount = fit 2 16 (num 912 1) ∧
           (p.autoResume = true ↔ num 913 1 ≠ 0)) ∧
     (p.div = fit 1 15 (num 914 1) ∧ p.pollUs = fit 20 2000 (num 915 2) ∧ p.pageLog = fit 6 8 (num 917 1) ∧
           p.sectorLog = fit 12 16 (num 918 1) ∧ p.blockLog = max p.sectorLog (fit 15 18 (num 919 1)) ∧
           p.holdLimitMs = fit 1 5000 (num 920 2) ∧
           (∀ op, p.maxTime.at op = fit 1 1000000 (num (926 + 8 * place op) 4) ∧
             p.typTime.at op = min (p.maxTime.at op) (max 1 (num (922 + 8 * place op) 4))) ∧
           p.journalBase = num 962 4 - num 962 4 % 2 ^ p.sectorLog ∧
           p.sectorCount = (if num 966 1 ≠ 0 ∧ carries .read = true ∧ carries .program = true ∧ carries .eraseSector = true then sectors else 0) ∧
           p.piggybackLimit = fit 1 8 (num 967 1) ∧ p.alert = ⟨bit 968 0, bit 968 1, bit 968 2, bit 968 3, bit 968 4⟩ ∧
           p.tPanelSwift = min 65535 ((halves .panelSwift + 1) / 2) ∧ p.tBoardSwift = min 65535 ((halves .boardSwift + 1) / 2))) ∧
  (∀ (image : List Byte),
     let num (offset size : Nat) : Nat := leNat ((image.drop offset).take size)
     let bit (offset i : Nat) : Bool := (image.getD offset 0).getLsbD i
     let fit (lo hi v : Nat) : Nat := max lo (min hi v)
     let p := preparePlan image
     let out (offset size lo hi : Nat) : List Nat := if lo ≤ num offset size ∧ num offset size ≤ hi then [] else [offset]
     let notIn (offset : Nat) (values : List Nat) : List Nat := if values.contains (num offset 1) then [] else [offset]
     let one (b : Bool) (offset : Nat) : List Nat := if b then [offset] else []
     let head : List (Nat × Nat × Nat × Nat) :=
       [(13, 1, 1, 5), (14, 1, 1, 5), (15, 1, 0, 8), (16, 2, 5000, 33000), (18, 2, 100, 511), (20, 2, 1000, 32767),
        (26, 2, 0, 32767), (28, 1, 0, 3), (32, 2, 0, 1000), (34, 2, 0, 1000), (36, 2, 1, 1000), (870, 2, 10, 2000),
        (872, 2, 50, 400), (874, 2, 500, 1000), (876, 2, 0, 10000), (878, 2, 0, 1000), (880, 2, 0, 20000), (882, 2, 0, 5000),
        (884, 4, 0, 300000), (888, 4, 0, 261121), (892, 4, 0, 261121), (896, 4, 0, 261121), (900, 2, 0, 10000),
        (902, 2, 0, 10000), (904, 2, 1, 2000), (906, 2, 10, 10000), (908, 4, 1000, 600000), (912, 1, 2, 16), (913, 1, 0, 1),
        (914, 1, 1, 15), (915, 2, 20, 2000), (917, 1, 6, 8), (918, 1, 12, 16), (919, 1, 15, 18), (920, 2, 1, 5000), (967, 1, 1, 8)]
     let rail (o : Nat) : List Nat :=
       if bit o 0 then
         out (o + 1) 1 0 3 ++ out (o + 2) 1 0 7 ++ out (o + 3) 1 1 255 ++ out (o + 4) 1 1 255 ++ out (o + 7) 1 0 3 ++ out (o + 8) 1 0 2
       else []
     let step (o : Nat) : List Nat :=
       match num o 1 % 128 with
       | 1 | 2 => out (o + 2) 2 0 1 ++ one (!(decide (num (o + 1) 1 < 12) && bit (38 + 13 * num (o + 1) 1) 0)) o
       | 4 => out (o + 2) 2 0 1 ++ one (!(decide (num (o + 1) 1 < 6) && bit (194 + num (o + 1) 1) 0)) o
       | 5 => out (o + 2) 2 1 255 ++ one (!(decide (num (o + 1) 1 < 6) && bit (194 + num (o + 1) 1) 0)) o
       | 3 | 7 => out (o + 2) 2 1 10000
       | 6 => out (o + 2) 2 0 1000
       | k => one (decide (9 < k)) o
     let slot (o : Nat) : List Nat :=
       let first := fit 0 127 (num o 1)
       let count := fit 0 24 (num (o + 1) 1)
       out o 1 0 127 ++ out (o + 1) 1 0 24 ++ List.replicate (min count (first + count - 128)) (o + 1)
     let classed (o : Nat) : List Nat :=
       out (o + 2) 1 0 11 ++ notIn (o + 3) [0, 3, 4] ++ notIn (o + 4) [1, 2, 4] ++ notIn (o + 5) [1, 2, 4]
     let window (o : Nat) : List Nat :=
       out (o + 5) 1 0 5 ++
         if 1 ≤ num (o + 5) 1 ∧ num (o + 5) 1 ≤ 5 then
           out (o + 4) 1 12 28 ++ one (num o 4 % 2 ^ fit 12 28 (num (o + 4) 1) != 0) o
         else []
     let times (o : Nat) : List Nat :=
       out o 4 1 0xFFFFFFFF ++ out (o + 4) 4 1 1000000 ++ one (decide (fit 1 1000000 (num (o + 4) 4) < num o 4)) o
     let line (l : Nat) : List Nat :=
       one (bit (194 + l) 0 && bit (194 + l) 3 && (List.range l).any fun j => bit (194 + j) 0 && bit (194 + j) 3) (194 + l)
     let levels : List Nat :=
       one (decide (fit 0 261121 (num 888 4) < fit 0 261121 (num 892 4))) 892 ++ one (decide (p.s2 < fit 0 261121 (num 896 4))) 896
     let filled : List Nat :=
       (List.range 16).filter fun i => p.classes[i]?.bind ClassEntry.cls != FlashClass.ofCode (num (728 + 6 * i) 1)
     let journal : List Nat :=
       notIn 966 [0, 2, 3, 4, 5, 6, 7, 8, 9, 10, 11, 12, 13, 14, 15, 16] ++ one (num 962 4 % 2 ^ p.sectorLog != 0) 962 ++
         one (num 966 1 != 0 && p.sectorCount == 0) 966
     (allClamps image).Perm
           (notIn 12 [5, 11] ++ head.flatMap (fun f => out f.1 f.2.1 f.2.2.1 f.2.2.2) ++
             (List.range 12).flatMap (fun i => rail (38 + 13 * i)) ++ (List.range 6).flatMap line ++
             (List.range 7).flatMap (fun k => slot (200 + 2 * k)) ++ (List.range 128).flatMap (fun i => step (214 + 4 * i)) ++
             (List.range 16).flatMap (fun i => classed (726 + 6 * i)) ++ filled.map (fun i => 726 + 6 * i) ++
             (List.range 8).flatMap (fun i => window (822 + 6 * i)) ++ (List.range 5).flatMap (fun k => times (922 + 8 * k)) ++
             levels ++ one (decide (fit 15 18 (num 919 1) < p.sectorLog)) 919 ++ journal))

/-- For every record, lost count and sequence number, the bytes written are 64 for each of its slots, and the start-
up scan finds in them a valid record of that many slots with that sequence number. -/
def Obligations.WrittenRecordReadsBack : Prop :=
  ∀ (r : Record) (lost : Nat) (seq : Word32),
    (r.bytes lost seq).length = 64 * r.body.slots ∧ validRecord (r.bytes lost seq) r.body.slots = true ∧
        recordSeq (r.bytes lost seq) = seq

/-- While part reset is released a scan completes at its due time. Each code is trimmed, by the plan's trim if its
conversion ended after plan application and by 0 otherwise, and clamped to 0 to 4,095; the IBUS ring keeps the
last eight; the values are rounded down. Once the plan is applied the values are offered, the bus-floor check
acts on VBUS, and the budget computed from the inputs of this moment is offered to the Brown-Out Controller and
the Admission Unit. Nothing else changes. The model's choices: the completion at the next multiple of 9,600
counts where the clock is past its time (log entry 7), the moment from which a trim holds (entry 26), and the
marks of what is offered (entry 34). The bus-floor check: With floor 0 the check does nothing. Otherwise a scan
that agrees with its state sets its count to 0; a contrary one counts; the third contrary scan in a row changes
the state, and a collapse is delivered when the new state is BELOW. -/
def Obligations.ScanCompletionMeasures : Prop :=
  (∀ (vbus vbulk ibus vstby : BitVec 12) (s : State),
     s.released = true →
     let now := if s.clock ≤ s.sense.scanDue then s.sense.scanDue else (s.clock / 9600 + 1) * 9600
     let code (raw : BitVec 12) (after : Nat) (trim : Int) : Nat :=
       (max 0 (min 4095 ((raw.toNat : Int) + if s.applied = true ∧ s.load.appliedAt + after * 2400 < now then trim else 0))).toNat
     let ring := s.sense.ibusRing ++ [code ibus 1 s.plan.trimIbus]
     let kept := ring.drop (ring.length - 8)
     let measured : Sense :=
       { s.sense with
         scanDue := now + 9600
         ibusRing := kept
         vbusMv := if s.applied then some (min 32767 (code vbus 3 s.plan.trimVbus * s.plan.scaleVbus / 4095)) else none
         vbulkV := if s.applied then some (code vbulk 2 s.plan.trimVbulk * s.plan.scaleVbulk / 4095) else none
         ibusMa := if s.applied then some (kept.sum / kept.length * s.plan.scaleIbus / 4095) else none
         vstbyMv := code vstby 0 s.plan.trimVstby }
     let inputs : Inputs :=
       { vbulkV := measured.vbulkV.getD 0, vbusMv := measured.vbusMv.getD 0, ibusMa := measured.ibusMa.getD 0
         railsMw := s.railLoad, duty := s.dpt.duty, panelDown := s.eng.panel == .down, boardDown := s.eng.board == .down
         flight := s.flb.inflight.map fun f => (f.op, (now - f.created) / 9600) }
     (s.applied = false →
       exec (.scanCompletion vbus vbulk ibus vstby) s = .next { s with clock := now, sense := measured }) ∧
     (s.applied = true →
       exec (.scanCompletion vbus vbulk ibus vstby) s = .next
         { s with
           clock := now
           sense := { measured.busFloor s.plan.busFloorMv (measured.vbusMv.getD 0) with bocOffer := true, aduOffer := true }
           hbu := some (s.plan.compute inputs) })) ∧
  (∀ (m : Sense) (floor vbus : Nat),
     (floor = 0 →
       m.busFloor floor vbus = m) ∧
     (floor ≠ 0 ∧ (m.busBelow = true ↔ vbus < floor) →
       m.busFloor floor vbus = { m with busCount := 0 }) ∧
     (floor ≠ 0 ∧ ¬ (m.busBelow = true ↔ vbus < floor) ∧ m.busCount < 2 →
       m.busFloor floor vbus = { m with busCount := m.busCount + 1 }) ∧
     (floor ≠ 0 ∧ m.busBelow = false ∧ vbus < floor ∧ 2 ≤ m.busCount →
       m.busFloor floor vbus = { m with busBelow := true, busCount := 0, collapse := true }) ∧
     (floor ≠ 0 ∧ m.busBelow = true ∧ floor ≤ vbus ∧ 2 ≤ m.busCount →
       m.busFloor floor vbus = { m with busBelow := false, busCount := 0 }))

/-- While part reset is released, the end of a millisecond brings the clock to its time, increments the 32-bit
uptime by one modulo 2^32 and sets the next end 1 ms later; part reset holds uptime. That the command brings the
clock to the end of the millisecond is log entry 5 (DESIGN CHOICE). An entry of the history that is not stale
and whose age, modulo 2^32, is 600,000 ms or more is marked stale and changes in nothing else; at a position
whose entry is stale or younger, or that holds none, nothing changes. That the mark is taken by a command of its
own at that age or more is log entry 31, and that the command changes nothing elsewhere entry 4. -/
def Obligations.UptimeAndTheStaleMark : Prop :=
  (∀ (s : State),
     (s.released = true →
       exec .uptimeTick s = .next
         { s with clock := max s.clock s.sense.msDue, sense := { s.sense with uptime := s.sense.uptime + 1, msDue := s.sense.msDue + 96000 } }) ∧
     (s.released = false →
       exec .uptimeTick s = .next s)) ∧
  (∀ (pos : Fin 16) (e : DipEntry) (s : State),
     let held := s.boc.history[pos.val]? = some e
     (held ∧ e.stale = false ∧ 600000 ≤ (s.sense.uptime - e.start).toNat →
       exec (.dipEntryStale pos) s = .next { s with boc := { s.boc with history := s.boc.history.set pos.val { e with stale := true } } }) ∧
     (held ∧ (e.stale = true ∨ (s.sense.uptime - e.start).toNat < 600000) →
       exec (.dipEntryStale pos) s = .next s) ∧
     (s.boc.history[pos.val]? = none →
       exec (.dipEntryStale pos) s = .next s))

/-- For every plan and inputs, E_us is E_st x eff / 1,000 rounded down; with eff at most 1,000 it is at most E_st,
with eff at least 500 at least half of E_st rounded down; and with figures in range E_st lies between 0 and
261,121 mJ and E_us between 0 and E_st. -/
def Obligations.UsableEnergyOfTheStored : Prop :=
  ∀ (p : Plan) (i : Inputs),
    let b := p.compute i
    b.eUs = b.eSt * p.eff / 1000 ∧ (p.eff ≤ 1000 → b.eUs ≤ b.eSt) ∧ (500 ≤ p.eff → b.eSt / 2 ≤ b.eUs) ∧
        (p.InRange → i.InRange → b.eSt ≤ 261121 ∧ b.eUs ≤ b.eSt)

/-- For every plan and inputs, E_cm is D_cost + F_cost + record_cost + margin exactly, D_cost and F_cost being at
most 1,000,000 mJ each; with figures in range it is at most 2,011,000 mJ. -/
def Obligations.CommittedEnergyIsTheSum : Prop :=
  ∀ (p : Plan) (i : Inputs),
    let b := p.compute i
    b.eCm = b.dCost + b.fCost + p.recordCost + p.margin ∧ b.dCost ≤ 1000000 ∧ b.fCost ≤ 1000000 ∧
        b.dCost = min 1000000 ((b.pLoad * b.tDesc + 999) / 1000) ∧
        b.fCost = (match i.flight with
          | none => 0
          | some (op, elapsed) => min 1000000 ((b.pLoad * (p.maxTime.at op - elapsed) + 9999) / 10000)) ∧
        (p.InRange → b.eCm ≤ 2011000)

/-- E_st, P_meas, P_model, P_load, T_desc, the reserve, the flash-free reserve, the deadline mark, T_dd and the five
admission costs are the formulas of chapter 4, energies and times available rounded down, costs and loads
rounded up. With plan and inputs in range: E_st at most 261,121, P_meas at most 1,073,677, P_model and P_load at
most 1,111,420, T_desc at most 131,070, the reserve from -2,011,000 to 261,121, the flash-free reserve from
-1,011,000 to 261,121, T_dd at most 65,535, each admission cost at most 1,000,000, and one that has saturated
above every reserve. -/
def Obligations.BudgetStagesAndRanges : Prop :=
  ∀ (p : Plan) (i : Inputs),
    let b := p.compute i
    (b.eSt = (if p.dropoutV < i.vbulkV then p.capUf * (i.vbulkV ^ 2 - p.dropoutV ^ 2) / 2000 else 0) ∧
          b.pMeas = (i.vbusMv * i.ibusMa + 999) / 1000 ∧
          b.pModel = p.baseMw + i.railsMw + (p.blFullMw * i.duty + 999) / 1000 +
            (if i.flight = none then 0 else p.flashActiveMw) ∧
          b.pLoad = max b.pMeas b.pModel ∧
          b.tDesc = (if i.panelDown = true then 0 else p.tPanelSwift) + (if i.boardDown = true then 0 else p.tBoardSwift) ∧
          b.reserve = (b.eUs : Int) - b.eCm ∧ b.flashFree = (b.eUs : Int) - (b.dCost + p.recordCost + p.margin) ∧
          (b.deadline = true ↔ b.flashFree ≤ 0) ∧
          b.tDd = (if b.pLoad = 0 then 65535 else min 65535 (b.eUs * 1000 / b.pLoad)) ∧
          ∀ op, b.aCost.at op = min 1000000 ((b.pLoad * p.maxTime.at op + 9999) / 10000)) ∧
    (p.InRange ∧ i.InRange →
      b.eSt ≤ 261121 ∧ b.pMeas ≤ 1073677 ∧ b.pModel ≤ 1111420 ∧ b.pLoad ≤ 1111420 ∧ b.tDesc ≤ 131070 ∧
        (-2011000 ≤ b.reserve ∧ b.reserve ≤ 261121) ∧ (-1011000 ≤ b.flashFree ∧ b.flashFree ≤ 261121) ∧
        b.flashFree = b.reserve + b.fCost ∧ b.tDd ≤ 65535 ∧
        ∀ op, b.aCost.at op ≤ 1000000 ∧ (b.aCost.at op = 1000000 → b.reserve < b.aCost.at op))

/-- When the shed mark of a channel becomes set: from RISING, SETTLING or ON, where a pending order is an enable
order, the channel enters FALLING as R10 or R12 gives it (a monitored channel whose filtered PG is not-good
passes on to OFF), a pending enable order is answered DEFERRED, and the want mark is unchanged; from OFF,
FALLING or FAULT the rail state, the timers and a pending order, such as a disable order of a FALLING channel,
are unchanged. -/
def Obligations.ShedSetTakesARailDown : Prop :=
  ∀ (e : RailEntry) (now level : Nat) (c : Channel),
    c.shed = false → e.shedAt level = true →
    let energised := c.state = .rising ∨ c.state = .settling ∨ c.state = .on
    let stays := e.timed = true ∨ c.pgGood = true
    (energised ∧ c.order ≠ some .disable ∧ stays →
      c.takeShed e now level =
        ⟨{ c with shed := true, state := .falling, rise := none, settle := none, fall := some (now + e.fallMs * 96000), order := none },
          if c.order = some .enable then some .deferred else none, none⟩) ∧
    (energised ∧ c.order ≠ some .disable ∧ ¬ stays →
      c.takeShed e now level =
        ⟨{ c with shed := true, state := .off, rise := none, settle := none, fall := none, order := none },
          if c.order = some .enable then some .deferred else none, none⟩) ∧
    (¬ energised →
      c.takeShed e now level = ⟨{ c with shed := true }, none, none⟩)

/-- On a present monitored channel with the plan applied, the filtered PG changes once the raw pin has held the
level of its polarity for the channel's filter time (4, 32, 256 or 2,048 µs), no level counting from before the
filter's last change. Good in RISING stops the rise timer and begins SETTLING with its settle timer, or ON where
the settle time is 0, where a pending enable order is answered DONE. Not-good takes FALLING to OFF, answering a
pending disable order; SETTLING to FAULT with kind UNSTABLE and ON to FAULT with kind DROPOUT, EN inactive, the
prior state kept; a DROPOUT in DIP commits the controller with reason DROPOUT at shed level 3. In every other
state only the filtered PG changes. On any other channel, before plan application, or with the raw pin at the
other level, there is no such event. The model's choices: the raw level and its length are the command's operand
(log entry 12), the clock is brought to the end of the filter time (entry 5), and where there is no event
nothing changes (entries 4 and 38). -/
def Obligations.FilteredPgChanges : Prop :=
  (∀ (ch : Fin 12) (pin : RawPin) (n : SlotName) (s : State),
     s.applied = true → (s.railEntry ch).present = true → (s.railEntry ch).timed = false →
     (s.rail ch).pgGood = false → (pin.high = true ↔ (s.railEntry ch).pgActiveLow = false) →
     let c := s.rail ch
     let time := [384, 3072, 24576].getD (s.railEntry ch).pgFilter 196608
     let now := max s.clock (max pin.since s.sense.filters.pg[ch] + time)
     let kept : Filters := { s.sense.filters with pg := s.sense.filters.pg.set ch now }
     let after (d : Channel) : State :=
       { s with clock := now, rails := s.rails.set ch d, sense := { s.sense with filters := kept } }
     let good : Channel := { c with pgGood := true }
     let settling : Channel :=
       { good with state := .settling, rise := none, fall := none, settle := some (now + settleCounts (s.railEntry ch).settle) }
     let on : Channel := { good with state := .on, rise := none, settle := none, fall := none }
     let passes := c.state = .rising ∧ settleCounts (s.railEntry ch).settle = 0
     (c.state ≠ .rising →
       exec (.filteredPgGood ch pin) s = .next (after good).settle) ∧
     (c.state = .rising ∧ settleCounts (s.railEntry ch).settle ≠ 0 →
       exec (.filteredPgGood ch pin) s = .next (after settling).settle) ∧
     (passes ∧ c.order = none →
       exec (.filteredPgGood ch pin) s = .next (after on).settle) ∧
     (passes ∧ c.order = some .enable ∧ StepUnderWay s n (.railWait ch) →
       exec (.filteredPgGood ch pin) s = .next
         ({ after { on with order := none } with eng := s.passed n } : State).settle)) ∧
  (∀ (ch : Fin 12) (pin : RawPin) (n : SlotName) (s : State),
     s.applied = true → (s.railEntry ch).present = true → (s.railEntry ch).timed = false →
     (s.rail ch).pgGood = true → (pin.high = true ↔ (s.railEntry ch).pgActiveLow = true) →
     let c := s.rail ch
     let time := [384, 3072, 24576].getD (s.railEntry ch).pgFilter 196608
     let now := max s.clock (max pin.since s.sense.filters.pg[ch] + time)
     let kept : Filters := { s.sense.filters with pg := s.sense.filters.pg.set ch now }
     let after (d : Channel) : State :=
       { s with clock := now, rails := s.rails.set ch d, sense := { s.sense with filters := kept } }
     let off : Channel := { c with pgGood := false, state := .off, rise := none, settle := none, fall := none }
     let idle := c.state = .off ∨ c.state = .rising ∨ c.state = .fault
     (idle →
       exec (.filteredPgNotGood ch pin) s = .next (after { c with pgGood := false }).settle) ∧
     (c.state = .falling ∧ c.order = none →
       exec (.filteredPgNotGood ch pin) s = .next (after off).settle) ∧
     (c.state = .falling ∧ c.order = some .disable ∧ StepUnderWay s n (.railWait ch) →
       exec (.filteredPgNotGood ch pin) s = .next
         ({ after { off with order := none } with eng := s.passed n } : State).settle) ∧
     (c.state = .settling ∨ c.state = .on →
       ∃ t, exec (.filteredPgNotGood ch pin) s = .next t ∧ t.clock = now ∧ t.sense.filters = kept ∧ (t.rail ch).state = .fault ∧
         t.enPin ch = pinLevel (s.railEntry ch).enActiveLow false ∧
         (t.rail ch).faultKind = some (if c.state = .on then .dropout else .unstable) ∧ (t.rail ch).prior = some c.state ∧
         (t.rail ch).pgGood = false ∧ (t.rail ch).rise = none ∧ (t.rail ch).settle = none ∧ (t.rail ch).fall = none ∧
         (t.rail ch).order = none) ∧
     (c.state = .on ∧ s.boc.state = .dip →
       ∃ t, exec (.filteredPgNotGood ch pin) s = .next t ∧ t.boc.state.committed = true ∧ t.boc.reason = .dropout ∧ t.boc.shedLevel = 3)) ∧
  (∀ (ch : Fin 12) (pin : RawPin) (s : State),
     let followed := s.applied = true ∧ (s.railEntry ch).present = true ∧ (s.railEntry ch).timed = false
     let good := pin.high = !(s.railEntry ch).pgActiveLow
     (¬ followed ∨ (s.rail ch).pgGood = true ∨ ¬ good →
       exec (.filteredPgGood ch pin) s = .next s) ∧
     (¬ followed ∨ (s.rail ch).pgGood = false ∨ good →
       exec (.filteredPgNotGood ch pin) s = .next s))

/-- RISE_TIMER_EXPIRY, SETTLE_TIMER_EXPIRY and FALL_TIMER_EXPIRY: an expiry brings the clock to its time. The rise
timer of a timed channel ends RISING in ON, that of a monitored channel in FAULT with kind RISE_TIMEOUT; the
settle timer ends SETTLING in ON; the fall timer of a timed channel, or of a monitored one whose PG is not-good,
ends FALLING in OFF, and of a monitored one whose PG is still good in FAULT with kind STUCK_ON. A pending order
the end answers completes the step that waits. A STOPPED timer gives no event. The model's choices: the clock
(log entry 5) and that a STOPPED timer's expiry changes nothing (entry 4). -/
def Obligations.RailTimerExpiries : Prop :=
  ∀ (ch : Fin 12) (due : Nat) (n : SlotName) (s : State),
    let c := s.rail ch
    let e := s.railEntry ch
    let free := c.order = none
    let now := max s.clock due
    let stopped (st : RailState) : Channel := { c with state := st, rise := none, settle := none, fall := none }
    let answered (st : RailState) : Host.Outcome State Fault Refusal :=
      .next ({ s with clock := now, rails := s.rails.set ch { stopped st with order := none }, eng := s.passed n } : State).settle
    let waited := StepUnderWay s n (.railWait ch)
    let after (d : Channel) : Host.Outcome State Fault Refusal :=
      .next ({ s with clock := now, rails := s.rails.set ch d } : State).settle
    let faulted (t : State) (k : FaultKind) : Prop :=
      t.clock = now ∧ (t.rail ch).state = .fault ∧ (t.rail ch).faultKind = some k ∧ (t.rail ch).prior = some c.state ∧
        (t.rail ch).rise = none ∧ (t.rail ch).settle = none ∧ (t.rail ch).fall = none
    (free ∧ c.state = .rising ∧ c.rise = some due ∧ e.timed = true →
      exec (.riseTimerExpiry ch) s = after (stopped .on)) ∧
    (c.order = some .enable ∧ waited ∧ c.state = .rising ∧ c.rise = some due ∧ e.timed = true →
      exec (.riseTimerExpiry ch) s = answered .on) ∧
    (c.state = .rising ∧ c.rise = some due ∧ e.timed = false →
      ∃ t, exec (.riseTimerExpiry ch) s = .next t ∧ faulted t .riseTimeout) ∧
    (free ∧ c.state = .settling ∧ c.settle = some due →
      exec (.settleTimerExpiry ch) s = after (stopped .on)) ∧
    (c.order = some .enable ∧ waited ∧ c.state = .settling ∧ c.settle = some due →
      exec (.settleTimerExpiry ch) s = answered .on) ∧
    (free ∧ c.state = .falling ∧ c.fall = some due ∧ (e.timed = true ∨ c.pgGood = false) →
      exec (.fallTimerExpiry ch) s = after (stopped .off)) ∧
    (c.order = some .disable ∧ waited ∧ c.state = .falling ∧ c.fall = some due ∧ (e.timed = true ∨ c.pgGood =
        false) →
      exec (.fallTimerExpiry ch) s = answered .off) ∧
    (c.state = .falling ∧ c.fall = some due ∧ e.timed = false ∧ c.pgGood = true →
      ∃ t, exec (.fallTimerExpiry ch) s = .next t ∧ faulted t .stuckOn) ∧
    (c.rise = none →
      exec (.riseTimerExpiry ch) s = .next s) ∧
    (c.settle = none →
      exec (.settleTimerExpiry ch) s = .next s) ∧
    (c.fall = none →
      exec (.fallTimerExpiry ch) s = .next s)

/-- The four faults of a monitored channel (RISE_TIMEOUT, UNSTABLE, DROPOUT, STUCK_ON): the RAIL_FAULT record of the
moment is offered. A pending order is answered FAILED: the RAIL_UP or RAIL_DOWN step that waits fails with the
fault's kind, its STEP_FAIL record is offered, and an up sequence whose step says ABANDON ends with its
lockouts, any other coming to its boundary. Then, by the rail's fault_action: nothing more (LOG); a fault claim
of its domain (DOMAIN_DOWN), held back by the controller as well in DIP and RECOVER, but for a DROPOUT in DIP;
or a TRIP claim of origin RAIL, which drops the step in progress of a running sequence (a pending order
withdrawn, a pulse's line inactive), ends it or a SUSPENDED one, and adds nothing to a running TRIP. Last, a
DROPOUT in DIP commits the controller: reason DROPOUT, shed level 3, at which a step that waits for a rail now
shed ends as deferred, the notes of the moment, and a parked command refused with reason COMMIT. Stated before
what follows of itself. The model's choices: the clock (log entries 5 and 12), the order of a fault's effects
(entry 21, DEDUCED), notes of 0 with no computation taken (entry 32) and the end of the D-link transactions
(entry 17). -/
def Obligations.FaultIsRecordedAndHandedOn : Prop :=
  ∀ (kind : FaultKind) (ch d : Fin 12) (pin : RawPin) (due : Nat) (o : Order) (n : SlotName) (st : Step) (s : State),
    let c := s.rail ch
    let e := s.railEntry ch
    let pgFalls := s.applied && e.present && !e.timed && c.pgGood && pin.high == e.pgActiveLow
    let arises :=
      match kind with
      | .riseTimeout => c.state == .rising && c.rise == some due && !e.timed
      | .unstable => c.state == .settling && pgFalls
      | .dropout => c.state == .on && pgFalls
      | .stuckOn => c.state == .falling && c.fall == some due && !e.timed && c.pgGood
    let event : Instr :=
      match kind with
      | .riseTimeout => .riseTimerExpiry ch
      | .unstable | .dropout => .filteredPgNotGood ch pin
      | .stuckOn => .fallTimerExpiry ch
    let byPg := kind == .unstable || kind == .dropout
    let time := [384, 3072, 24576].getD e.pgFilter 196608
    let now := if byPg then max s.clock (max pin.since s.sense.filters.pg[ch] + time) else max s.clock due
    let filters : Filters :=
      if byPg then { s.sense.filters with pg := s.sense.filters.pg.set ch now } else s.sense.filters
    let faulted : Channel :=
      { c with state := .fault, rise := none, settle := none, fall := none, faultKind := some kind, prior := some c.state
               order := none, pgGood := c.pgGood && !byPg }
    let record : Record := ⟨.railFault ch e.tag kind c.state s.eng.slot s.eng.index, s.boc.state, s.sense.uptime⟩
    let t : State :=
      { s with clock := now, rails := s.rails.set ch faulted, jnu := s.jnu.offered s.plan [record]
               sense := { s.sense with filters := filters } }
    let dipping := s.boc.state = .dip ∨ s.boc.state = .recover
    let claiming (g : Engine) : Engine :=
      { g with claimBoard := g.claimBoard || e.domain == .board, claimPanel := g.claimPanel || e.domain == .panel }
    let holding : BrownOut :=
      { s.boc with heldBoard := s.boc.heldBoard || e.domain == .board, heldPanel := s.boc.heldPanel || e.domain == .panel }
    let tripping (g : Engine) : Engine :=
      { g with mode := .idle, slot := none, index := 0, step := .idle, quiesceHold := false, quietHold := false
               trip := some .rail }
    let dropped : Vector Bool 6 := match s.eng.step with
      | .pulsing l _ => s.eng.lines.set l false
      | _ => s.eng.lines
    let withdrawn : Vector Channel 12 := match s.eng.step with
      | .railWait i => t.rails.set i { t.rail i with order := none }
      | _ => t.rails
    let link : Bridge := match s.eng.step with
      | .pulsing l _ =>
        if s.plan.mainLine = some l ∧ s.eng.lines[l] = true then
          { s.flb with barred := s.flb.mode == .ignore && (s.flb.issue.isSome || s.flb.inflight.isSome) }
        else s.flb
      | _ => s.flb
    let commits := arises = true ∧ kind = .dropout ∧ s.boc.state = .dip
    let stays := arises = true ∧ ¬ (kind = .dropout ∧ s.boc.state = .dip)
    let waits := c.order = some o ∧ StepUnderWay s n (.railWait ch) ∧ s.currentStep = some st
    let free := stays ∧ c.order = none
    let waited := stays ∧ waits
    let abandoned := n.isUp && st.abandon
    let failure : Record :=
      ⟨.stepFail n s.eng.index st.kind.code st.kind.target (.fault kind) abandoned, s.boc.state, s.sense.uptime⟩
    let after : Engine :=
      if abandoned then
        { s.eng with
          mode := .idle, slot := none, index := 0, step := .idle, quiesceHold := false, quietHold := false
          boardLock := if n = .boardUp then s.sense.runReq else s.eng.boardLock
          panelLock := s.sense.runReq && s.sense.panelReq }
      else s.passed n
    let failed : State := { t with jnu := s.jnu.offered s.plan [record, failure], eng := after }
    let tripped (v : State) : State :=
      if v.eng.mode = .idle then { v with eng := { v.eng with trip := some .rail } }
      else if v.eng.mode = .suspended then { v with eng := tripping v.eng }
      else if v.eng.slot = some .trip then v
      else { v with eng := tripping { v.eng with lines := dropped }, rails := withdrawn, flb := link }
    let handed (v : State) : State :=
      match e.faultAction with
      | .log => v
      | .domainDown => { v with eng := claiming v.eng }
      | .trip => tripped v
    let shed (v : State) (i : Fin 12) : ChanStep := (v.rail i).takeShed (s.railEntry i) now 3
    let notes : CommitNotes :=
      match s.boc.latest with
      | some b => ⟨s.sense.uptime, b.reserve, b.eUs, b.tDd⟩
      | none => ⟨s.sense.uptime, 0, 0, 0⟩
    let committing : BrownOut :=
      { s.boc with state := .commit, ride := none, restore := none, heldBoard := false, heldPanel := false
                   reason := .dropout, notes := some notes, shedLevel := 3 }
    let committed (v : State) : State :=
      if s.boc.shedLevel = 3 then { v with boc := committing }
      else State.retarget { v with rails := Vector.ofFn fun i => (shed v i).chan, boc := committing }
    let refused (v : State) : State :=
      match s.adu.parked with
      | none => v
      | some p =>
        { v with
          jnu := v.jnu.offered s.plan
            [⟨.refusal .commit p.command true (min 65535 (s.sense.uptime - p.since).toNat) s.adu.latest, .commit, s.sense.uptime⟩]
          adu := ⟨none, none, s.adu.latest⟩
          flb := { v.flb with tenure := v.flb.tenure.map fun ten => { ten with phase := .refusing }
                              dlinkDue := some (now + 8 * (s.plan.div + 1)), reportless := v.mainActive } }
    let deferred (v : State) := s.boc.shedLevel ≠ 3 ∧ (shed v d).answer ≠ none
    (free ∧ e.faultAction = .log →
      exec event s = .next t.settle) ∧
    (free ∧ e.faultAction = .domainDown ∧ ¬ dipping →
      exec event s = .next ({ t with eng := claiming s.eng } : State).settle) ∧
    (free ∧ e.faultAction = .domainDown ∧ dipping →
      exec event s = .next ({ t with eng := claiming s.eng, boc := holding } : State).settle) ∧
    (free ∧ e.faultAction = .trip ∧ s.eng.mode = .idle →
      exec event s = .next ({ t with eng := { s.eng with trip := some .rail } } : State).settle) ∧
    (free ∧ e.faultAction = .trip ∧ s.eng.mode = .suspended →
      exec event s = .next ({ t with eng := tripping s.eng } : State).settle) ∧
    (free ∧ e.faultAction = .trip ∧ s.eng.mode = .running ∧ s.eng.slot = some .trip →
      exec event s = .next t.settle) ∧
    (free ∧ e.faultAction = .trip ∧ s.eng.mode = .running ∧ s.eng.slot ≠ some .trip →
      exec event s = .next
        ({ t with eng := tripping { s.eng with lines := dropped }, rails := withdrawn, flb := link } : State).settle) ∧
    (waited ∧ e.faultAction = .log →
      exec event s = .next failed.settle) ∧
    (waited ∧ e.faultAction = .domainDown ∧ ¬ dipping →
      exec event s = .next ({ failed with eng := claiming after } : State).settle) ∧
    (waited ∧ e.faultAction = .domainDown ∧ dipping →
      exec event s = .next ({ failed with eng := claiming after, boc := holding } : State).settle) ∧
    (waited ∧ e.faultAction = .trip ∧ n = .trip ∧ after.mode = .running →
      exec event s = .next failed.settle) ∧
    (waited ∧ e.faultAction = .trip ∧ ¬ (n = .trip ∧ after.mode = .running) →
      exec event s = .next ({ failed with eng := tripping after } : State).settle) ∧
    (commits ∧ c.order = none ∧ (∀ i, (handed t).eng.step ≠ .railWait i) →
      exec event s = .next (refused (committed (handed t))).settle) ∧
    (commits ∧ c.order = none ∧ StepUnderWay (handed t) n (.railWait d) ∧ ¬ deferred (handed t) →
      exec event s = .next (refused (committed (handed t))).settle) ∧
    (commits ∧ c.order = none ∧ StepUnderWay (handed t) n (.railWait d) ∧ deferred (handed t) →
      exec event s = .next
        (refused { committed (handed t) with eng := (committed (handed t)).passed n }).settle) ∧
    (commits ∧ waits →
      exec event s = .next (refused (committed (handed failed))).settle)

/-- With the plan applied, the filtered AC_OK changes once the raw pin has held the level of its polarity for its
filter time (50 or 200 µs, 1 or 4 ms). A loss starts the dip window timer at 0. In NORMAL the storm test counts
the unstale history entries younger than the window: below storm_count a current dip is opened and DIP entered
with the ride timer running (STOPPED with limit 0); otherwise the controller commits with reason STORM at shed
level 3. In RECOVER a new dip is opened and DIP entered at the level reached. In INIT and DARK the mains timer
stops. A return stops the dip window timer, which holds its count. In DIP the current dip is pushed as position
0 of the history, its DIP record offered, and RECOVER entered with the restore timer running; with restore_delay
0 the first level is restored at once. In INIT and DARK the mains timer starts afresh. In COMMIT and DESCENT the
return is noted. Elsewhere nothing more changes. The model's choices: notes and reserve of 0 where no
computation was taken (log entry 32), the raw level as operand (entry 12), the clock brought to the end of the
filter time (entry 5), nothing changed where there is no event (entries 4 and 38), and a loss that cancels a met
mains condition in INIT (entry 23). -/
def Obligations.MainsChanges : Prop :=
  (∀ (pin : RawPin) (s : State),
     s.applied = true → s.sense.acOk = true → (pin.high = true ↔ s.plan.acOk.activeLow = true) →
     let time := [4800, 19200, 96000].getD s.plan.acOk.filter 384000
     let now := max s.clock (max pin.since s.sense.filters.acOk + time)
     let filters : Filters := { s.sense.filters with acOk := now }
     let lost : Sense := { s.sense with acOk := false, dipSince := some now, dipHeld := 0, filters := filters }
     let found := (s.boc.history.filter fun e => !e.stale && decide ((s.sense.uptime - e.start).toNat < s.plan.stormWindowMs)).length
     let notes : CommitNotes :=
       match s.boc.latest with
       | some b => ⟨s.sense.uptime, b.reserve, b.eUs, b.tDd⟩
       | none => ⟨s.sense.uptime, 0, 0, 0⟩
     let reserve : Int := (s.boc.latest.map BocBudget.reserve).getD 0
     let dip : Dip := ⟨s.sense.uptime, s.boc.shedLevel, reserve⟩
     let ride : Timer := if s.plan.rideLimitMs = 0 then none else some (now + s.plan.rideLimitMs * 96000)
     let after (b : BrownOut) : State := { s with clock := now, sense := lost, boc := b }
     (s.boc.state = .normal ∧ found < s.plan.stormCount →
       exec (.acOkLoss pin) s = .next
         (after { s.boc with state := .dip, ride := ride, restore := none, dip := some dip, stormFound := found }).settle) ∧
     (s.boc.state = .normal ∧ s.plan.stormCount ≤ found →
       ∃ t, exec (.acOkLoss pin) s = .next t ∧ t.clock = now ∧ t.sense = lost ∧ t.boc.state.committed = true ∧
         t.boc.reason = .storm ∧ t.boc.shedLevel = 3 ∧ t.boc.notes = some notes ∧ t.boc.dip = some dip ∧
         t.boc.stormFound = found ∧ t.boc.history = s.boc.history) ∧
     (s.boc.state = .recover →
       exec (.acOkLoss pin) s = .next (after { s.boc with state := .dip, ride := ride, restore := none, dip := some dip }).settle) ∧
     (s.boc.state = .init ∨ s.boc.state = .dark →
       exec (.acOkLoss pin) s = .next (after { s.boc with mains := none, mainsMet := false }).settle) ∧
     (s.boc.state = .dip ∨ s.boc.state = .commit ∨ s.boc.state = .descent →
       exec (.acOkLoss pin) s = .next (after s.boc).settle)) ∧
  (∀ (pin : RawPin) (d : Dip) (s : State),
     s.applied = true → s.sense.acOk = false → (pin.high = true ↔ s.plan.acOk.activeLow = false) →
     let time := [4800, 19200, 96000].getD s.plan.acOk.filter 384000
     let now := max s.clock (max pin.since s.sense.filters.acOk + time)
     let filters : Filters := { s.sense.filters with acOk := now }
     let count := match s.sense.dipSince with
       | some since => min 65535 ((now - since) / 9600)
       | none => s.sense.dipHeld
     let back : Sense := { s.sense with acOk := true, dipSince := none, dipHeld := count, filters := filters }
     let entry : DipEntry := ⟨d.start, count, d.peakShed, max (-32768) (min 32767 d.minReserve), false⟩
     let record : Record := ⟨.dip d.start count d.peakShed (max (-32768) (min 32767 d.minReserve)), .dip, s.sense.uptime⟩
     let queued := s.jnu.offered s.plan [record]
     let after (b : BrownOut) : State := { s with clock := now, sense := back, boc := b }
     (s.boc.state = .dip ∧ s.boc.dip = some d ∧ s.plan.restoreDelayMs ≠ 0 →
       exec (.acOkReturn pin) s = .next
         ({ after { s.boc with state := .recover, ride := none, dip := none, history := (entry :: s.boc.history).take 16
                               restore := some (now + s.plan.restoreDelayMs * 96000) } with jnu := queued } : State).settle) ∧
     (s.boc.state = .dip ∧ s.boc.dip = some d ∧ s.plan.restoreDelayMs = 0 →
       ∃ t, exec (.acOkReturn pin) s = .next t ∧ t.sense = back ∧ t.boc.history = (entry :: s.boc.history).take 16 ∧ t.boc.dip = none ∧
         t.boc.state = (if s.boc.shedLevel ≤ 1 then .normal else .recover) ∧ t.boc.shedLevel = s.boc.shedLevel - 1) ∧
     (s.boc.state = .init ∨ s.boc.state = .dark →
       exec (.acOkReturn pin) s = .next
         (after { s.boc with mains := some (now + s.plan.rearmDelayMs * 96000), mainsMet := false }).settle) ∧
     (s.boc.state = .commit ∨ s.boc.state = .descent →
       exec (.acOkReturn pin) s = .next (after { s.boc with acReturned := true }).settle) ∧
     (s.boc.state = .normal ∨ s.boc.state = .recover →
       exec (.acOkReturn pin) s = .next (after s.boc).settle)) ∧
  (∀ (pin : RawPin) (s : State),
     let active := pin.high = !s.plan.acOk.activeLow
     (s.applied = false ∨ s.sense.acOk = false ∨ active →
       exec (.acOkLoss pin) s = .next s) ∧
     (s.applied = false ∨ s.sense.acOk = true ∨ ¬ active →
       exec (.acOkReturn pin) s = .next s))

/-- In DIP the ride timer's expiry commits the controller: reason RIDE_LIMIT, shed level 3 at once on every rail,
the notes of the moment, ride and restore timers stopped, held marks discarded; a parked command is refused with
reason COMMIT, its record in the queue and write-disable sent. With an operation in flight COMMIT stays;
otherwise DESCENT follows, and DARK exactly where both domains are DOWN. In RECOVER the restore timer's expiry
lowers the shed level by one for every channel: from 2 or 3 RECOVER goes on, with the timer set one restore step
later; from 1, or at 0, NORMAL is entered, the held marks become fault claims of the engine, and a parked
command leaves the slot and is issued. A shed mark that clears restores a wanted OFF or FALLING rail: RISING
with a fresh rise timer, or, monitored with PG good, SETTLING, or ON with settle time 0; with want clear, in
FAULT or energised the rail stays; nothing is answered. The mains timer's expiry takes INIT to NORMAL with a
computation taken and is remembered without one; in DARK with the SURVIVAL work ended it rearms: NORMAL at shed
level 0, dip, reason, notes, AT_RISK note and return mark cleared, the history kept and, with no claim pending,
the lockouts clear with auto_resume, else set, each only while its clearing requests are active; with the work
not ended it is remembered. The model's choices: each expiry brings the clock to its time, and what it starts
counts from the clock (log entry 5); notes of 0 with no computation taken (entry 32); the end of the D-link
transactions (entry 17). -/
def Obligations.ControllerTimersExpire : Prop :=
  (∀ (due : Nat) (p : Parked) (ten : Tenure) (s : State),
     s.applied = true → s.boc.state = .dip → s.boc.ride = some due →
     let notes : CommitNotes :=
       match s.boc.latest with
       | some b => ⟨s.sense.uptime, b.reserve, b.eUs, b.tDd⟩
       | none => ⟨s.sense.uptime, 0, 0, 0⟩
     let now := max s.clock due
     let stays := s.boc.shedLevel = 3
     let base : State :=
       if stays then { s with clock := now }
       else
         State.retarget
           { s with
             clock := now, rails := Vector.ofFn fun ch => ((s.rail ch).takeShed (s.railEntry ch) now 3).chan
             boc := { s.boc with shedLevel := 3 } }
     let committed : State :=
       { base with
         boc := { s.boc with state := .commit, ride := none, restore := none, heldBoard := false, heldPanel := false
                             reason := .rideLimit, notes := some notes, shedLevel := 3 } }
     let noWait := ∀ ch, s.eng.step ≠ .railWait ch
     let refusal : Record :=
       ⟨.refusal .commit p.command true (min 65535 (s.sense.uptime - p.since).toNat) s.adu.latest, .commit, s.sense.uptime⟩
     (noWait ∧ s.adu.parked = none →
       exec .rideTimerExpiry s = .next committed.settle) ∧
     (noWait ∧ s.adu.parked = some p ∧ s.flb.tenure = some ten →
       exec .rideTimerExpiry s = .next
         ({ committed with
            jnu := s.jnu.offered s.plan [refusal], adu := ⟨none, none, s.adu.latest⟩
            flb := { s.flb with tenure := some { ten with phase := .refusing }
                                dlinkDue := some (now + 8 * (s.plan.div + 1)), reportless := s.mainActive } } : State).settle) ∧
     (∃ t, exec .rideTimerExpiry s = .next t ∧ t.clock = max s.clock due ∧ t.boc.state.committed = true ∧ t.boc.reason = .rideLimit ∧
           t.boc.shedLevel = 3 ∧ t.boc.notes = some notes ∧ t.boc.ride = none ∧ t.boc.restore = none ∧
           t.boc.heldBoard = false ∧ t.boc.heldPanel = false ∧ t.boc.history = s.boc.history ∧
           (s.flb.inflight = none →
             (t.boc.state = .descent ∨ t.boc.state = .dark) ∧
               (t.boc.state = .dark ↔ t.eng.board = .down ∧ t.eng.panel = .down)) ∧
           (s.flb.inflight = none ∧ s.eng.board = .down ∧ s.eng.panel = .down → t.boc.state = .dark) ∧
           (s.flb.inflight ≠ none → t.boc.state = .commit) ∧
           (s.boc.shedLevel < 3 →
             ∀ ch, (t.rail ch).shed = (s.railEntry ch).shedAt 3 ∧
               (t.rail ch).state = ((s.rail ch).takeShed (s.railEntry ch) (max s.clock due) 3).chan.state))) ∧
  (∀ (due : Nat) (p : Parked) (op : OpClass) (ten : Tenure) (s : State),
     s.boc.state = .recover → s.boc.restore = some due →
     let now := max s.clock due
     let level := s.boc.shedLevel - 1
     let rails : Vector Channel 12 := Vector.ofFn fun ch => ((s.rail ch).takeShed (s.railEntry ch) now level).chan
     let atZero := s.boc.shedLevel = 0
     let base : State :=
       if atZero then { s with clock := now }
       else State.retarget { s with clock := now, rails := rails, boc := { s.boc with shedLevel := 0 } }
     let entered : State :=
       { base with
         boc := { s.boc with state := .normal, restore := none, heldBoard := false, heldPanel := false, shedLevel := 0 }
         eng := { s.eng with claimBoard := s.eng.claimBoard || s.boc.heldBoard
                             claimPanel := s.eng.claimPanel || s.boc.heldPanel } }
     let toNormal := s.boc.shedLevel ≤ 1 ∧ ∀ ch, s.eng.step ≠ .railWait ch
     let c := p.command
     let clocks := 16 + c.addrBytes * 8 / c.addrLanes + c.data.length * 8 / c.dataLanes
     let issue : Issue :=
       { op := op, origin := .requested, range := c.range, opcode := c.opcode, addrBytes := c.addrBytes, addrLanes := c.addrLanes
         dataLanes := c.dataLanes, address := c.address, data := c.data, admitted := s.sense.uptime }
     (toNormal ∧ s.adu.parked = none →
       exec .restoreTimerExpiry s = .next entered.settle) ∧
     (toNormal ∧ s.adu.parked = some p ∧ c.cls.op = some op ∧ s.flb.tenure = some ten →
       exec .restoreTimerExpiry s = .next
         ({ entered with
            adu := ⟨none, none, s.adu.latest⟩
            flb := { s.flb with tenure := some { ten with phase := .issuing }, issue := some issue
                                dlinkDue := some (now + clocks * (s.plan.div + 1)) } } : State).settle) ∧
     (2 ≤ s.boc.shedLevel →
       ∃ t, exec .restoreTimerExpiry s = .next t ∧ t.clock = now ∧ t.boc.state = .recover ∧ t.boc.shedLevel = level ∧ t.rails = rails ∧
         t.boc.restore = some (now + s.plan.restoreStepMs * 96000) ∧ t.adu = s.adu ∧ t.boc.history = s.boc.history) ∧
     (s.boc.shedLevel = 0 →
       ∃ t, exec .restoreTimerExpiry s = .next t ∧ t.clock = now ∧ t.boc.state = .normal ∧ t.boc.shedLevel = 0 ∧ t.rails = s.rails ∧
         t.boc.restore = none ∧ t.boc.heldBoard = false ∧ t.boc.heldPanel = false ∧ t.adu.parked = none ∧
         t.boc.history = s.boc.history) ∧
     (s.boc.shedLevel = 1 →
       ∃ t, exec .restoreTimerExpiry s = .next t ∧ t.clock = now ∧ t.boc.state = .normal ∧ t.boc.shedLevel = 0 ∧ t.rails = rails ∧
         t.boc.restore = none ∧ t.boc.heldBoard = false ∧ t.boc.heldPanel = false ∧ t.adu.parked = none ∧
         t.boc.history = s.boc.history)) ∧
  (∀ (e : RailEntry) (now level : Nat) (c : Channel),
     c.shed = true → e.shedAt level = false →
     let wanted := (c.state = .off ∨ c.state = .falling) ∧ c.want = true
     let good := e.timed = false ∧ c.pgGood = true
     let clear : Channel := { c with shed := false }
     let settling : Channel :=
       { clear with state := .settling, rise := none, settle := some (now + settleCounts e.settle), fall := none }
     let on : Channel := { clear with state := .on, rise := none, settle := none, fall := none }
     (wanted ∧ ¬ good →
       c.takeShed e now level =
         ⟨{ clear with state := .rising, rise := some (now + e.riseMs * 96000), settle := none, fall := none }, none, none⟩) ∧
     (wanted ∧ good ∧ settleCounts e.settle ≠ 0 →
       c.takeShed e now level = ⟨settling, none, none⟩) ∧
     (wanted ∧ good ∧ settleCounts e.settle = 0 ∧ c.order ≠ some .enable →
       c.takeShed e now level = ⟨on, none, none⟩) ∧
     (¬ wanted →
       c.takeShed e now level = ⟨clear, none, none⟩)) ∧
  (∀ (due : Nat) (s : State),
     s.applied = true → s.boc.mains = some due →
     (s.boc.state = .init ∧ s.boc.latest ≠ none →
       ∃ t, exec .mainsTimerExpiry s = .next t ∧ t.clock = max s.clock due ∧ t.boc.state = .normal ∧ t.boc.mains = none ∧ t.boc.mainsMet = false) ∧
     (s.boc.state = .init ∧ s.boc.latest = none →
       ∃ t, exec .mainsTimerExpiry s = .next t ∧ t.clock = max s.clock due ∧ t.boc = { s.boc with mains := none, mainsMet := true, survival := t.boc.survival }) ∧
     (s.boc.state = .dark ∧ s.boc.survival ≠ .ended ∧ s.survivalWaitEnd = none →
       ∃ t, exec .mainsTimerExpiry s = .next t ∧ t.clock = max s.clock due ∧ t.boc = { s.boc with mains := none, mainsMet := true }) ∧
     (s.boc.state = .dark ∧ s.boc.survival = .ended →
       ∃ t, exec .mainsTimerExpiry s = .next t ∧ t.clock = max s.clock due ∧ t.boc.state = .normal ∧ t.boc.shedLevel = 0 ∧ t.boc.dip = none ∧
         t.boc.reason = .none ∧ t.boc.notes = none ∧ t.boc.atRisk = none ∧ t.boc.acReturned = false ∧ t.boc.history = s.boc.history) ∧
     (s.boc.state = .dark ∧ s.boc.survival = .ended ∧ s.eng.trip = none ∧ s.eng.claimBoard = false ∧
         s.eng.claimPanel = false ∧ s.eng.descent = false ∧ s.eng.mode = .idle →
       ∃ t, exec .mainsTimerExpiry s = .next t ∧ t.eng.boardLock = (!s.plan.autoResume && s.sense.runReq) ∧
         t.eng.panelLock = (!s.plan.autoResume && s.sense.runReq && s.sense.panelReq)))

/-- The controller keeps the reserve, E_us, T_dd and deadline mark offered. In DIP the current dip takes a smaller
reserve; with a reserve of 0 or more the level becomes the larger of itself and the target (0 from s1 on, 1 from
s2, 2 from s3, else 3), so it never falls; with a negative one the controller commits with reason RESERVE at
level 3, its notes those of this computation. In COMMIT and DESCENT the current dip takes a smaller reserve as
well. In COMMIT, with an operation in flight and the deadline reached, the operation is marked AT_RISK and the
controller leaves COMMIT, and with it not reached nothing more changes; with nothing in flight it leaves. In
INIT, NORMAL, RECOVER and DARK nothing but the kept figures changes. -/
def Obligations.ControllerTakesAComputation : Prop :=
  ∀ (r : Budget) (s : State),
    s.applied = true → s.sense.bocOffer = true → s.hbu = some r →
    let taken : Sense := { s.sense with bocOffer := false }
    let latest : BocBudget := ⟨r.reserve, r.eUs, r.tDd, r.deadline⟩
    let lower : Option Dip := s.boc.dip.map fun d => { d with minReserve := min d.minReserve r.reserve }
    let target : Nat :=
      if (s.plan.s1 : Int) ≤ r.reserve then 0 else if (s.plan.s2 : Int) ≤ r.reserve then 1
      else if (s.plan.s3 : Int) ≤ r.reserve then 2 else 3
    (s.boc.state = .init ∨ s.boc.state = .normal ∨ s.boc.state = .recover →
      exec .bocComputation s = .next ({ s with sense := taken, boc := { s.boc with latest := some latest } } : State).settle) ∧
    (s.boc.state = .descent →
      exec .bocComputation s = .next
        ({ s with sense := taken, boc := { s.boc with latest := some latest, dip := lower } } : State).settle) ∧
    (s.boc.state = .dark →
      exec .bocComputation s = .next ({ s with sense := taken, boc := { s.boc with latest := some latest } } : State).settle) ∧
    (s.boc.state = .dip ∧ 0 ≤ r.reserve →
      ∃ t, exec .bocComputation s = .next t ∧ t.sense = taken ∧ t.boc.state = .dip ∧ t.boc.latest = some latest ∧
        t.boc.shedLevel = max s.boc.shedLevel target ∧ t.boc.history = s.boc.history ∧ t.boc.ride = s.boc.ride ∧
        t.boc.dip = s.boc.dip.map fun d =>
          ⟨d.start, if s.boc.shedLevel < target then max d.peakShed target else d.peakShed, min d.minReserve r.reserve⟩) ∧
    (s.boc.state = .dip ∧ r.reserve < 0 →
      ∃ t, exec .bocComputation s = .next t ∧ t.sense = taken ∧ t.boc.state.committed = true ∧ t.boc.reason = .reserve ∧ t.boc.shedLevel = 3 ∧
        t.boc.notes = some ⟨s.sense.uptime, r.reserve, r.eUs, r.tDd⟩ ∧ t.boc.latest = some latest ∧ t.boc.dip = lower ∧ t.boc.ride = none) ∧
    (s.boc.state = .commit ∧ s.flb.inflight ≠ none ∧ r.deadline = true →
      ∃ t, exec .bocComputation s = .next t ∧ (t.boc.state = .descent ∨ t.boc.state = .dark) ∧
        t.boc.atRisk = s.flb.inflight.map (fun f => (f.op, f.origin)) ∧ t.flb.inflight.any (fun f => f.atRisk) = true ∧
        t.boc.latest = some latest ∧ t.boc.dip = lower ∧ t.boc.notes = s.boc.notes ∧ t.boc.reason = s.boc.reason) ∧
    (s.boc.state = .commit ∧ s.flb.inflight ≠ none ∧ r.deadline = false →
      exec .bocComputation s = .next
        ({ s with sense := taken, boc := { s.boc with latest := some latest, dip := lower } } : State).settle) ∧
    (s.boc.state = .commit ∧ s.flb.inflight ≠ none ∧ r.deadline = false →
      ∃ t, exec .bocComputation s = .next t ∧ t.boc.state = .commit ∧ t.boc.latest = some latest ∧ t.boc.dip = lower ∧
        t.boc.atRisk = s.boc.atRisk) ∧
    (s.boc.state = .commit ∧ s.flb.inflight = none →
      ∃ t, exec .bocComputation s = .next t ∧ (t.boc.state = .descent ∨ t.boc.state = .dark) ∧ t.boc.latest = some latest ∧
        t.boc.dip = lower ∧ t.boc.atRisk = s.boc.atRisk)

/-- A collapse delivered and taken in NORMAL, DIP, RECOVER or COMMIT commits the controller with reason BUS_COLLAPSE
at shed level 3, the commit notes being those of this moment, or those COMMIT already held; an operation in
flight is marked AT_RISK. It is then DARK exactly where both domains are DOWN, and so it is where they were, and
DESCENT otherwise: a TRIP with steps begins, or a running TRIP goes on. Where shed level 3 answers the step that
waited for a rail, and so completes the last down sequence, DARK follows at once, with that TRIP begun. In
DESCENT the reason and the notes are kept and the TRIP claim of origin BOC is placed, which a running TRIP
leaves as it is and by which any other sequence ends and a TRIP with steps begins. In INIT and DARK the collapse
is taken and nothing else changes. The model's choices: notes of 0 where no computation was taken (log entry
32), and the shed level acting before the claim (entry 67). -/
def Obligations.BusCollapseDescends : Prop :=
  ∀ (s : State),
    s.applied = true → s.sense.collapse = true → (s.eng.slot = none ↔ s.eng.mode = .idle) →
    let taken : Sense := { s.sense with collapse := false }
    let notes : CommitNotes :=
      match s.boc.latest with
      | some b => ⟨s.sense.uptime, b.reserve, b.eUs, b.tDd⟩
      | none => ⟨s.sense.uptime, 0, 0, 0⟩
    let acting := s.boc.state = .normal ∨ s.boc.state = .dip ∨ s.boc.state = .recover ∨ s.boc.state = .commit
    let down := s.eng.board = .down ∧ s.eng.panel = .down
    (s.boc.state = .init ∨ s.boc.state = .dark →
      exec .busCollapse s = .next ({ s with sense := taken } : State).settle) ∧
    (s.boc.state = .descent →
      ∃ t, exec .busCollapse s = .next t ∧ t.sense = taken ∧ (t.boc.state = .descent ∨ t.boc.state = .dark) ∧
        t.boc.reason = s.boc.reason ∧ t.boc.notes = s.boc.notes) ∧
    (s.boc.state = .descent ∧ s.eng.mode = .idle →
      exec .busCollapse s = .next
        ({ s with sense := taken, eng := { s.eng with trip := some .boc } } : State).settle) ∧
    (s.boc.state = .descent ∧ s.eng.mode = .running ∧ s.eng.slot = some .trip →
      exec .busCollapse s = .next ({ s with sense := taken } : State).settle) ∧
    (s.boc.state = .descent ∧ ¬ down ∧ s.eng.slot ≠ some .trip ∧ (s.plan.slotRange .trip).count ≠ 0 →
      ∃ t, exec .busCollapse s = .next t ∧ t.boc.state = .descent ∧ t.eng.mode = .running ∧ t.eng.slot = some .trip ∧
        t.eng.index = 0) ∧
    (acting →
      ∃ t, exec .busCollapse s = .next t ∧ t.sense = taken ∧ (t.boc.state = .descent ∨ t.boc.state = .dark) ∧ t.boc.reason = .busCollapse ∧
        t.boc.shedLevel = 3 ∧ t.boc.notes = (if s.boc.state = .commit then s.boc.notes else some notes) ∧
        t.boc.ride = none ∧ t.boc.restore = none ∧ t.boc.heldBoard = false ∧ t.boc.heldPanel = false) ∧
    (acting →
      ∃ t, exec .busCollapse s = .next t ∧
        (t.boc.state = .dark ↔ t.eng.board = .down ∧ t.eng.panel = .down)) ∧
    (acting ∧ ¬ down ∧ s.eng.mode = .running ∧ s.eng.slot = some .trip ∧ s.eng.step = .ready →
      ∃ t, exec .busCollapse s = .next t ∧ t.boc.state = .descent ∧ t.eng.slot = some .trip ∧ t.eng.index = s.eng.index) ∧
    (acting ∧ s.flb.inflight ≠ none →
      ∃ t, exec .busCollapse s = .next t ∧ t.flb.inflight.any (fun f => f.atRisk) = true) ∧
    (acting ∧ down →
      ∃ t, exec .busCollapse s = .next t ∧ t.boc.state = .dark) ∧
    (acting ∧ ¬ down ∧ s.eng.slot ≠ some .trip ∧ (s.plan.slotRange .trip).count ≠ 0 →
      ∃ t, exec .busCollapse s = .next t ∧ t.eng.mode = .running ∧ t.eng.slot = some .trip ∧ t.eng.index = 0 ∧
        (t.boc.state = .descent ∨ (t.boc.state = .dark ∧ t.eng.board = .down ∧ t.eng.panel = .down))) ∧
    (acting ∧ ¬ down ∧ s.eng.slot ≠ some .trip ∧ (s.plan.slotRange .trip).count ≠ 0 ∧ ∀ ch, s.eng.step ≠
        .railWait ch →
      ∃ t, exec .busCollapse s = .next t ∧ t.boc.state = .descent ∧ t.eng.mode = .running ∧ t.eng.slot = some .trip ∧
        t.eng.index = 0 ∧ t.eng.descent = true ∧ t.eng.board ≠ .up ∧ t.eng.board ≠ .goingUp ∧
        t.eng.panel ≠ .up ∧ t.eng.panel ≠ .goingUp)

/-- Over every command but PART_RESET, from every state with the plan applied that meets ControllerSafe: COMMIT is
followed by COMMIT, DESCENT or DARK; DESCENT by DESCENT or DARK; DARK by DARK or, with the rearm, NORMAL at shed
level 0; and in DIP the shed level never falls. From every such state that meets LinkSafe as well, a command
parked when the controller commits has left the slot, and nothing is being issued. -/
def Obligations.ControllerKeepsItsPromises : Prop :=
  ∀ (c : Instr) (s t : State),
    s.applied = true → ControllerSafe s → (∀ cause, c ≠ .partReset cause) → exec c s = .next t →
    (s.boc.state = .commit →
      t.boc.state = .commit ∨ t.boc.state = .descent ∨ t.boc.state = .dark) ∧
    (s.boc.state = .descent →
      t.boc.state = .descent ∨ t.boc.state = .dark) ∧
    (s.boc.state = .dark →
      t.boc.state = .dark ∨ (t.boc.state = .normal ∧ t.boc.shedLevel = 0)) ∧
    (s.boc.state = .dip ∧ t.boc.state = .dip →
      s.boc.shedLevel ≤ t.boc.shedLevel) ∧
    (LinkSafe s ∧ s.adu.parked ≠ none ∧ t.boc.state.committed = true →
      t.adu.parked = none ∧ t.flb.issue = none)

/-- While part reset is released, a request takes the raw level its pin has held for 1 ms. RUN_REQ going inactive
clears both lockouts, PANEL_REQ going inactive the panel lockout; going active changes none. With the engine
IDLE in NORMAL, nothing claimed, no lockout and the upstream side quiet through the MAIN_RESET line, RUN_REQ
going active begins a BOARD_UP that has steps, and the board domain is GOING_UP. With the plan applied, an AUX
input takes the level its pin has held for its filter time (4, 32, 256 or 2,048 µs), and an AWAIT step that
waits for that level of that input completes. The model's choices: the raw level as operand (log entry 12), the
clock brought to the end of the filter time (entry 5), and a level that an input already has, or an input whose
filter does not run, changing nothing (entries 4 and 38). -/
def Obligations.FilteredInputsChange : Prop :=
  (∀ (pin : RawPin) (s : State),
     s.released = true →
     let active := pin.high
     let runAt := max s.clock (max pin.since s.sense.filters.runReq + 96000)
     let panelAt := max s.clock (max pin.since s.sense.filters.panelReq + 96000)
     (s.sense.runReq ≠ active →
       exec (.requestChange .run pin) s = .next
         ({ s with clock := runAt
                   sense := { s.sense with runReq := active, filters := { s.sense.filters with runReq := runAt } }
                   eng := { s.eng with boardLock := s.eng.boardLock && active, panelLock := s.eng.panelLock && active } } : State).settle) ∧
     (s.sense.panelReq ≠ active →
       exec (.requestChange .panel pin) s = .next
         ({ s with clock := panelAt
                   sense := { s.sense with panelReq := active, filters := { s.sense.filters with panelReq := panelAt } }
                   eng := { s.eng with panelLock := s.eng.panelLock && active } } : State).settle) ∧
     (s.sense.runReq = active →
       exec (.requestChange .run pin) s = .next s) ∧
     (s.sense.panelReq = active →
       exec (.requestChange .panel pin) s = .next s) ∧
     (active = true ∧ s.sense.runReq = false ∧ s.applied = true ∧ s.boc.state = .normal ∧ s.eng.mode = .idle ∧
         s.eng.trip = none ∧ s.eng.descent = false ∧ s.eng.claimBoard = false ∧ s.eng.claimPanel = false ∧
         s.eng.board = .down ∧ s.eng.panel = .down ∧ s.eng.boardLock = false ∧ s.mainActive = true ∧
         (s.plan.slotRange .boardUp).count ≠ 0 →
       ∃ t, exec (.requestChange .run pin) s = .next t ∧ t.eng.mode = .running ∧ t.eng.slot = some .boardUp ∧ t.eng.index = 0 ∧ t.eng.step = .ready ∧
         t.eng.board = .goingUp ∧ t.eng.panel = .down ∧ t.rails = s.rails ∧ t.dpt = s.dpt)) ∧
  (∀ (input : Fin 2) (pin : RawPin) (n : SlotName) (due : Nat) (s : State),
     s.applied = true →
     let entry := if input = 0 then s.plan.aux0 else s.plan.aux1
     let active := pin.high != entry.activeLow
     let time := [384, 3072, 24576].getD entry.filter 196608
     let now := max s.clock (max pin.since s.sense.filters.aux[input] + time)
     let seen : Sense :=
       { s.sense with aux := s.sense.aux.set input active
                      filters := { s.sense.filters with aux := s.sense.filters.aux.set input now } }
     let changes := s.sense.aux[input] ≠ active
     (changes ∧ ∀ d, s.eng.step ≠ .awaiting input active d →
       exec (.auxChange input pin) s = .next ({ s with clock := now, sense := seen } : State).settle) ∧
     (changes ∧ StepUnderWay s n (.awaiting input active due) →
       exec (.auxChange input pin) s = .next
         ({ s with clock := now, sense := seen, eng := s.passed n } : State).settle) ∧
     (¬ changes →
       exec (.auxChange input pin) s = .next s)) ∧
  (∀ (input : Fin 2) (request : Request) (pin : RawPin) (s : State),
     (s.applied = false →
       exec (.auxChange input pin) s = .next s) ∧
     (s.released = false →
       exec (.requestChange request pin) s = .next s))

/-- The beginning of a RAIL_UP step sets the want mark. In ON the step completes. In RISING and SETTLING it waits
for the rail, or completes where it does not wait. A shed channel that is OFF or FALLING is deferred and the
step completes. Any other OFF or FALLING channel enters RISING with its rise timer, a monitored one whose PG is
already good passing on to SETTLING, or to ON where the settle time is 0; the step waits for ON, or completes
where it does not wait. Nothing else changes but what follows of itself. The beginning of a RAIL_DOWN step
clears the want mark. In OFF the step completes. In FAULT the channel goes to OFF, its fault kind and prior
state forgotten, and the step completes. In FALLING it waits for OFF, or completes where it does not wait. In
RISING, SETTLING and ON the channel enters FALLING with its fall timer, a monitored one whose PG is not-good
passing on to OFF at once; the step waits for OFF, or completes where it does not wait. That a step begins by a
command of its own is log entry 27. -/
def Obligations.RailStepsOrderTheirChannel : Prop :=
  (∀ (ch : Fin 12) (wait : Bool) (n : SlotName) (s : State),
     StepReady s n (.railUp ch wait) → (s.rail ch).order = none →
     let c := s.rail ch
     let e := s.railEntry ch
     let done (d : Channel) : State := { s with rails := s.rails.set ch d, eng := s.passed n }
     let waits (d : Channel) : State := { s with rails := s.rails.set ch d, eng := { s.beginning with step := .railWait ch } }
     let down := c.state = .off ∨ c.state = .falling
     let stays := e.timed = true ∨ c.pgGood = false
     let rising : Channel := { c with want := true, state := .rising, rise := some (s.clock + e.riseMs * 96000), settle := none, fall := none }
     let settling : Channel := { rising with state := .settling, rise := none, settle := some (s.clock + settleCounts e.settle) }
     (c.state = .on →
       exec (.railUp ch wait) s = .next (done { c with want := true }).settle) ∧
     ((c.state = .rising ∨ c.state = .settling) ∧ wait = true →
       exec (.railUp ch wait) s = .next (waits { c with want := true, order := some .enable }).settle) ∧
     ((c.state = .rising ∨ c.state = .settling) ∧ wait = false →
       exec (.railUp ch wait) s = .next (done { c with want := true }).settle) ∧
     (down ∧ c.shed = true →
       exec (.railUp ch wait) s = .next (done { c with want := true }).settle) ∧
     (down ∧ c.shed = false ∧ stays ∧ wait = true →
       exec (.railUp ch wait) s = .next (waits { rising with order := some .enable }).settle) ∧
     (down ∧ c.shed = false ∧ stays ∧ wait = false →
       exec (.railUp ch wait) s = .next (done rising).settle) ∧
     (down ∧ c.shed = false ∧ ¬ stays ∧ e.settle ≠ 0 ∧ wait = true →
       exec (.railUp ch wait) s = .next (waits { settling with order := some .enable }).settle) ∧
     (down ∧ c.shed = false ∧ ¬ stays ∧ e.settle ≠ 0 ∧ wait = false →
       exec (.railUp ch wait) s = .next (done settling).settle) ∧
     (down ∧ c.shed = false ∧ ¬ stays ∧ e.settle = 0 →
       exec (.railUp ch wait) s = .next (done { rising with state := .on, rise := none }).settle)) ∧
  (∀ (ch : Fin 12) (wait : Bool) (n : SlotName) (s : State),
     StepReady s n (.railDown ch wait) → (s.rail ch).order = none →
     let c := s.rail ch
     let e := s.railEntry ch
     let done (d : Channel) : State := { s with rails := s.rails.set ch d, eng := s.passed n }
     let waits (d : Channel) : State := { s with rails := s.rails.set ch d, eng := { s.beginning with step := .railWait ch } }
     let up := c.state = .rising ∨ c.state = .settling ∨ c.state = .on
     let stays := e.timed = true ∨ c.pgGood = true
     let falling : Channel := { c with want := false, state := .falling, rise := none, settle := none, fall := some (s.clock + e.fallMs * 96000) }
     (c.state = .off →
       exec (.railDown ch wait) s = .next (done { c with want := false }).settle) ∧
     (c.state = .fault →
       exec (.railDown ch wait) s = .next (done { c with want := false, state := .off, faultKind := none, prior := none }).settle) ∧
     (c.state = .falling ∧ wait = true →
       exec (.railDown ch wait) s = .next (waits { c with want := false, order := some .disable }).settle) ∧
     (c.state = .falling ∧ wait = false →
       exec (.railDown ch wait) s = .next (done { c with want := false }).settle) ∧
     (up ∧ stays ∧ wait = true →
       exec (.railDown ch wait) s = .next (waits { falling with order := some .disable }).settle) ∧
     (up ∧ stays ∧ wait = false →
       exec (.railDown ch wait) s = .next (done falling).settle) ∧
     (up ∧ ¬ stays →
       exec (.railDown ch wait) s = .next (done { falling with state := .off, fall := none }).settle))

/-- A RAIL_UP step whose channel is in FAULT fails with the channel's fault kind as its cause, its want mark set; an
AWAIT step fails with cause TIMEOUT at its expiry, which brings the clock to its time. The STEP_FAIL record
joins the queue, or is lost where the queue is full. An up sequence whose step says ABANDON ends, with its
lockouts set while their clearing requests are active; every other sequence goes on as after a completed step. A
RAIL_UP or RAIL_DOWN that fails while it waits is FaultIsRecordedAndHandedOn's. That the expiry brings the clock
to its time is log entry 5 (DESIGN CHOICE). -/
def Obligations.FailedStep : Prop :=
  ∀ (ch : Fin 12) (wait : Bool) (kind : FaultKind) (input : Fin 2) (active : Bool) (due : Nat) (n : SlotName) (st : Step) (s : State),
    s.currentStep = some st →
    let abandoned := n.isUp && st.abandon
    let queued (code target : Nat) (cause : FailCause) : Journal :=
      s.jnu.offered s.plan [⟨.stepFail n s.eng.index code target cause abandoned, s.boc.state, s.sense.uptime⟩]
    let after : Engine :=
      if abandoned then
        { s.eng with
          mode := .idle, slot := none, index := 0, step := .idle, quiesceHold := false, quietHold := false
          boardLock := if n = .boardUp then s.sense.runReq else s.eng.boardLock
          panelLock := s.sense.runReq && s.sense.panelReq }
      else s.passed n
    (StepReady s n (.railUp ch wait) ∧ (s.rail ch).state = .fault ∧ (s.rail ch).faultKind = some kind →
      exec (.railUp ch wait) s = .next
        ({ s with rails := s.rails.set ch { s.rail ch with want := true }
                  jnu := queued 1 ch.val (.fault kind), eng := after } : State).settle) ∧
    (StepUnderWay s n (.awaiting input active due) ∧ st.kind.code = 7 ∧ st.kind.target = input.val →
      exec .awaitTimeout s = .next
        ({ s with clock := max s.clock due, jnu := queued 7 input.val .timeout, eng := after } : State).settle)

/-- The beginning of a LINE step drives the line to its level and the step completes; the MAIN_RESET line going
active drops a pending fail report, and going inactive in IGNORE with an internal operation being issued or in
flight bars the next until RELAY. A LINE step that takes the MAIN_RESET line inactive with the board not DOWN,
while internal work begun in quiet is under way, sets the quiet hold and waits. The beginning of a LINE_PULSE
step drives its line active, sets the end of the pulse its width later, and keeps the quiet hold where the pulse
of the MAIN_RESET line will end quiet; it waits first where internal work begun in quiet is under way. The
expiry brings the clock to the end, drives the line inactive and completes the step. That the expiry brings the
clock to the end of the pulse is log entry 5 (DESIGN CHOICE). -/
def Obligations.LineStepsDriveTheirLine : Prop :=
  (∀ (ctl : Fin 6) (active : Bool) (n : SlotName) (s : State),
     StepReady s n (.line ctl active) →
     let waits := s.eng.board ≠ .down ∧ s.plan.mainLine = some ctl ∧ active = false ∧ s.jnu.work.any (fun w => w.whileQuiet) = true
     let bars := s.flb.mode == .ignore && (s.flb.issue.isSome || s.flb.inflight.isSome)
     let link (a : Bool) : Bridge :=
       if s.plan.mainLine = some ctl ∧ s.eng.lines[ctl] ≠ a then
         (if a then { s.flb with failReport := none, barred := false } else { s.flb with barred := bars })
       else s.flb
     (¬ waits →
       exec (.line ctl active) s = .next
         ({ s with
            eng := Engine.passed { s.eng with lines := s.eng.lines.set ctl active } n (s.plan.slotRange n).count
            flb := link active } : State).settle) ∧
     (waits →
       exec (.line ctl active) s = .next ({ s with eng := { s.eng with quietHold := true, step := .lineWait } } : State).settle)) ∧
  (∀ (ctl : Fin 6) (ms due : Nat) (n : SlotName) (s : State),
     let ends := s.eng.board ≠ .down ∧ s.plan.mainLine = some ctl
     let waits := ends ∧ s.jnu.work.any (fun w => w.whileQuiet) = true
     let bars := s.flb.mode == .ignore && (s.flb.issue.isSome || s.flb.inflight.isSome)
     let link (a : Bool) : Bridge :=
       if s.plan.mainLine = some ctl ∧ s.eng.lines[ctl] ≠ a then
         (if a then { s.flb with failReport := none, barred := false } else { s.flb with barred := bars })
       else s.flb
     (StepReady s n (.linePulse ctl ms) ∧ ¬ waits →
       exec (.linePulse ctl ms) s = .next
         ({ s with
            eng := { s.eng with lines := s.eng.lines.set ctl true, quietHold := decide ends, step := .pulsing ctl (s.clock + ms * 96000) }
            flb := link true } : State).settle) ∧
     (StepReady s n (.linePulse ctl ms) ∧ waits →
       exec (.linePulse ctl ms) s = .next ({ s with eng := { s.eng with quietHold := true, step := .lineWait } } : State).settle) ∧
     (StepUnderWay s n (.pulsing ctl due) →
       exec .linePulseExpiry s = .next
         ({ s with clock := max s.clock due
                   eng := { s.passed n with lines := s.eng.lines.set ctl false }
                   flb := link false } : State).settle))

/-- The beginning of a DELAY step sets its end its ms later; its expiry brings the clock there and completes the
step. The beginning of an AWAIT step completes it where the filtered AUX input has the named level, and
otherwise it waits until its timeout. The beginning of a DIM_LIMIT step sets the sequence cap, the Dimming Path
forms its target afresh (as CapChangesActAtOnce says), and the step completes. FLASH_QUIESCE sets the quiesce
hold; in TRIP and the descent sequences, or with nothing in flight, nothing parked and no requested tenure open,
it completes, and otherwise it waits for that. FLASH_RESUME releases the hold and completes. NOP completes. That
the DELAY's expiry brings the clock there is log entry 5 (DESIGN CHOICE). -/
def Obligations.OtherStepsRun : Prop :=
  (∀ (ms due value : Nat) (input : Fin 2) (active : Bool) (n : SlotName) (s : State),
     let capped : State := { s with eng := { s.eng with cap := value } }
     (StepReady s n (.delay ms) →
       exec (.delay ms) s = .next ({ s with eng := { s.beginning with step := .delaying (s.clock + ms * 96000) } } : State).settle) ∧
     (StepUnderWay s n (.delaying due) →
       exec .delayExpiry s = .next ({ s with clock := max s.clock due, eng := s.passed n } : State).settle) ∧
     (StepReady s n (.await input active ms) ∧ s.sense.aux[input] = active →
       exec (.await input active ms) s = .next ({ s with eng := s.passed n } : State).settle) ∧
     (StepReady s n (.await input active ms) ∧ s.sense.aux[input] ≠ active →
       exec (.await input active ms) s = .next
         ({ s with eng := { s.beginning with step := .awaiting input active (s.clock + ms * 96000) } } : State).settle) ∧
     (StepReady s n (.dimLimit value) →
       exec (.dimLimit value) s = .next
         ({ s with dpt := capped.retarget.dpt, eng := Engine.passed capped.eng n (s.plan.slotRange n).count } : State).settle)) ∧
  (∀ (n : SlotName) (s : State),
     let held : Engine := { s.eng with quiesceHold := true }
     let free := s.flb.inflight = none ∧ s.adu.parked = none ∧ ∀ t, s.flb.tenure = some t → t.owner = .internal
     let descends := n = .panelSwift ∨ n = .boardSwift ∨ n = .trip
     (StepReady s n .flashQuiesce ∧ (descends ∨ free) →
       exec .flashQuiesce s = .next ({ s with eng := held.passed n (s.plan.slotRange n).count } : State).settle) ∧
     (StepReady s n .flashQuiesce ∧ ¬ descends ∧ ¬ free →
       exec .flashQuiesce s = .next ({ s with eng := { held with quietHold := false, step := .linkWait } } : State).settle) ∧
     (StepReady s n .flashResume →
       exec .flashResume s = .next
         ({ s with eng := Engine.passed { s.eng with quiesceHold := false } n (s.plan.slotRange n).count } : State).settle) ∧
     (StepReady s n .nop →
       exec .nop s = .next ({ s with eng := s.passed n } : State).settle))

/-- With the plan applied and the engine IDLE, what it does next of itself: a TRIP claim begins TRIP (of origin RAIL
with both lockouts set); under the descent claim PANEL_SWIFT, then BOARD_SWIFT, then nothing; pending fault
claims are taken; then down work, PANEL_DOWN before BOARD_DOWN; then, in NORMAL, BOARD_UP before PANEL_UP;
otherwise nothing. A sequence that begins stands before its first step, its domain GOING_UP or GOING_DOWN, and
one without steps completes at once. BOARD_UP, where it would end quiet, sets the quiet hold and waits while
internal work begun in quiet is under way. What the engine does of itself is carried out within the event (log
entry 6), as SettleFollowsToTheEnd says. While RUNNING it ends its waits of itself: once the internal work begun
in quiet has ended, a waiting LINE step drives its line and completes, a LINE_PULSE begins its pulse, and a
waiting BOARD_UP begins in NORMAL and is given up outside it (log entry 22); once nothing is in flight, nothing
parked and no requested tenure open, a FLASH_QUIESCE step completes; until then, and in every other step, it
does nothing of itself. -/
def Obligations.EngineChoosesItsWork : Prop :=
  (∀ (s : State),
     s.applied = true → s.eng.mode = .idle →
     let e := s.eng
     let steps (n : SlotName) : Nat := (s.plan.slotRange n).count
     let begins (n : SlotName) : Option State := some { s with eng := e.begun n (steps n) }
     let tripped : Engine := { e with trip := none }
     let locked : Engine :=
       { tripped with boardLock := s.sense.runReq, panelLock := s.sense.runReq && s.sense.panelReq }
     let boardWanted := s.sense.runReq = true ∧ e.boardLock = false
     let panelWanted := s.sense.runReq = true ∧ s.sense.panelReq = true ∧ e.board = .up ∧ e.panelLock = false
     let claimed := e.claimBoard = true ∨ e.claimPanel = true
     let free := e.trip = none ∧ e.descent = false ∧ ¬ claimed
     let settled := free ∧ (e.panel ≠ .down → panelWanted) ∧ (e.board ≠ .down → boardWanted)
     let boardUp := settled ∧ s.boc.state = .normal ∧ e.board = .down ∧ boardWanted
     let held : Engine := { e with quietHold := true }
     (e.trip = some .rail →
       s.engineReact = some { s with eng := locked.begun .trip (steps .trip) }) ∧
     (e.trip = some .boc →
       s.engineReact = some { s with eng := tripped.begun .trip (steps .trip) }) ∧
     (e.trip = none ∧ e.descent = true ∧ e.panel ≠ .down →
       s.engineReact = begins .panelSwift) ∧
     (e.trip = none ∧ e.descent = true ∧ e.panel = .down ∧ e.board ≠ .down →
       s.engineReact = begins .boardSwift) ∧
     (e.trip = none ∧ e.descent = true ∧ e.panel = .down ∧ e.board = .down →
       s.engineReact = none) ∧
     (e.trip = none ∧ e.descent = false ∧ claimed →
       s.engineReact = some { s with eng := s.claimsTaken }) ∧
     (free ∧ e.panel ≠ .down ∧ ¬ panelWanted →
       s.engineReact = begins .panelDown) ∧
     (free ∧ e.panel ≠ .down ∧ e.board ≠ .down ∧ ¬ boardWanted →
       s.engineReact = begins .panelDown) ∧
     (free ∧ e.panel = .down ∧ e.board ≠ .down ∧ ¬ boardWanted →
       s.engineReact = begins .boardDown) ∧
     (boardUp ∧ s.mainActive = true →
       s.engineReact = begins .boardUp) ∧
     (boardUp ∧ s.mainActive = false ∧ s.internalWork = false →
       s.engineReact = some { s with eng := held.begun .boardUp (steps .boardUp) }) ∧
     (boardUp ∧ s.mainActive = false ∧ s.internalWork = true →
       s.engineReact =
         some { s with eng := { held with mode := .running, slot := some .boardUp, index := 0, step := .beginWait } }) ∧
     (settled ∧ s.boc.state = .normal ∧ e.board ≠ .down ∧ e.panel = .down ∧ panelWanted →
       s.engineReact = begins .panelUp) ∧
     (settled ∧ (s.boc.state ≠ .normal ∨ ((e.board = .down → ¬ boardWanted) ∧ (e.panel = .down → ¬ panelWanted)))
         →
       s.engineReact = none)) ∧
  (∀ (ctl : Fin 6) (active : Bool) (ms : Nat) (n : SlotName) (s : State),
     s.applied = true →
     let e := s.eng
     let working := s.jnu.work.any (fun w => w.whileQuiet) = true
     let free := s.flb.inflight = none ∧ s.adu.parked = none ∧ ∀ t, s.flb.tenure = some t → t.owner = .internal
     let kind (k : StepKind) := s.currentStep.map Step.kind = some k
     let count := (s.plan.slotRange n).count
     let driven (a : Bool) : Engine := { e with lines := e.lines.set ctl a }
     let bars := s.flb.mode == .ignore && (s.flb.issue.isSome || s.flb.inflight.isSome)
     let link (a : Bool) : Bridge :=
       if s.plan.mainLine = some ctl ∧ s.eng.lines[ctl] ≠ a then
         (if a then { s.flb with failReport := none, barred := false } else { s.flb with barred := bars })
       else s.flb
     let beginning := e.mode = .running ∧ e.slot = some .boardUp ∧ e.step = .beginWait
     (StepUnderWay s n .lineWait ∧ ¬ working ∧ kind (.line ctl active) →
       s.engineReact =
         some { s with eng := { s.passed n with lines := e.lines.set ctl active }, flb := link active }) ∧
     (StepUnderWay s n .lineWait ∧ ¬ working ∧ kind (.linePulse ctl ms) →
       s.engineReact =
         some { s with eng := { driven true with step := .pulsing ctl (s.clock + ms * 96000) }
                       flb := link true }) ∧
     (e.mode = .running ∧ (e.step = .lineWait ∨ e.step = .beginWait) ∧ working →
       s.engineReact = none) ∧
     (beginning ∧ ¬ working ∧ s.boc.state = .normal →
       s.engineReact = some { s with eng := e.begun .boardUp (s.plan.slotRange .boardUp).count }) ∧
     (beginning ∧ ¬ working ∧ s.boc.state ≠ .normal →
       s.engineReact =
         some { s with eng := { e with mode := .idle, slot := none, index := 0, step := .idle, quiesceHold := false
                                       quietHold := false } }) ∧
     (StepUnderWay s n .linkWait ∧ free →
       s.engineReact = some { s with eng := s.passed n }) ∧
     (e.mode = .running ∧ e.step = .linkWait ∧ ¬ free →
       s.engineReact = none) ∧
     (e.mode = .running ∧ e.step ≠ .lineWait ∧ e.step ≠ .beginWait ∧ e.step ≠ .linkWait →
       s.engineReact = none))

/-- At the boundary after a step (shown at the end of a DELAY, whatever its sequence; the ends of the other steps, a
RAIL_UP or RAIL_DOWN answered or failed, an AWAIT met or timed out, a LINE, a pulse, the end of a wait for quiet
or for the link, are stated with their steps, with this same boundary as State.passed): the pending fault claims
are taken, setting lockouts in INIT and NORMAL and discarded elsewhere; a down sequence, a descent sequence or
TRIP goes on with its next step or completes; an up sequence suspends outside NORMAL at the index of its next
step, is abandoned where its domain is no longer desired up (IDLE, the domain GOING_UP, the holds released) and
otherwise goes on. A SUSPENDED sequence is judged in NORMAL in the same way: it resumes at its kept step,
completes after the last, or is abandoned. The model's choices: the clock of the DELAY's end (log entry 5), and
a kept quiet hold released at the suspension (entry 42). -/
def Obligations.BoundariesJudgeTheSequence : Prop :=
  ∀ (n : SlotName) (due : Nat) (s : State),
    s.eng.slot = some n →
    let ends := s.eng.mode = .running ∧ s.eng.step = .delaying due
    let g : Engine := s.claimsTaken
    let desired :=
      match n with
      | .boardUp => s.sense.runReq && !g.boardLock
      | .panelUp => s.sense.runReq && s.sense.panelReq && g.board == .up && !g.panelLock
      | _ => true
    let normal := s.boc.state = .normal
    let count := (s.plan.slotRange n).count
    let after (e : Engine) : Host.Outcome State Fault Refusal := .next ({ s with clock := max s.clock due, eng := e } : State).settle
    let abandoned : Engine :=
      { g with mode := .idle, slot := none, index := 0, step := .idle, quiesceHold := false, quietHold := false }
    let judged := s.applied = true ∧ s.eng.mode = .suspended ∧ n.isUp = true ∧ normal ∧ s.eng.step = .idle
    (ends ∧ n.isUp = false →
      exec .delayExpiry s = after (g.passed n count)) ∧
    (ends ∧ n.isUp = true ∧ ¬ normal →
      exec .delayExpiry s =
        after { g with mode := .suspended, index := s.eng.index + 1, step := .idle, quietHold := false }) ∧
    (ends ∧ n.isUp = true ∧ normal ∧ desired = false →
      exec .delayExpiry s = after abandoned) ∧
    (ends ∧ n.isUp = true ∧ normal ∧ desired = true →
      exec .delayExpiry s = after (g.passed n count)) ∧
    (ends →
      exec .delayExpiry s = after (s.passed n)) ∧
    (judged ∧ desired = true ∧ s.eng.index < count →
      s.engineReact = some { s with eng := { g with mode := .running, step := .ready } }) ∧
    (judged ∧ desired = true ∧ count ≤ s.eng.index →
      s.engineReact = some { s with eng := { abandoned with
        board := if n = .boardUp ∧ g.board = .goingUp then .up else g.board
        panel := if n = .panelUp ∧ g.panel = .goingUp then .up else g.panel } }) ∧
    (judged ∧ desired = false →
      s.engineReact = some { s with eng := abandoned })

/-- Where the next step of BOARD_UP or PANEL_UP is to begin and the controller is in DIP or RECOVER, or in COMMIT
with an operation in flight, its command, of every kind, suspends the sequence: it keeps its slot, its index and
its quiesce hold and orders nothing; at a boundary after a step the pending fault claims are discarded with no
lockout set, and before the first step they stay. The model's choices: the step's command judges the boundary
again, and suspends even before the first step (log entry 27, DESIGN CHOICE); a quiet hold that the beginning
set is released (entry 42). -/
def Obligations.UpSequenceSuspendsOutsideNormal : Prop :=
  ∀ (k : StepKind) (n : SlotName) (s : State),
    s.applied = true → s.eng.mode = .running → s.eng.slot = some n → n.isUp = true → s.eng.step = .ready →
    s.currentStep.map Step.kind = some k →
    (s.boc.state = .dip ∨ s.boc.state = .recover ∨ (s.boc.state = .commit ∧ s.flb.inflight ≠ none)) →
    ∃ t, exec k.command s = .next t ∧ t.eng.mode = .suspended ∧ t.eng.slot = some n ∧ t.eng.index = s.eng.index ∧ t.eng.step = .idle ∧
        t.eng.quiesceHold = s.eng.quiesceHold ∧ t.eng.quietHold = false ∧ t.eng.lines = s.eng.lines ∧ t.eng.cap = s.eng.cap ∧
        t.eng.board = s.eng.board ∧ t.eng.panel = s.eng.panel ∧ t.eng.boardLock = s.eng.boardLock ∧
        t.eng.panelLock = s.eng.panelLock ∧ t.eng.claimBoard = (s.eng.claimBoard && s.eng.index == 0) ∧
        t.eng.claimPanel = (s.eng.claimPanel && s.eng.index == 0) ∧ t.rails = s.rails ∧ t.dpt = s.dpt

/-- When the target is formed afresh: above the applied cap it starts the ramp timer, 10 ms, unless it runs; equal
to it, it stops the timer; below it, the applied cap falls to it at once and the timer stops. Then in WAITING
nothing else changes; in a steady state DIM_OUT is low with duty 0; in a period the duty in force becomes the
smaller of the last measured duty and the applied cap, and a high time in progress becomes that of the new duty,
counted from the period start, or ends where that is past. Where the cap has risen earlier in the period that
high time may be the longer one (log entry 16); the fall of the shed level at the rearm starts the ramp like any
other (entry 44). -/
def Obligations.CapChangesActAtOnce : Prop :=
  ∀ (s : State),
    s.dpt.applied ≤ 1000 →
    let t := min s.eng.cap (match s.boc.shedLevel with
      | 0 => 1000
      | 1 => s.plan.cap1
      | 2 => s.plan.cap2
      | _ => 0)
    let fallen : Dimming := { s.dpt with applied := t, ramp := none }
    let duty := min s.sense.dim.duty t
    let until_ := s.sense.dim.start.getD s.clock + duty * s.sense.dim.period.getD 0 / 1000
    let cut := t < s.dpt.applied ∧ s.sense.dim.state = .periodic
    (s.dpt.applied < t →
      s.retarget = { s with dpt := { s.dpt with ramp := some (s.dpt.ramp.getD (s.clock + 960000)) } }) ∧
    (s.dpt.applied = t →
      s.retarget = { s with dpt := { s.dpt with ramp := none } }) ∧
    (t < s.dpt.applied ∧ s.sense.dim.state = .waiting →
      s.retarget = { s with dpt := fallen }) ∧
    (t < s.dpt.applied ∧ (s.sense.dim.state = .steadyLow ∨ s.sense.dim.state = .steadyHigh) →
      s.retarget = { s with dpt := { fallen with duty := 0, outHigh := false, highEnd := none } }) ∧
    (cut ∧ s.dpt.outHigh = false →
      s.retarget = { s with dpt := { fallen with duty := duty } }) ∧
    (cut ∧ s.dpt.outHigh = true ∧ s.clock < until_ →
      s.retarget = { s with dpt := { fallen with duty := duty, highEnd := some until_ } }) ∧
    (cut ∧ s.dpt.outHigh = true ∧ until_ ≤ s.clock →
      s.retarget = { s with dpt := { fallen with duty := duty, outHigh := false, highEnd := none } })

/-- DIM_IN_RISING_EDGE, DIM_IN_FALLING_EDGE, DIM_IN_STEADY, DIM_OUT_HIGH_TIME_END and RAMP_EXPIRY, with part reset
released: a rising edge in WAITING with no period start keeps one; with a period start kept, or in PERIODIC, it
measures the period and the duty and fixes the duty in force, the smaller of the measured duty and the applied
cap, with DIM_OUT low at 0, high at 1,000 and otherwise high for its high time; out of a steady state it begins
WAITING with DIM_OUT low. A falling edge is kept, or ends a steady state. 20 ms after the last edge the steady
state of the level is entered, and DIM_OUT is high only for a high level under an applied cap of 1,000. The end
of the high time drives DIM_OUT low. A ramp expiry raises the applied cap by the ramp step, not above the
target, and goes on 10 ms later until it is reached. The model's choices: the clock brought to the expiry or the
steady moment (log entry 5), an edge given late standing for the present count (entry 35), a period of 0 counts
measuring a duty of 0 (entry 43), and a high time of 0 counts ended by DIM_OUT_HIGH_TIME_END (entry 53). -/
def Obligations.DimmingFollowsDimIn : Prop :=
  ∀ (at_ due start : Nat) (s : State),
    s.released = true →
    let m := s.sense.dim
    let now := max s.clock at_
    let up : DimIn := { m with high := true, lastEdge := now }
    let down : DimIn := { m with high := false, lastEdge := now }
    let dark : Dimming := { s.dpt with duty := 0, outHigh := false, highEnd := none }
    let lit : Dimming := { s.dpt with duty := 1000, outHigh := true, highEnd := none }
    let steady := m.state = .steadyLow ∨ m.state = .steadyHigh
    let period := now - start
    let duty := 1000 * (m.fall.getD now - start) / period
    let inForce := min duty s.dpt.applied
    let fixed : Dimming :=
      if inForce = 0 then dark else if inForce = 1000 then lit
      else { s.dpt with duty := inForce, outHigh := true, highEnd := some (now + inForce * period / 1000) }
    let held := max s.clock (m.lastEdge + 1920000)
    let target := min s.eng.cap (s.plan.shedCap s.boc.shedLevel)
    let raised := min target (s.dpt.applied + s.plan.ramp)
    let ramped (d : Dimming) : Dimming :=
      { d with applied := raised, ramp := if raised = target then none else some (due + 960000) }
    let after (clock : Nat) (d : DimIn) (o : Dimming) : Host.Outcome State Fault Refusal :=
      .next { s with clock := clock, sense := { s.sense with dim := d }, dpt := o }
    (m.high = false ∧ m.state = .waiting ∧ m.start = none →
      exec (.dimInRisingEdge at_) s = after now { up with start := some now, fall := none } s.dpt) ∧
    (m.high = false ∧ (m.state = .waiting ∨ m.state = .periodic) ∧ m.start = some start →
      exec (.dimInRisingEdge at_) s =
        after now { up with state := .periodic, start := some now, fall := none, period := some period, duty := duty } fixed) ∧
    (m.high = false ∧ steady →
      exec (.dimInRisingEdge at_) s = after now { up with state := .waiting, start := some now, fall := none } dark) ∧
    (m.high = true ∧ ¬ steady →
      exec (.dimInFallingEdge at_) s = after now { down with fall := some now } s.dpt) ∧
    (m.high = true ∧ steady →
      exec (.dimInFallingEdge at_) s = after now { down with state := .waiting, start := none, fall := none } dark) ∧
    (¬ steady →
      exec .dimInSteady s =
        after held { m with state := if m.high then .steadyHigh else .steadyLow, start := none, fall := none, period := none
                            duty := if m.high then 1000 else 0 }
          (if m.high = true ∧ s.dpt.applied = 1000 then lit else dark)) ∧
    (s.dpt.outHigh = true ∧ s.dpt.highEnd = some due →
      exec .dimOutHighTimeEnd s = after (max s.clock due) m { s.dpt with outHigh := false, highEnd := none }) ∧
    (s.dpt.ramp = some due ∧ ¬ steady →
      exec .rampExpiry s = after (max s.clock due) m (ramped s.dpt)) ∧
    (s.dpt.ramp = some due ∧ steady →
      exec .rampExpiry s = after (max s.clock due) m (ramped (if m.state = .steadyHigh ∧ raised = 1000 then lit else dark)))

/-- READ, STATUS_READ, WRITE_ENABLE, WRITE_DISABLE, OTHER_PASS and CUT_TRANSACTION in RELAY, with no transaction in
progress or one begun there whose eighth bit has not come: the assertion of U_CSN begins a transaction through
the closed switch; an opcode whose class is not buffered opens a transaction that is relayed through the closed
switch, and drops a pending fail report; only a status read with a fail report pending is answered by the part,
the last status byte with busy and latch 0 and the report's bit 1, and its end takes the report. A transaction
cut before its eighth bit leaves nothing behind it. A whole transaction is its assertion, its opening and its
closing. The model's choices: a command of another class than its opcode's changes nothing (log entries 4 and
9), and the split of a transaction into assertion, opening and closing (entry 8). -/
def Obligations.RelayedTransactions : Prop :=
  ∀ (cls : FlashClass) (opcode : Byte) (bit : Fin 8) (bytes : List Byte) (s : State),
    s.released = true → (s.flb.xfer = none ∨ s.flb.xfer = some (.selected true)) → s.flb.mode = .relay →
    s.flb.tenure = none →
    let c := s.plan.classOf opcode
    let opened : State := { s with flb := { s.flb with xfer := some (.relayed opcode), uOut := .relayed, failReport := none } }
    let answered : State :=
      { s with flb := { s.flb with xfer := some (.failAnswer opcode)
                                   uOut := .status ((s.flb.lastStatus &&& 0xFC) ||| (1 <<< bit.val)) c.dataLanes } }
    let closed (t : State) (report : Option (Fin 8)) : State := { t with flb := { t.flb with xfer := none, failReport := report } }
    let passes := c.cls = cls ∧ cls.buffered = false ∧ ¬ (cls = .statusRead ∧ s.flb.failReport ≠ none)
    let fresh := s.flb.xfer = none
    let asserted : State := { s with flb := { s.flb with xfer := some (.selected true), uOut := .relayed } }
    (passes →
      exec (cls.event .opening opcode bytes) s = .next opened ∧ opened.relayClosed = true) ∧
    (fresh ∧ passes →
      exec (cls.event .whole opcode bytes) s = .next (closed opened none).settle) ∧
    (c.cls = .statusRead ∧ s.flb.failReport = some bit →
      exec (.statusRead .opening opcode) s = .next answered ∧ answered.relayClosed = false) ∧
    (c.cls = .statusRead ∧ s.flb.failReport = some bit ∧ fresh →
      exec (.statusRead .whole opcode) s = .next (closed answered none).settle) ∧
    (c.cls ≠ cls →
      exec (cls.event .opening opcode bytes) s = .next s) ∧
    (fresh →
      exec (cls.event .asserted opcode bytes) s = .next asserted ∧ exec (.cutTransaction .asserted) s = .next asserted ∧
        exec (.cutTransaction .opening) s = .next asserted ∧ asserted.relayClosed = true) ∧
    (fresh →
      exec (.cutTransaction .whole) s = .next (closed asserted s.flb.failReport).settle) ∧
    (¬ fresh →
      exec (.cutTransaction .closing) s = .next (closed s s.flb.failReport).settle ∧
        exec (cls.event .asserted opcode bytes) s = .next s)

/-- The eleven classes of transaction. With a tenure open and the MAIN_RESET line inactive, a status read is
answered with the last status byte, busy and latch 1; any other class is answered with ones (a read, from the
end of the entry's address bytes) or not at all, and a LINK_VIOLATION record with the tenure's owner and phase
and the operation in flight joins the queue or is lost; the tenure goes on. In IGNORE, and under a tenure with
the line active, the bridge takes no part. The answer stands on the entry's data lanes, most significant bits
first and repeated; the switch is open throughout. The end of each changes nothing but the transaction. A
command of another class than its opcode's is no event, and a transaction is given by its assertion, opening and
closing (log entries 8 and 9); one begun under a tenure that closes before its eighth bit is ignored (entry 61);
an answer under way when the line goes active goes on (entry 46). -/
def Obligations.TransactionsUnderATenure : Prop :=
  ∀ (cls : FlashClass) (opcode : Byte) (bytes : List Byte) (ten : Tenure) (passed : Bool) (clock : Nat) (s : State),
    s.released = true → (s.flb.xfer = none ∨ s.flb.xfer = some (.selected passed)) →
    let c := s.plan.classOf opcode
    let under := s.flb.mode = .tenure ∧ s.flb.tenure = some ten ∧ s.mainActive = false ∧ c.cls = cls
    let record : Record :=
      ⟨.linkViolation opcode cls ten.owner ten.phase (s.flb.inflight.map fun f => f.op), s.boc.state, s.sense.uptime⟩
    let answered (x : Xfer) (out : UOut) : Bridge := { s.flb with xfer := some x, uOut := out }
    let closed := s.flb.mode = .relay ∧ s.flb.xfer = some (.selected false)
    let off := s.flb.mode = .ignore ∨ s.flb.mode = .tenure
    let levels (on : Fin 4 → Bool) (bit : Fin 4 → Bool) : Vector PinLevel 4 :=
      Vector.ofFn fun lane => if on lane then (if bit lane then .high else .low) else .undriven
    let busy : Byte := s.flb.lastStatus ||| 3
    (under ∧ cls = .statusRead →
      exec (cls.event .opening opcode bytes) s = .next
        { s with flb := answered (.localAnswer opcode) (.status (s.flb.lastStatus ||| 3) c.dataLanes) }) ∧
    (under ∧ cls ≠ .statusRead →
      exec (cls.event .opening opcode bytes) s = .next
        ({ s with jnu := s.jnu.offered s.plan [record]
                  flb := answered (.violation opcode) (if cls = .read then .allOnes c.addrBytes c.addrLanes c.dataLanes else .undriven) } : State).settle) ∧
    (s.flb.mode = .ignore ∨ (s.flb.mode = .tenure ∧ s.mainActive = true) ∨ closed →
      exec (cls.event .opening opcode bytes) s = .next { s with flb := answered (.ignored opcode) .undriven }) ∧
    (under →
      ∀ x ∈ [Xfer.localAnswer opcode, .violation opcode, .ignored opcode],
        exec (cls.event .closing opcode bytes) { s with flb := { s.flb with xfer := some x } } =
          .next ({ s with flb := { s.flb with xfer := none } } : State).settle) ∧
    (off ∧ s.flb.xfer = none →
      exec (cls.event .asserted opcode bytes) s = .next { s with flb := answered (.selected false) .undriven }) ∧
    (off ∧ s.flb.xfer = none →
      s.relayClosed = false ∧ s.uioPins clock = some (Vector.replicate 4 .undriven)) ∧
    (closed →
      s.relayClosed = false) ∧
    (under ∧ cls = .statusRead ∧ c.dataLanes ∈ [1, 2, 4] →
      ({ s with flb := answered (.localAnswer opcode) (.status busy c.dataLanes) } : State).uioPins clock =
        some (levels (fun lane => decide (lane.val < c.dataLanes)) fun lane =>
          busy.getLsbD (8 - c.dataLanes * (clock % (8 / c.dataLanes) + 1) + lane.val))) ∧
    (under ∧ cls = .read →
      ({ s with flb := answered (.violation opcode) (.allOnes c.addrBytes c.addrLanes c.dataLanes) } : State).uioPins clock =
        some (levels (fun lane => decide (c.addrBytes * 8 / c.addrLanes ≤ clock ∧ lane.val < c.dataLanes)) fun _ => true))

/-- PROGRAM, ERASE_SECTOR, ERASE_BLOCK, ERASE_DEVICE, REG_WRITE and OTHER_BLOCK: in RELAY the opcode of a buffered
class opens an intake. At its end a command with missing address bytes, or a PROGRAM with no data byte, is
dropped. Every other opens a tenure of owner REQUESTED (a clipped one is recorded); the decision table gives its
fate: admitted, it is issued with its address and at most 256 data bytes; parked, it holds the slot with the
hold timer running; refused, its REFUSAL record joins the queue or is lost, and write-disable is sent for it.
The model's choices: the end of the D-link transactions (log entry 17), and that a CLIPPED record goes before a
REFUSAL record of the same event (entry 47). -/
def Obligations.BufferedCommandTakesItsFate : Prop :=
  ∀ (cls : FlashClass) (op : OpClass) (opcode : Byte) (bytes : List Byte) (begun : Word32) (reason : RefusalReason) (s : State),
    s.released = true → cls.buffered = true → (s.plan.classOf opcode).cls = cls → s.flb.mode = .relay →
    s.flb.tenure = none → s.adu.parked = none →
    let c := s.plan.classOf opcode
    let data := bytes.drop c.addrBytes
    let address := beNat (bytes.take c.addrBytes)
    let range := s.plan.affectedRange cls address
    let policy := s.effectivePolicy cls range
    let command : Command :=
      { opcode := opcode, cls := cls, addrBytes := c.addrBytes, addrLanes := c.addrLanes, dataLanes := c.dataLanes
        address := address, data := if cls = .program ∨ cls = .regWrite then data.take 256 else []
        clocked := min 65535 data.length, begun := begun, range := range, policy := policy.1, source := policy.2 }
    let clipped : List Record :=
      if (cls = .program ∨ cls = .regWrite) ∧ 256 < data.length then [⟨.clipped command, s.boc.state, s.sense.uptime⟩] else []
    let fate := decide153 cls policy.1 s.boc.state s.eng.quiesceHold (covered s.adu.latest cls)
    let tenure (p : Phase) : Option Tenure := some ⟨.requested, some command, p, 0, false⟩
    let received := s.flb.xfer = some (.intake opcode cls begun)
    let dropped := bytes.length < c.addrBytes ∨ (cls = .program ∧ bytes.length = c.addrBytes)
    let refusal : Record := ⟨.refusal reason command false 0 s.adu.latest, s.boc.state, s.sense.uptime⟩
    let issue : Issue :=
      { op := op, origin := .requested, range := range, opcode := opcode, addrBytes := c.addrBytes, addrLanes := c.addrLanes
        dataLanes := c.dataLanes, address := address, data := command.data, admitted := s.sense.uptime }
    let clocks := 16 + c.addrBytes * 8 / c.addrLanes + command.data.length * 8 / c.dataLanes
    (s.flb.xfer = none ∨ s.flb.xfer = some (.selected true) →
      exec (cls.event .opening opcode bytes) s = .next
        { s with flb := { s.flb with xfer := some (.intake opcode cls s.sense.uptime), uOut := .undriven, failReport := none } }) ∧
    (received ∧ dropped →
      exec (cls.event .closing opcode bytes) s = .next ({ s with flb := { s.flb with xfer := none } } : State).settle) ∧
    (received ∧ ¬ dropped ∧ fate = .admitted ∧ cls.op = some op →
      exec (cls.event .closing opcode bytes) s = .next
        ({ s with
           jnu := s.jnu.offered s.plan clipped
           flb := { s.flb with xfer := none, mode := .tenure, tenure := tenure .issuing, issue := some issue
                               dlinkDue := some (s.clock + clocks * (s.plan.div + 1)) } } : State).settle) ∧
    (received ∧ ¬ dropped ∧ fate = .park →
      exec (cls.event .closing opcode bytes) s = .next
        ({ s with
           jnu := s.jnu.offered s.plan clipped
           flb := { s.flb with xfer := none, mode := .tenure, tenure := tenure .parked }
           adu := { s.adu with parked := some ⟨command, s.sense.uptime⟩
                               hold := some (s.clock + s.plan.holdLimitMs * 96000) } } : State).settle) ∧
    (received ∧ ¬ dropped ∧ fate = .refuse reason →
      exec (cls.event .closing opcode bytes) s = .next
        ({ s with
           jnu := s.jnu.offered s.plan (clipped ++ [refusal])
           flb := { s.flb with xfer := none, mode := .tenure, tenure := tenure .refusing
                               dlinkDue := some (s.clock + 8 * (s.plan.div + 1)), reportless := false }
           adu := { s.adu with hold := none } } : State).settle)

/-- The Admission Unit keeps the reserve and admission costs offered, and with the slot empty nothing else changes.
With a GUARDED command parked in DIP or RECOVER whose admission cost is at most the reserve, the slot empties
and the command is issued; otherwise it stays parked. The hold timer's expiry refuses the parked command with
reason HOLD_EXPIRED, its record saying how long it was parked, and write-disable is sent for it, with no fail
report to come where the MAIN_RESET line is active. The model's choices: the end of the D-link transactions (log
entry 17), and the clock brought to the expiry (entry 5). -/
def Obligations.ParkedCommandIsLetGoOrRefused : Prop :=
  ∀ (b : Budget) (p : Parked) (op : OpClass) (ten : Tenure) (due : Nat) (s : State),
    let c := p.command
    let offered := s.sense.aduOffer = true ∧ s.hbu = some b
    let parked := p.command.cls.op = some op ∧ s.adu.parked = some p ∧ s.flb.tenure = some ten
    let taken : Sense := { s.sense with aduOffer := false }
    let lets := (s.boc.state = .dip ∨ s.boc.state = .recover) ∧ c.policy = some .guarded ∧ (b.aCost.at op : Int) ≤ b.reserve
    let latest : AduBudget := ⟨b.reserve, b.aCost⟩
    let clocks := 16 + c.addrBytes * 8 / c.addrLanes + c.data.length * 8 / c.dataLanes
    let issue : Issue :=
      { op := op, origin := .requested, range := c.range, opcode := c.opcode, addrBytes := c.addrBytes, addrLanes := c.addrLanes
        dataLanes := c.dataLanes, address := c.address, data := c.data, admitted := s.sense.uptime }
    let refusal : Record :=
      ⟨.refusal .holdExpired c true (min 65535 (s.sense.uptime - p.since).toNat) s.adu.latest, s.boc.state, s.sense.uptime⟩
    (offered ∧ s.adu.parked = none →
      exec .aduComputation s = .next ({ s with sense := taken, adu := { s.adu with latest := some latest } } : State).settle) ∧
    (parked ∧ offered ∧ lets →
      exec .aduComputation s = .next
        ({ s with
           sense := taken, adu := ⟨none, none, some latest⟩
           flb := { s.flb with tenure := some { ten with phase := .issuing }, issue := some issue
                               dlinkDue := some (s.clock + clocks * (s.plan.div + 1)) } } : State).settle) ∧
    (parked ∧ offered ∧ ¬ lets →
      exec .aduComputation s = .next ({ s with sense := taken, adu := { s.adu with latest := some latest } } : State).settle) ∧
    (parked ∧ s.adu.hold = some due →
      exec .holdTimerExpiry s = .next
        ({ s with
           clock := max s.clock due, jnu := s.jnu.offered s.plan [refusal], adu := { s.adu with parked := none, hold := none }
           flb := { s.flb with tenure := some { ten with phase := .refusing }
                               dlinkDue := some (max s.clock due + 8 * (s.plan.div + 1)), reportless := s.mainActive } } : State).settle)

/-- OTHER_BLOCK is refused BLOCKED; LOCKED and RESERVED are refused with those reasons in every state; any other
policy is refused COMMIT in INIT, COMMIT, DESCENT and DARK and QUIESCED under the quiesce hold; in NORMAL it is
admitted; in DIP and RECOVER FREE is admitted, GUARDED admitted where the reserve covers it and parked where
not, and DEFERRED parked. -/
def Obligations.DecisionTable : Prop :=
  ∀ (cls : FlashClass) (p : Policy) (boc : BocState) (quiesce cover : Bool),
    let open_ := cls ≠ .otherBlock ∧ p ≠ .locked ∧ p ≠ .reserved
    let riding := boc = .dip ∨ boc = .recover
    (cls = .otherBlock →
      ∀ q, decide153 cls q boc quiesce cover = .refuse .blocked) ∧
    (cls ≠ .otherBlock ∧ p = .locked →
      decide153 cls (some p) boc quiesce cover = .refuse .locked) ∧
    (cls ≠ .otherBlock ∧ p = .reserved →
      decide153 cls (some p) boc quiesce cover = .refuse .reserved) ∧
    (open_ ∧ (boc = .init ∨ boc.committed = true) →
      decide153 cls (some p) boc quiesce cover = .refuse .commit) ∧
    (open_ ∧ (boc = .normal ∨ riding) ∧ quiesce = true →
      decide153 cls (some p) boc quiesce cover = .refuse .quiesced) ∧
    (open_ ∧ boc = .normal ∧ quiesce = false →
      decide153 cls (some p) boc quiesce cover = .admitted) ∧
    (open_ ∧ riding ∧ quiesce = false ∧ (p = .free ∨ (p = .guarded ∧ cover = true)) →
      decide153 cls (some p) boc quiesce cover = .admitted) ∧
    (open_ ∧ riding ∧ quiesce = false ∧ (p = .deferred ∨ (p = .guarded ∧ cover = false)) →
      decide153 cls (some p) boc quiesce cover = .park)

/-- For every program or erase, its effective policy ranks at least as restrictive as the policy of every region
that shares an address with its affected range (of every region, for a whole-device erase). So a range that
touches the locked plan region is governed by LOCKED and refused in every state. For a PROGRAM, ERASE_SECTOR or
ERASE_BLOCK the policies of the regions that share an address with the range count, and default_policy where
some address of the range lies in no region; for an ERASE_DEVICE those of every region and default_policy. The
effective policy is one of those that count, of the lowest rank among them, and the deciding source is the first
of that rank in the order plan region, journal region, windows from 0 on, default_policy. A REG_WRITE has
reg_write_policy, an OTHER_BLOCK none. The regions are the plan region of 16 KiB by the strap value, LOCKED with
a flash plan's lock flag unless the unlock strap was held and else GUARDED; the journal region, RESERVED, where
the plan has a journal; and the windows in use. The affected range of a PROGRAM, ERASE_SECTOR or ERASE_BLOCK is
the page, sector or block that holds the address, of an ERASE_DEVICE the whole flash, of any other class none. -/
def Obligations.MostRestrictivePolicyGoverns : Prop :=
  (∀ (cls : FlashClass) (start len : Nat) (q : Policy) (src : Source) (boc : BocState) (quiesce cover : Bool) (s : State),
     (cls = .program ∨ cls = .eraseSector ∨ cls = .eraseBlock ∨ cls = .eraseDevice) →
     (s.effectivePolicy cls (.span start len) = (some q, src) →
       (∀ r ∈ s.regions, r.touches start len = true → q.rank ≤ r.policy.rank) ∧
         (s.planRegionLocked = true → s.planRegion.touches start len = true →
           decide153 cls (some q) boc quiesce cover = .refuse .locked)) ∧
     (s.effectivePolicy cls .device = (some q, src) →
       (∀ r ∈ s.regions, q.rank ≤ r.policy.rank) ∧ q.rank ≤ s.plan.defaultPolicy.rank ∧
         (s.planRegionLocked = true → decide153 cls (some q) boc quiesce cover = .refuse .locked))) ∧
  (∀ (cls : FlashClass) (start len address : Nat) (range : Range) (r : Region) (s : State),
     0 < len →
     let ranged := cls = .program ∨ cls = .eraseSector ∨ cls = .eraseBlock
     let place (source : Source) : Nat :=
       match source with
       | .planRegion => 0
       | .journalRegion => 1
       | .window i => 2 + i
       | _ => 2 + s.plan.windows.length
     let touched (x : Region) : Bool := decide (x.base < start + len) && decide (start < x.base + x.len)
     let uncovered := ∃ a < start + len, start ≤ a ∧ ∀ x ∈ s.regions, ¬ (x.base ≤ a ∧ a < x.base + x.len)
     let byDefault : Option Policy × Source := (some s.plan.defaultPolicy, .default)
     let spanned := s.effectivePolicy cls (.span start len)
     let whole := s.effectivePolicy cls .device
     let decides (e : Option Policy × Source) (q : Policy) (source : Source) :=
       e.1.any (fun p => decide (p.rank < q.rank ∨ (p.rank = q.rank ∧ place e.2 ≤ place source))) = true
     let locked := s.load.source = some .flash ∧ s.plan.lockFlag = true ∧ s.load.unlockHeld = false
     let aligned (log : Nat) : Range := .span (address - address % 2 ^ log) (2 ^ log)
     (ranged →
       ((∃ x ∈ s.regions, touched x = true ∧ spanned = (some x.policy, x.source)) ∨ (uncovered ∧ spanned = byDefault)) ∧
         (∀ x ∈ s.regions, touched x = true → decides spanned x.policy x.source) ∧
         (uncovered → decides spanned s.plan.defaultPolicy .default)) ∧
     (cls = .eraseDevice →
       ((∃ x ∈ s.regions, whole = (some x.policy, x.source)) ∨ whole = byDefault) ∧
         (∀ x ∈ s.regions, decides whole x.policy x.source) ∧ decides whole s.plan.defaultPolicy .default) ∧
     (cls = .regWrite →
       s.effectivePolicy cls range = (some s.plan.regWritePolicy, .regWritePolicy)) ∧
     (cls = .otherBlock →
       s.effectivePolicy cls range = (none, .none)) ∧
     (r ∈ s.regions ↔
           r = ⟨.planRegion, if locked then .locked else .guarded, 2 ^ s.load.strap.toNat * 0x100000 - 0x4000, 0x4000⟩ ∨
           (s.plan.sectorCount ≠ 0 ∧
             r = ⟨.journalRegion, .reserved, s.plan.journalBase, s.plan.sectorCount * 2 ^ s.plan.sectorLog⟩) ∨
           ∃ i < s.plan.windows.length, ∃ w ∈ s.plan.windows[i]?, ∃ q ∈ w.policy, r = ⟨.window i, q, w.base, 2 ^ w.sizeLog⟩) ∧
     (s.plan.affectedRange cls address =
           match cls with
           | .program => aligned s.plan.pageLog
           | .eraseSector => aligned s.plan.sectorLog
           | .eraseBlock => aligned s.plan.blockLog
           | .eraseDevice => .device
           | _ => .none))

/-- When a command has been issued, its in-flight record is created, ISSUED, with the class's times and neither
mark; the first poll is due a typical time later and an open tenure is OPERATING, its buffered command
discarded. A poll begins when due and sets the next one poll interval later. An operation past its maximum time
is marked OVERRUN, once. At the end of REFUSING the fail report is set, where the plan names a bit, the
MAIN_RESET line is inactive and the refusal was not taken from the parked slot with the line active, and the
tenure closes, to RELAY or, with the line active, IGNORE. The model's choices: the clock brought to the poll's
and the OVERRUN's time (log entries 5 and 33), COMMAND_ISSUED at the present clock (entry 18), and OVERRUN on a
marked operation changing nothing (entry 4). -/
def Obligations.BridgeRunsItsOperation : Prop :=
  ∀ (i : Issue) (f : InFlight) (ten : Tenure) (due : Nat) (bit : Fin 8) (s : State),
    let created : InFlight :=
      { op := i.op, origin := i.origin, range := i.range, admitted := i.admitted, typ := s.plan.typTime.at i.op
        max := s.plan.maxTime.at i.op, created := s.clock, overrun := false, atRisk := false }
    let refusing := s.flb.tenure = some ten ∧ ten.phase = .refusing
    let ended (report : Option (Fin 8)) : Bridge :=
      { s.flb with dlinkDue := none, tenure := none, mode := if s.mainActive then .ignore else .relay, failReport := report
                   reportless := false }
    (s.flb.issue = some i →
      exec .commandIssued s = .next
        ({ s with
           flb := { s.flb with issue := none, dlinkDue := none, inflight := some created
                               nextPoll := some (s.clock + s.plan.typTime.at i.op * 9600)
                               tenure := s.flb.tenure.map fun t => { t with phase := .operating, command := none } } } : State).settle) ∧
    (s.flb.inflight = some f ∧ s.flb.poll = .idle ∧ s.flb.nextPoll = some due →
      exec .flashPollStart s = .next
        { s with clock := max s.clock due
                 flb := { s.flb with poll := .live, nextPoll := some (max s.clock due + s.plan.pollUs * 96) } }) ∧
    (s.flb.inflight = some f ∧ f.overrun = false →
      exec .overrun s = .next
        ({ s with clock := max s.clock (f.created + f.max * 9600)
                  flb := { s.flb with inflight := some { f with overrun := true } } } : State).settle) ∧
    (s.flb.inflight = some f ∧ f.overrun = true →
      exec .overrun s = .next s) ∧
    (refusing ∧ s.flb.reportless = false ∧ s.plan.failBit = bit.val ∧ s.mainActive = false →
      exec .refusingWriteDisableEnd s = .next ({ s with flb := ended (some bit) } : State).settle) ∧
    (refusing ∧ (s.flb.reportless = true ∨ s.plan.failBit = 8 ∨ s.mainActive = true) →
      exec .refusingWriteDisableEnd s = .next ({ s with flb := ended s.flb.failReport } : State).settle)

/-- FLASH_POLL_COMPLETE and FLASH_STUCK. A poll's byte is kept as the last status byte. Busy: the operation goes on;
a poll begun before it ended has no other effect. Ready: the operation is COMPLETE, its record discarded. In a
requested tenure, after the requested operation (allowance: the plan's programs, and one erase-ahead after an
erase) and again after each operation appended (allowance: what is left), the tenure closes outside NORMAL,
under the quiet hold, with journal work under way, and where the allowance or the journal has nothing to hand;
otherwise the head of the queue is written where R169 finds room, at the write position or in the next, erased
sector, or else the wanted erase-ahead is issued, under the same tenure. COMPLETE of an internal operation ends
the journal's work: a record leaves the queue, an erase-ahead makes the mark ERASED, the second slot of a
SURVIVAL record is offered or its work ends, a PAD is followed as R176 says; an INTERNAL tenure closes. At twice
its maximum time the operation is FLASH_STUCK: recorded and discarded; a requested one sets the fail report,
where the plan names a bit and the MAIN_RESET line is inactive, and an internal one sets none; the journal's
work ends as before, but that the mark stays; the tenure of either owner closes. The model's choices: the clock
brought to that time (log entries 5 and 33), the end of the D-link transactions (entry 17), the controller's
state of the moment at a further piggyback (entry 45), and no poll (entry 4). -/
def Obligations.OperationEnds : Prop :=
  ∀ (status : Byte) (f : InFlight) (ten : Tenure) (r : Record) (ring : Ring) (i : Issue) (j : Journal) (programs : Nat) (eraseToo quiet : Bool) (bit : Fin 8) (s : State),
    let flying := s.flb.inflight = some f
    let busy := status.getLsbD 0 = true
    let ready := flying ∧ s.flb.poll = .live ∧ ¬ busy
    let requested := s.flb.tenure = some ten ∧ ten.owner = .requested
    let working (k : WorkKind) := s.jnu.work = some ⟨k, quiet⟩
    let polled : Bridge := { s.flb with lastStatus := status, poll := .idle }
    let closed (b : Bridge) (report : Option (Fin 8)) : Bridge :=
      { b with inflight := none, nextPoll := none, tenure := none, mode := if s.mainActive then .ignore else .relay
               failReport := report, poll := if b.poll = .live then .stale else b.poll }
    let left : Journal := { s.jnu with queue := s.jnu.queue.tail, work := none }
    let appendAfter := ready ∧ requested ∧
      ((f.origin = .requested ∧ j = s.jnu ∧ programs = s.plan.piggybackLimit ∧ eraseToo = f.op.isErase) ∨
        (f.origin = .internal ∧ programs = ten.programsLeft ∧ eraseToo = ten.eraseLeft ∧
          ((working .record ∧ j = left) ∨ (working .eraseAhead ∧ j = { s.jnu with nextErased := true, work := none }))))
    let mayAppend := appendAfter ∧ s.boc.state = .normal ∧ s.eng.quietHold = false ∧ j.work = none
    let heads := j.queue.head? = some r ∧ r.body.slots = 1 ∧ 1 ≤ programs ∧ j.ring = some ring
    let next := (ring.sector + 1) % s.plan.sectorCount
    let inUse := fun (cls : FlashClass) => (s.plan.firstEntry cls).getD ⟨0, 0, none, 0, 1, 1⟩
    let e := inUse .program
    let appended (sector slot : Nat) : Issue :=
      let address := s.plan.journalBase + sector * s.plan.sectorSize + slot * 64
      { op := .program, origin := .internal, range := .span address 64, opcode := e.opcode, addrBytes := e.addrBytes
        addrLanes := e.addrLanes, dataLanes := e.dataLanes, address := address, data := r.bytes j.lost ring.nextSeq
        admitted := s.sense.uptime }
    let clocks := 16 + e.addrBytes * 8 / e.addrLanes + 512 / e.dataLanes
    let x := inUse .eraseSector
    let ahead := s.plan.journalBase + next * s.plan.sectorSize
    let erase : Issue :=
      { op := .eraseSector, origin := .internal, range := .span ahead s.plan.sectorSize, opcode := x.opcode
        addrBytes := x.addrBytes, addrLanes := x.addrLanes, dataLanes := x.dataLanes, address := ahead, data := []
        admitted := s.sense.uptime }
    let eraseClocks := 16 + x.addrBytes * 8 / x.addrLanes
    let appending (i : Issue) (clocks left : Nat) (eraseLeft : Bool) : Bridge :=
      { polled with
        inflight := none, nextPoll := none, issue := some i, dlinkDue := some (s.clock + clocks * (s.plan.div + 1))
        tenure := some { ten with phase := .issuing, programsLeft := left, eraseLeft := eraseLeft } }
    let noRecord := j.queue = [] ∨ programs = 0 ∨ (ring.room = 0 ∧ j.nextErased = false)
    let internal := f.origin = .internal ∧ ∀ t, s.flb.tenure = some t → t.owner = .internal
    let ended (b : Bridge) : Bridge :=
      if s.flb.tenure = none then { b with inflight := none, nextPoll := none, poll := if b.poll = .live then .stale else b.poll }
      else closed b s.flb.failReport
    let endedBoc : BrownOut := { s.boc with survival := .ended }
    let stuckAt := max s.clock (f.created + 2 * f.max * 9600)
    let stuck : Record := ⟨.flashStuck f false ((stuckAt - f.created) / 9600) s.flb.lastStatus, s.boc.state, s.sense.uptime⟩
    let told : Journal := s.jnu.offered s.plan [stuck]
    let toldState : State := { s with jnu := told }
    let toldOf := flying ∧ f.origin = .internal
    (s.flb.poll = .stale →
      exec (.flashPollComplete status) s = .next { s with flb := polled }) ∧
    (s.flb.poll = .idle →
      exec (.flashPollComplete status) s = .next s) ∧
    (flying ∧ s.flb.poll = .live ∧ busy →
      exec (.flashPollComplete status) s = .next ({ s with flb := polled } : State).settle) ∧
    (appendAfter ∧ (s.boc.state ≠ .normal ∨ s.eng.quietHold = true ∨ j.work ≠ none) →
      exec (.flashPollComplete status) s = .next
        ({ s with jnu := j, flb := closed polled s.flb.failReport } : State).settle) ∧
    (mayAppend ∧ heads ∧ 1 ≤ ring.room →
      exec (.flashPollComplete status) s = .next
        ({ s with
           jnu := { j with lost := 0, work := some ⟨.record, s.quiet⟩
                           ring := some { ring with nextSeq := ring.nextSeq + 1, slot := ring.slot + 1, room := ring.room - 1 } }
           flb := appending (appended ring.sector ring.slot) clocks (programs - 1) eraseToo } : State).settle) ∧
    (mayAppend ∧ heads ∧ ring.room = 0 ∧ j.nextErased = true →
      exec (.flashPollComplete status) s = .next
        ({ s with
           jnu := { j with lost := 0, work := some ⟨.record, s.quiet⟩, nextErased := false
                           ring := some ⟨ring.nextSeq + 1, next, 1, s.plan.sectorSize / 64 - 1⟩ }
           flb := appending (appended next 0) clocks (programs - 1) eraseToo } : State).settle) ∧
    (mayAppend ∧ j.ring = some ring ∧ noRecord ∧ eraseToo = true ∧ j.nextErased = false ∧ s.plan.sectorCount ≠ 0
        →
      exec (.flashPollComplete status) s = .next
        ({ s with
           jnu := { j with work := some ⟨.eraseAhead, s.quiet⟩ }
           flb := appending erase eraseClocks programs false } : State).settle) ∧
    (mayAppend ∧ (j.ring = none ∨ (j.ring = some ring ∧ noRecord ∧ (eraseToo = false ∨ j.nextErased = true))) →
      exec (.flashPollComplete status) s = .next
        ({ s with jnu := j, flb := closed polled s.flb.failReport } : State).settle) ∧
    (internal ∧ ready ∧ working .record →
      exec (.flashPollComplete status) s = .next ({ s with jnu := left, flb := ended polled } : State).settle) ∧
    (internal ∧ ready ∧ working .eraseAhead →
      exec (.flashPollComplete status) s = .next
        ({ s with jnu := { s.jnu with nextErased := true, work := none }, flb := ended polled } : State).settle) ∧
    (internal ∧ ready ∧ working (.survival (some i)) →
      exec (.flashPollComplete status) s = .next
        ({ s with jnu := { s.jnu with work := some ⟨.survival none, quiet⟩ }
                  flb := { ended polled with offer := some i } } : State).settle) ∧
    (internal ∧ ready ∧ working (.survival none) →
      exec (.flashPollComplete status) s = .next
        ({ s with jnu := { s.jnu with work := none, survival := .none }, boc := endedBoc, flb := ended polled } : State).settle) ∧
    (internal ∧ ready ∧ working .pad →
      exec (.flashPollComplete status) s = .next
        ({ s with jnu := (s.workEnd false).jnu
                  flb := { ended polled with offer := (s.workEnd false).flb.offer } } : State).settle) ∧
    (flying ∧ f.origin = .requested ∧ requested ∧ s.plan.failBit = bit.val ∧ s.mainActive = false →
      exec .flashStuck s = .next
        ({ s with clock := stuckAt, jnu := told, flb := closed s.flb (some bit) } : State).settle) ∧
    (flying ∧ f.origin = .requested ∧ requested ∧ (s.plan.failBit = 8 ∨ s.mainActive = true) →
      exec .flashStuck s = .next
        ({ s with clock := stuckAt, jnu := told, flb := closed s.flb s.flb.failReport } : State).settle) ∧
    (toldOf ∧ working .record →
      exec .flashStuck s = .next
        ({ s with clock := stuckAt, jnu := { told with queue := told.queue.tail, work := none }, flb := ended s.flb } : State).settle) ∧
    (toldOf ∧ working .eraseAhead →
      exec .flashStuck s = .next
        ({ s with clock := stuckAt, jnu := { told with work := none }, flb := ended s.flb } : State).settle) ∧
    (toldOf ∧ working .pad →
      exec .flashStuck s = .next
        ({ s with clock := stuckAt, jnu := (toldState.workEnd true).jnu
                  flb := { ended s.flb with offer := (toldState.workEnd true).flb.offer } } : State).settle) ∧
    (toldOf ∧ working (.survival (some i)) →
      exec .flashStuck s = .next
        ({ s with clock := stuckAt, jnu := { told with work := some ⟨.survival none, quiet⟩ }
                  flb := { ended s.flb with offer := some i } } : State).settle) ∧
    (toldOf ∧ working (.survival none) →
      exec .flashStuck s = .next
        ({ s with clock := stuckAt, jnu := { told with work := none, survival := .none }, boc := endedBoc
                  flb := ended s.flb } : State).settle)

/-- RELAY becomes IGNORE where the line is active and no transaction is in progress. IGNORE becomes RELAY where the
plan is applied, the line inactive, no transaction in progress, and no operation being issued or in flight. A
tenure keeps TENURE. An internal operation offered is taken with no tenure open and nothing being issued or in
flight: in IGNORE it is issued with no tenure, unless it is barred because the line went inactive with another
in progress; in RELAY with the line inactive and no transaction in progress it is issued under an INTERNAL
tenure; otherwise it waits. Its admission uptime is that of the taking. The model's choices: the mode follows
the line before a waiting offer is taken (log entry 54), an operation taken in IGNORE with the line inactive
keeps IGNORE to its end (entry 55), and the line's level at the deassertion decides (entry 62). Each is one
thing that follows of itself (SettleFollowsToTheEnd); the end of the D-link transactions is log entry 17 (DESIGN
CHOICE). -/
def Obligations.LinkModeFollowsTheMainResetLine : Prop :=
  ∀ (i : Issue) (s : State),
    let still := s.flb.xfer = none
    let idle := s.flb.inflight = none ∧ s.flb.issue = none ∧ s.flb.tenure = none
    let offered := s.flb.offer = some i ∧ s.applied = true ∧ idle
    let taken : Issue := { i with admitted := s.sense.uptime }
    let clocks := 16 + i.addrBytes * 8 / i.addrLanes + i.data.length * 8 / i.dataLanes
    let issuing : Bridge :=
      { s.flb with offer := none, issue := some taken
                   dlinkDue := some (s.clock + clocks * (s.plan.div + 1)) }
    (s.flb.mode = .relay ∧ s.mainActive = true ∧ still →
      s.linkReact = some { s with flb := { s.flb with mode := .ignore } }) ∧
    (s.flb.mode = .relay ∧ (s.mainActive = false ∨ ¬ still) →
      s.linkReact = none) ∧
    (s.flb.mode = .ignore ∧ s.applied = true ∧ s.mainActive = false ∧ still ∧ idle →
      s.linkReact = some { s with flb := { s.flb with mode := .relay, barred := false } }) ∧
    (s.flb.mode = .ignore ∧ (s.applied = false ∨ s.mainActive = true ∨ ¬ still ∨ ¬ idle) →
      s.linkReact = none) ∧
    (s.flb.mode = .tenure →
      s.linkReact = none ∧ s.takeOffer = none) ∧
    (offered ∧ s.flb.mode = .ignore ∧ s.flb.barred = false →
      s.takeOffer = some { s with flb := issuing }) ∧
    (offered ∧ s.flb.mode = .relay ∧ s.mainActive = false ∧ still →
      s.takeOffer =
        some { s with flb := { issuing with mode := .tenure, tenure := some ⟨.internal, none, .issuing, 0, false⟩ } }) ∧
    (offered ∧ (s.flb.mode = .ignore ∧ s.flb.barred = true ∨ s.flb.mode = .relay ∧ (s.mainActive = true ∨ ¬
        still)) →
      s.takeOffer = none) ∧
    (s.flb.offer = none ∨ s.applied = false ∨ ¬ idle →
      s.takeOffer = none)

/-- Before plan application: a status read once it is due (0x05, one byte), the header (0x03, 3 address bytes, 12
bytes from the plan region's base by the strap) and then the body 12 bytes on, all at divider 3; in SCAN the
next sector, with the plan's first READ entry at the plan's divider (that the load reads with the first of the
built-in READ entries is log entry 63); otherwise the pins are not driven. From then on: the write-enable match
value and the command while one is being issued; the write-disable match value in REFUSING; the status-read
match value and one byte on the entry's lanes during a poll; otherwise the relay's pins with the switch closed,
and D_CSN deasserted with it open. A transaction takes 8 clocks and those of its bytes on their lanes, of div +
1 counts each; its bits stand most significant first, on one lane on lane 0, on two with the more significant on
lane 1, on four from lane 3 down, and the side that receives reads the bytes back; nothing is driven while the
flash answers. A poll that finishes after its operation goes before the relay (log entry 52), and what is issued
or refused meanwhile goes before that poll (entry 56), and no gap stands between two transactions (entry 17). -/
def Obligations.DLinkCarriesThePartsOwnTransactions : Prop :=
  ∀ (cls : FlashClass) (e : ClassEntry) (i : Issue) (x : Transaction) (b : Byte) (bytes : List Byte) (lanes clock : Nat) (s : State),
    let flash := planRegionBase s.load.strap
    let loading (p : LoadPhase) := s.load.phase = some p
    let sends := s.applied = true ∧ s.plan.firstEntry cls = some e
    let own (reads : Nat) : Transaction := ⟨e.opcode, [], e.addrLanes, [], reads, e.dataLanes, s.plan.div⟩
    let still := s.applied = true ∧ s.flb.issue = none ∧ s.inPhase .refusing = false
    let level (k : Nat) : PinLevel := if b.getLsbD k then .high else .low
    (loading .flashWait ∧ s.load.statusDue ≤ s.clock →
      s.dlink = .own [⟨0x05, [], 1, [], 1, 1, 3⟩]) ∧
    (loading .read ∧ s.load.image = [] →
      s.dlink = .own [⟨0x03, (leBytes 3 flash).reverse, 1, [], 12, 1, 3⟩]) ∧
    (loading .read ∧ s.load.image ≠ [] →
      s.dlink =
        .own [⟨0x03, (leBytes 3 (flash + 12)).reverse, 1, [], leNat ((s.load.image.drop 6).take 2) - 12, 1, 3⟩]) ∧
    (loading .scan ∧ s.plan.firstEntry .read = some e →
      s.dlink =
        .own [⟨e.opcode, (leBytes e.addrBytes (s.plan.journalBase + s.load.scanned.length * s.plan.sectorSize)).reverse,
          e.addrLanes, [], s.plan.sectorSize, e.dataLanes, s.plan.div⟩]) ∧
    (s.load.phase = none ∨ loading .oscWait ∨ (loading .flashWait ∧ s.clock < s.load.statusDue) →
      s.dlink = .undriven ∧ s.dcsnPin = .undriven) ∧
    (sends ∧ cls = .writeEnable ∧ s.flb.issue = some i →
      s.dlink =
        .own [own 0, ⟨i.opcode, (leBytes i.addrBytes i.address).reverse, i.addrLanes, i.data, 0, i.dataLanes, s.plan.div⟩]) ∧
    (sends ∧ cls = .writeDisable ∧ s.flb.issue = none ∧ s.inPhase .refusing = true →
      s.dlink = .own [own 0]) ∧
    (sends ∧ cls = .statusRead ∧ still ∧ s.flb.poll ≠ .idle →
      s.dlink = .own [own 1]) ∧
    (still ∧ s.flb.poll = .idle →
      s.dlink = (if s.relayClosed = true then .relayed else .deasserted)) ∧
    (s.dcsnPin = .low ↔ s.dlink ∉ [.undriven, .deasserted, .relayed, .own []] ∨ (s.dlink = .relayed ∧ s.flb.xfer ≠ none)) ∧
    (x.counts =
          (8 + x.address.length * 8 / x.addrLanes + (x.data.length + x.reads) * 8 / x.dataLanes) * (x.div + 1)) ∧
    (x.lanes =
          sentOn 1 [x.opcode] ++ sentOn x.addrLanes x.address ++ sentOn x.dataLanes x.data ++
            List.replicate (x.reads * 8 / x.dataLanes) (Vector.replicate 4 .undriven)) ∧
    (clock < 8 →
      (sentOn 1 [b])[clock]? = some #v[level (7 - clock), .undriven, .undriven, .undriven]) ∧
    (clock < 4 →
      (sentOn 2 [b])[clock]? = some #v[level (6 - 2 * clock), level (7 - 2 * clock), .undriven, .undriven]) ∧
    (clock < 2 →
      (sentOn 4 [b])[clock]? =
        some #v[level (4 - 4 * clock), level (5 - 4 * clock), level (6 - 4 * clock), level (7 - 4 * clock)]) ∧
    (lanes ∈ [1, 2, 4] →
      sentOn lanes (b :: bytes) = sentOn lanes [b] ++ sentOn lanes bytes ∧
        receivedOn lanes (sentOn lanes bytes) = bytes) ∧
    (s.dioPins =
          match s.dlink with
          | .own ts => (ts.map Transaction.lanes).flatten
          | .undriven | .deasserted | .relayed => [])

/-- With a journal, quiet and no quiet hold, in INIT, NORMAL or DARK with the SURVIVAL work ended, and no work under
way: a queued record is handed at the write position with room of 1 or more; with room 0 and the next-sector
mark ERASED the write position moves to slot 0 of the next sector, whose room it takes, and the mark becomes
UNKNOWN; the record carries the lost count, which starts again at 0, and the next sequence, which goes on by
one; the write position and room pass its slot. Where no record can be written and the mark is UNKNOWN, the
sector after the write position's is erased ahead. With neither to do, or a condition missing, nothing is begun.
What is handed is offered to the bridge and the work is under way, begun in quiet. -/
def Obligations.QuietWorkWritesOrErasesAhead : Prop :=
  ∀ (r : Record) (rest : List Record) (ring : Ring) (s : State),
    let e := (s.plan.firstEntry .program).getD ⟨0, 0, none, 0, 1, 1⟩
    let place (sector slot : Nat) : Nat := s.plan.journalBase + sector * s.plan.sectorSize + slot * 64
    let write (sector slot : Nat) (bytes : List Byte) : Issue :=
      let a := place sector slot
      { op := .program, origin := .internal, range := .span a bytes.length, opcode := e.opcode, addrBytes := e.addrBytes
        addrLanes := e.addrLanes, dataLanes := e.dataLanes, address := a, data := bytes, admitted := 0 }
    let next := (ring.sector + 1) % s.plan.sectorCount
    let slots := s.plan.sectorSize / 64
    let allowed := s.applied = true ∧ s.plan.sectorCount ≠ 0 ∧ (s.mainActive = true ∨ s.eng.board = .down) ∧
      s.eng.quietHold = false ∧ s.jnu.work = none ∧
      (s.boc.state = .init ∨ s.boc.state = .normal ∨ (s.boc.state = .dark ∧ s.boc.survival = .ended))
    let bytes := r.bytes s.jnu.lost ring.nextSeq
    let handed (g : Ring) (erased : Bool) (sector slot : Nat) : State :=
      { s with jnu := { s.jnu with ring := some g, nextErased := erased, lost := 0, work := some ⟨.record, true⟩ }
               flb := { s.flb with offer := some (write sector slot bytes) } }
    let head := allowed ∧ s.jnu.ring = some ring ∧ s.jnu.queue = r :: rest ∧ r.body.slots = 1
    let x := (s.plan.firstEntry .eraseSector).getD ⟨0, 0, none, 0, 1, 1⟩
    let erase : Issue :=
      { op := .eraseSector, origin := .internal, range := .span (place next 0) s.plan.sectorSize, opcode := x.opcode
        addrBytes := x.addrBytes, addrLanes := x.addrLanes, dataLanes := x.dataLanes, address := place next 0, data := []
        admitted := 0 }
    (head ∧ 1 ≤ ring.room →
      s.quietWork =
        some (handed { ring with nextSeq := ring.nextSeq + 1, slot := ring.slot + 1, room := ring.room - 1 } s.jnu.nextErased
          ring.sector ring.slot)) ∧
    (head ∧ ring.room = 0 ∧ s.jnu.nextErased = true →
      s.quietWork = some (handed ⟨ring.nextSeq + 1, next, 1, slots - 1⟩ false next 0)) ∧
    (allowed ∧ s.jnu.ring = some ring ∧ s.jnu.nextErased = false ∧ (s.jnu.queue = [] ∨ ring.room = 0) →
      s.quietWork =
        some { s with jnu := { s.jnu with work := some ⟨.eraseAhead, true⟩ }, flb := { s.flb with offer := some erase } }) ∧
    (s.jnu.queue = [] ∧ s.jnu.nextErased = true →
      s.quietWork = none) ∧
    (¬ allowed →
      s.quietWork = none)

/-- From DESCENT the controller passes to DARK once both domains are DOWN: the descent claim is withdrawn, the ride
and restore timers are stopped, and the mains timer is started afresh exactly where AC_OK is active. There the
record is built, and with no journal the work ends at once. It waits while an operation is in flight or a tenure
open. At an OVERRUN the record is lost: the lost count goes up, a FLASH_STUCK record declared by the journal is
offered, and the work ends. Otherwise the wait time is entered and the space judged: without two known-erased
slots in one sector the record is lost and counted and the work ends. It is written at the write position with
room of 2 or more; with room 1 a PAD goes first and the record to slot 0 of the next sector; with room 0 there.
It takes one operation in one page and two otherwise, and the work ends with the last. A rearm that waits for
the end follows it (MAINS_TIMER_EXPIRY met). The model's choices: the wait time rounded down (log entry 49), an
operation found already OVERRUN reported as it is then (entry 59), and a record with space handed once the
unit's own work under way has ended (entry 20). -/
def Obligations.SurvivalWorkWritesOrLosesTheRecord : Prop :=
  ∀ (r : Record) (f : InFlight) (ring : Ring) (i : Issue) (since : Nat) (quiet stuck : Bool) (s : State),
    let e := (s.plan.firstEntry .program).getD ⟨0, 0, none, 0, 1, 1⟩
    let place (sector slot : Nat) : Nat := s.plan.journalBase + sector * s.plan.sectorSize + slot * 64
    let write (sector slot : Nat) (bytes : List Byte) : Issue :=
      let a := place sector slot
      { op := .program, origin := .internal, range := .span a bytes.length, opcode := e.opcode, addrBytes := e.addrBytes
        addrLanes := e.addrLanes, dataLanes := e.dataLanes, address := a, data := bytes, admitted := 0 }
    let next := (ring.sector + 1) % s.plan.sectorCount
    let slots := s.plan.sectorSize / 64
    let waits := s.jnu.survival = .waiting r since
    let noted := s.boc.notes.getD ⟨0, 0, 0, 0⟩
    let body : RecordBody :=
      .survival s.boc.reason noted s.boc.acReturned s.sense.acOk s.boc.stormFound s.boc.dip s.dipCount s.sense.dipSince.isSome
        s.boc.atRisk s.sense.vstbyMv s.jnu.queue.length 0 (s.boc.history.take 8)
    let built : Record := ⟨body, s.boc.state, s.sense.uptime⟩
    let freed := waits ∧ s.flb.inflight = none ∧ s.flb.tenure = none
    let space := s.jnu.nextErased = true ∨ 2 ≤ ring.room
    let ready := s.jnu.survival = .ready r ∧ s.jnu.work = none ∧ s.jnu.ring = some ring ∧ r.body.slots = 2
    let lost (j : Journal) : Journal := { j with lost := min 255 (j.lost + 1), survival := .none }
    let ended : BrownOut := { s.boc with survival := .ended }
    let report : Record := ⟨.flashStuck f true ((s.clock - f.created) / 9600) s.flb.lastStatus, s.boc.state, s.sense.uptime⟩
    let pad : Record := ⟨.pad, s.boc.state, s.sense.uptime⟩
    let written (t : State) (g : Ring) (erased : Bool) : State :=
      let a := place g.sector g.slot
      let bytes := r.bytes t.jnu.lost g.nextSeq
      let onePage := a / 2 ^ s.plan.pageLog = (a + 64) / 2 ^ s.plan.pageLog
      { t with
        jnu := { t.jnu with ring := some ⟨g.nextSeq + 1, g.sector, g.slot + 2, g.room - 2⟩, nextErased := erased, lost := 0
                            work := some ⟨.survival (if onePage then none else some (write g.sector (g.slot + 1) (bytes.drop 64))), s.quiet⟩
                            survival := .writing }
        flb := { t.flb with offer := some (write g.sector g.slot (if onePage then bytes else bytes.take 64)) } }
    let ending (k : WorkKind) := s.jnu.work = some ⟨k, quiet⟩
    let dark : State :=
      { s with
        eng := { s.eng with descent := false }
        boc := { s.boc with state := .dark, ride := none, restore := none, heldBoard := false, heldPanel := false
                            mains := if s.sense.acOk then some (s.clock + s.plan.rearmDelayMs * 96000) else none
                            mainsMet := false } }
    let down := s.eng.board = .down ∧ s.eng.panel = .down
    let descending := s.applied = true ∧ s.boc.state = .descent
    (descending ∧ down ∧ s.adu.parked = none →
      s.bocReact = some dark.survivalBegin) ∧
    (descending ∧ ¬ down →
      s.bocReact = none) ∧
    (s.plan.sectorCount = 0 →
      s.survivalBegin = { s with jnu := { s.jnu with survival := .none }, boc := ended }) ∧
    (s.plan.sectorCount ≠ 0 →
      s.survivalBegin =
        { s with jnu := { s.jnu with survival := .waiting built s.clock }, boc := { s.boc with survival := .underWay } }) ∧
    (waits ∧ s.flb.inflight = some f ∧ f.overrun = false →
      s.survivalWaitEnd = none) ∧
    (waits ∧ s.flb.inflight = none ∧ s.flb.tenure ≠ none →
      s.survivalWaitEnd = none) ∧
    (waits ∧ s.flb.inflight = some f ∧ f.overrun = true ∧ s.plan.sectorCount ≠ 0 →
      s.survivalWaitEnd =
        some { s with jnu := { (lost s.jnu).offered s.plan [report] with survival := .none }, boc := ended }) ∧
    (freed ∧ s.jnu.ring = some ring ∧ ¬ space →
      s.survivalWaitEnd = some { s with jnu := lost s.jnu, boc := ended }) ∧
    (freed ∧ s.jnu.ring = some ring ∧ space →
      s.survivalWaitEnd =
        some { s with jnu := { s.jnu with survival := .ready (r.withWait (min 65535 ((s.clock - since) / 9600))) } }) ∧
    (s.jnu.survival = .ready r ∧ s.jnu.work ≠ none →
      s.survivalWaitEnd = none) ∧
    (ready ∧ 2 ≤ ring.room →
      s.survivalWaitEnd = some (written s ring s.jnu.nextErased)) ∧
    (ready ∧ ring.room = 0 →
      s.survivalWaitEnd = some (written s ⟨ring.nextSeq, next, 0, slots⟩ false)) ∧
    (ready ∧ ring.room = 1 →
      s.survivalWaitEnd =
        some { s with
               jnu := { s.jnu with ring := some ⟨ring.nextSeq + 1, next, 0, slots⟩, nextErased := false, lost := 0
                                   work := some ⟨.pad, s.quiet⟩, survival := .padding r }
               flb := { s.flb with offer := some (write ring.sector ring.slot (pad.bytes s.jnu.lost ring.nextSeq)) } }) ∧
    (ending .pad ∧ s.jnu.survival = .padding r ∧ s.jnu.ring = some ring ∧ r.body.slots = 2 →
      s.workEnd stuck = written { s with jnu := { s.jnu with work := none } } ring s.jnu.nextErased) ∧
    (ending (.survival (some i)) →
      s.workEnd stuck =
        { s with jnu := { s.jnu with work := some ⟨.survival none, quiet⟩ }, flb := { s.flb with offer := some i } }) ∧
    (ending (.survival none) →
      s.workEnd stuck = { s with jnu := { s.jnu with work := none, survival := .none }, boc := ended }) ∧
    (s.applied = true ∧ s.boc.state = .dark ∧ s.boc.mainsMet = true ∧ s.boc.survival = .ended →
      ∃ t, s.bocReact = some t ∧ t.boc.state = .normal ∧
        t.boc.shedLevel = 0) ∧
    (s.applied = true ∧ s.boc.state = .dark ∧ s.boc.mainsMet = true ∧ s.boc.survival ≠ .ended →
      s.bocReact = none)

/-- Before plan application no EN, CTL or DIM_OUT pin is driven and ALERT_N is released. From then on EN is at the
active level of its polarity exactly in RISING, SETTLING and ON of a present channel; a present control line is
at the level of its polarity for its driven level, an absent one undriven; DIM_OUT is at its level. ALERT_N is
low exactly where the plan is applied and a condition holds with its mark in the alert mask: the controller in
DIP, RECOVER, COMMIT, DESCENT or DARK; a channel in FAULT; the parked slot occupied; a lockout set; the
journal's queue not empty. -/
def Obligations.OutputPinsFollowTheState : Prop :=
  ∀ (s : State),
    (s.applied = false →
      (∀ ch, s.enPin ch = .undriven) ∧ (∀ l, s.ctlPin l = .undriven) ∧ s.dimOutPin = .undriven ∧ s.alertPin = .undriven) ∧
    (s.applied = true →
      ∀ ch : Fin 12, s.enPin ch =
        (if ((s.railEntry ch).present = true ∧
            ((s.rail ch).state = .rising ∨ (s.rail ch).state = .settling ∨ (s.rail ch).state = .on)) ↔
            (s.railEntry ch).enActiveLow = true then .low else .high)) ∧
    (s.applied = true →
      ∀ l : Fin 6, s.ctlPin l =
        (if s.plan.lines[l].present = false then .undriven
          else if s.eng.lines[l] = s.plan.lines[l].activeLow then .low else .high)) ∧
    (s.applied = true →
      s.dimOutPin = if s.dpt.outHigh = true then .high else .low) ∧
    (s.alertPin = .low ↔
          s.applied = true ∧
            ((s.plan.alert.notNormal = true ∧ s.boc.state ≠ .init ∧ s.boc.state ≠ .normal) ∨
              (s.plan.alert.railFault = true ∧ ∃ ch : Fin 12, (s.rail ch).state = .fault) ∨
              (s.plan.alert.parked = true ∧ s.adu.parked ≠ none) ∨
              (s.plan.alert.lockout = true ∧ (s.eng.boardLock = true ∨ s.eng.panelLock = true)) ∨
              (s.plan.alert.queue = true ∧ s.jnu.queue ≠ []))) ∧
    (s.alertPin = .low ∨ s.alertPin = .undriven)

/-- What follows next is the first that applies of: the link mode by the MAIN_RESET line, the controller's passing
on, the engine's own action, the SURVIVAL work, quiet work and the taking of an offered operation. Where nothing
follows the event ends; otherwise that one thing is done and the rest of it follows. For every state that meets
EngineSafe nothing more follows at the end. The order of these is the model's reading (log entry 6, DEDUCED). -/
def Obligations.SettleFollowsToTheEnd : Prop :=
  ∀ (t : State) (s : State),
    (s.react = none →
      s.settle = s) ∧
    (s.react = some t →
      s.settle = t.settleFor 63) ∧
    (s.linkReact = some t ∨ (s.linkReact = none ∧ s.bocReact = some t) →
      s.react = some t) ∧
    (s.linkReact = none ∧ s.bocReact = none ∧ s.engineReact = some t →
      s.react = some t) ∧
    (s.linkReact = none ∧ s.bocReact = none ∧ s.engineReact = none →
      s.react = ((s.survivalWaitEnd.or s.quietWork).or s.takeOffer)) ∧
    (EngineSafe s →
      s.settle.react = none)
end

