-- ==== Sys2Proof/Laws/State.lean ====
section
/-! SUPPORT. One lemma per field of the state for each update of a block, and for the channels. -/

namespace Sys2Proof.Machine

@[simp] theorem State.modLoad_clock (s : State) (f : Loader → Loader) : (s.modLoad f).clock = s.clock := rfl
@[simp] theorem State.modLoad_load (s : State) (f : Loader → Loader) : (s.modLoad f).load = f s.load := rfl
@[simp] theorem State.modLoad_plan (s : State) (f : Loader → Loader) : (s.modLoad f).plan = s.plan := rfl
@[simp] theorem State.modLoad_rails (s : State) (f : Loader → Loader) : (s.modLoad f).rails = s.rails := rfl
@[simp] theorem State.modLoad_eng (s : State) (f : Loader → Loader) : (s.modLoad f).eng = s.eng := rfl
@[simp] theorem State.modLoad_sense (s : State) (f : Loader → Loader) : (s.modLoad f).sense = s.sense := rfl
@[simp] theorem State.modLoad_dpt (s : State) (f : Loader → Loader) : (s.modLoad f).dpt = s.dpt := rfl
@[simp] theorem State.modLoad_hbu (s : State) (f : Loader → Loader) : (s.modLoad f).hbu = s.hbu := rfl
@[simp] theorem State.modLoad_boc (s : State) (f : Loader → Loader) : (s.modLoad f).boc = s.boc := rfl
@[simp] theorem State.modLoad_flb (s : State) (f : Loader → Loader) : (s.modLoad f).flb = s.flb := rfl
@[simp] theorem State.modLoad_adu (s : State) (f : Loader → Loader) : (s.modLoad f).adu = s.adu := rfl
@[simp] theorem State.modLoad_jnu (s : State) (f : Loader → Loader) : (s.modLoad f).jnu = s.jnu := rfl
@[simp] theorem State.modLoad_draws (s : State) (f : Loader → Loader) : (s.modLoad f).draws = s.draws := rfl
@[simp] theorem State.modLoad_pending (s : State) (f : Loader → Loader) : (s.modLoad f).pending = s.pending := rfl

@[simp] theorem State.modEng_clock (s : State) (f : Engine → Engine) : (s.modEng f).clock = s.clock := rfl
@[simp] theorem State.modEng_load (s : State) (f : Engine → Engine) : (s.modEng f).load = s.load := rfl
@[simp] theorem State.modEng_plan (s : State) (f : Engine → Engine) : (s.modEng f).plan = s.plan := rfl
@[simp] theorem State.modEng_rails (s : State) (f : Engine → Engine) : (s.modEng f).rails = s.rails := rfl
@[simp] theorem State.modEng_eng (s : State) (f : Engine → Engine) : (s.modEng f).eng = f s.eng := rfl
@[simp] theorem State.modEng_sense (s : State) (f : Engine → Engine) : (s.modEng f).sense = s.sense := rfl
@[simp] theorem State.modEng_dpt (s : State) (f : Engine → Engine) : (s.modEng f).dpt = s.dpt := rfl
@[simp] theorem State.modEng_hbu (s : State) (f : Engine → Engine) : (s.modEng f).hbu = s.hbu := rfl
@[simp] theorem State.modEng_boc (s : State) (f : Engine → Engine) : (s.modEng f).boc = s.boc := rfl
@[simp] theorem State.modEng_flb (s : State) (f : Engine → Engine) : (s.modEng f).flb = s.flb := rfl
@[simp] theorem State.modEng_adu (s : State) (f : Engine → Engine) : (s.modEng f).adu = s.adu := rfl
@[simp] theorem State.modEng_jnu (s : State) (f : Engine → Engine) : (s.modEng f).jnu = s.jnu := rfl
@[simp] theorem State.modEng_draws (s : State) (f : Engine → Engine) : (s.modEng f).draws = s.draws := rfl
@[simp] theorem State.modEng_pending (s : State) (f : Engine → Engine) : (s.modEng f).pending = s.pending := rfl

@[simp] theorem State.modSense_clock (s : State) (f : Sense → Sense) : (s.modSense f).clock = s.clock := rfl
@[simp] theorem State.modSense_load (s : State) (f : Sense → Sense) : (s.modSense f).load = s.load := rfl
@[simp] theorem State.modSense_plan (s : State) (f : Sense → Sense) : (s.modSense f).plan = s.plan := rfl
@[simp] theorem State.modSense_rails (s : State) (f : Sense → Sense) : (s.modSense f).rails = s.rails := rfl
@[simp] theorem State.modSense_eng (s : State) (f : Sense → Sense) : (s.modSense f).eng = s.eng := rfl
@[simp] theorem State.modSense_sense (s : State) (f : Sense → Sense) : (s.modSense f).sense = f s.sense := rfl
@[simp] theorem State.modSense_dpt (s : State) (f : Sense → Sense) : (s.modSense f).dpt = s.dpt := rfl
@[simp] theorem State.modSense_hbu (s : State) (f : Sense → Sense) : (s.modSense f).hbu = s.hbu := rfl
@[simp] theorem State.modSense_boc (s : State) (f : Sense → Sense) : (s.modSense f).boc = s.boc := rfl
@[simp] theorem State.modSense_flb (s : State) (f : Sense → Sense) : (s.modSense f).flb = s.flb := rfl
@[simp] theorem State.modSense_adu (s : State) (f : Sense → Sense) : (s.modSense f).adu = s.adu := rfl
@[simp] theorem State.modSense_jnu (s : State) (f : Sense → Sense) : (s.modSense f).jnu = s.jnu := rfl
@[simp] theorem State.modSense_draws (s : State) (f : Sense → Sense) : (s.modSense f).draws = s.draws := rfl
@[simp] theorem State.modSense_pending (s : State) (f : Sense → Sense) : (s.modSense f).pending = s.pending := rfl

@[simp] theorem State.modDpt_clock (s : State) (f : Dimming → Dimming) : (s.modDpt f).clock = s.clock := rfl
@[simp] theorem State.modDpt_load (s : State) (f : Dimming → Dimming) : (s.modDpt f).load = s.load := rfl
@[simp] theorem State.modDpt_plan (s : State) (f : Dimming → Dimming) : (s.modDpt f).plan = s.plan := rfl
@[simp] theorem State.modDpt_rails (s : State) (f : Dimming → Dimming) : (s.modDpt f).rails = s.rails := rfl
@[simp] theorem State.modDpt_eng (s : State) (f : Dimming → Dimming) : (s.modDpt f).eng = s.eng := rfl
@[simp] theorem State.modDpt_sense (s : State) (f : Dimming → Dimming) : (s.modDpt f).sense = s.sense := rfl
@[simp] theorem State.modDpt_dpt (s : State) (f : Dimming → Dimming) : (s.modDpt f).dpt = f s.dpt := rfl
@[simp] theorem State.modDpt_hbu (s : State) (f : Dimming → Dimming) : (s.modDpt f).hbu = s.hbu := rfl
@[simp] theorem State.modDpt_boc (s : State) (f : Dimming → Dimming) : (s.modDpt f).boc = s.boc := rfl
@[simp] theorem State.modDpt_flb (s : State) (f : Dimming → Dimming) : (s.modDpt f).flb = s.flb := rfl
@[simp] theorem State.modDpt_adu (s : State) (f : Dimming → Dimming) : (s.modDpt f).adu = s.adu := rfl
@[simp] theorem State.modDpt_jnu (s : State) (f : Dimming → Dimming) : (s.modDpt f).jnu = s.jnu := rfl
@[simp] theorem State.modDpt_draws (s : State) (f : Dimming → Dimming) : (s.modDpt f).draws = s.draws := rfl
@[simp] theorem State.modDpt_pending (s : State) (f : Dimming → Dimming) : (s.modDpt f).pending = s.pending := rfl

@[simp] theorem State.modBoc_clock (s : State) (f : BrownOut → BrownOut) : (s.modBoc f).clock = s.clock := rfl
@[simp] theorem State.modBoc_load (s : State) (f : BrownOut → BrownOut) : (s.modBoc f).load = s.load := rfl
@[simp] theorem State.modBoc_plan (s : State) (f : BrownOut → BrownOut) : (s.modBoc f).plan = s.plan := rfl
@[simp] theorem State.modBoc_rails (s : State) (f : BrownOut → BrownOut) : (s.modBoc f).rails = s.rails := rfl
@[simp] theorem State.modBoc_eng (s : State) (f : BrownOut → BrownOut) : (s.modBoc f).eng = s.eng := rfl
@[simp] theorem State.modBoc_sense (s : State) (f : BrownOut → BrownOut) : (s.modBoc f).sense = s.sense := rfl
@[simp] theorem State.modBoc_dpt (s : State) (f : BrownOut → BrownOut) : (s.modBoc f).dpt = s.dpt := rfl
@[simp] theorem State.modBoc_hbu (s : State) (f : BrownOut → BrownOut) : (s.modBoc f).hbu = s.hbu := rfl
@[simp] theorem State.modBoc_boc (s : State) (f : BrownOut → BrownOut) : (s.modBoc f).boc = f s.boc := rfl
@[simp] theorem State.modBoc_flb (s : State) (f : BrownOut → BrownOut) : (s.modBoc f).flb = s.flb := rfl
@[simp] theorem State.modBoc_adu (s : State) (f : BrownOut → BrownOut) : (s.modBoc f).adu = s.adu := rfl
@[simp] theorem State.modBoc_jnu (s : State) (f : BrownOut → BrownOut) : (s.modBoc f).jnu = s.jnu := rfl
@[simp] theorem State.modBoc_draws (s : State) (f : BrownOut → BrownOut) : (s.modBoc f).draws = s.draws := rfl
@[simp] theorem State.modBoc_pending (s : State) (f : BrownOut → BrownOut) : (s.modBoc f).pending = s.pending := rfl

@[simp] theorem State.modFlb_clock (s : State) (f : Bridge → Bridge) : (s.modFlb f).clock = s.clock := rfl
@[simp] theorem State.modFlb_load (s : State) (f : Bridge → Bridge) : (s.modFlb f).load = s.load := rfl
@[simp] theorem State.modFlb_plan (s : State) (f : Bridge → Bridge) : (s.modFlb f).plan = s.plan := rfl
@[simp] theorem State.modFlb_rails (s : State) (f : Bridge → Bridge) : (s.modFlb f).rails = s.rails := rfl
@[simp] theorem State.modFlb_eng (s : State) (f : Bridge → Bridge) : (s.modFlb f).eng = s.eng := rfl
@[simp] theorem State.modFlb_sense (s : State) (f : Bridge → Bridge) : (s.modFlb f).sense = s.sense := rfl
@[simp] theorem State.modFlb_dpt (s : State) (f : Bridge → Bridge) : (s.modFlb f).dpt = s.dpt := rfl
@[simp] theorem State.modFlb_hbu (s : State) (f : Bridge → Bridge) : (s.modFlb f).hbu = s.hbu := rfl
@[simp] theorem State.modFlb_boc (s : State) (f : Bridge → Bridge) : (s.modFlb f).boc = s.boc := rfl
@[simp] theorem State.modFlb_flb (s : State) (f : Bridge → Bridge) : (s.modFlb f).flb = f s.flb := rfl
@[simp] theorem State.modFlb_adu (s : State) (f : Bridge → Bridge) : (s.modFlb f).adu = s.adu := rfl
@[simp] theorem State.modFlb_jnu (s : State) (f : Bridge → Bridge) : (s.modFlb f).jnu = s.jnu := rfl
@[simp] theorem State.modFlb_draws (s : State) (f : Bridge → Bridge) : (s.modFlb f).draws = s.draws := rfl
@[simp] theorem State.modFlb_pending (s : State) (f : Bridge → Bridge) : (s.modFlb f).pending = s.pending := rfl

@[simp] theorem State.modAdu_clock (s : State) (f : Admission → Admission) : (s.modAdu f).clock = s.clock := rfl
@[simp] theorem State.modAdu_load (s : State) (f : Admission → Admission) : (s.modAdu f).load = s.load := rfl
@[simp] theorem State.modAdu_plan (s : State) (f : Admission → Admission) : (s.modAdu f).plan = s.plan := rfl
@[simp] theorem State.modAdu_rails (s : State) (f : Admission → Admission) : (s.modAdu f).rails = s.rails := rfl
@[simp] theorem State.modAdu_eng (s : State) (f : Admission → Admission) : (s.modAdu f).eng = s.eng := rfl
@[simp] theorem State.modAdu_sense (s : State) (f : Admission → Admission) : (s.modAdu f).sense = s.sense := rfl
@[simp] theorem State.modAdu_dpt (s : State) (f : Admission → Admission) : (s.modAdu f).dpt = s.dpt := rfl
@[simp] theorem State.modAdu_hbu (s : State) (f : Admission → Admission) : (s.modAdu f).hbu = s.hbu := rfl
@[simp] theorem State.modAdu_boc (s : State) (f : Admission → Admission) : (s.modAdu f).boc = s.boc := rfl
@[simp] theorem State.modAdu_flb (s : State) (f : Admission → Admission) : (s.modAdu f).flb = s.flb := rfl
@[simp] theorem State.modAdu_adu (s : State) (f : Admission → Admission) : (s.modAdu f).adu = f s.adu := rfl
@[simp] theorem State.modAdu_jnu (s : State) (f : Admission → Admission) : (s.modAdu f).jnu = s.jnu := rfl
@[simp] theorem State.modAdu_draws (s : State) (f : Admission → Admission) : (s.modAdu f).draws = s.draws := rfl
@[simp] theorem State.modAdu_pending (s : State) (f : Admission → Admission) : (s.modAdu f).pending = s.pending := rfl

@[simp] theorem State.modJnu_clock (s : State) (f : Journal → Journal) : (s.modJnu f).clock = s.clock := rfl
@[simp] theorem State.modJnu_load (s : State) (f : Journal → Journal) : (s.modJnu f).load = s.load := rfl
@[simp] theorem State.modJnu_plan (s : State) (f : Journal → Journal) : (s.modJnu f).plan = s.plan := rfl
@[simp] theorem State.modJnu_rails (s : State) (f : Journal → Journal) : (s.modJnu f).rails = s.rails := rfl
@[simp] theorem State.modJnu_eng (s : State) (f : Journal → Journal) : (s.modJnu f).eng = s.eng := rfl
@[simp] theorem State.modJnu_sense (s : State) (f : Journal → Journal) : (s.modJnu f).sense = s.sense := rfl
@[simp] theorem State.modJnu_dpt (s : State) (f : Journal → Journal) : (s.modJnu f).dpt = s.dpt := rfl
@[simp] theorem State.modJnu_hbu (s : State) (f : Journal → Journal) : (s.modJnu f).hbu = s.hbu := rfl
@[simp] theorem State.modJnu_boc (s : State) (f : Journal → Journal) : (s.modJnu f).boc = s.boc := rfl
@[simp] theorem State.modJnu_flb (s : State) (f : Journal → Journal) : (s.modJnu f).flb = s.flb := rfl
@[simp] theorem State.modJnu_adu (s : State) (f : Journal → Journal) : (s.modJnu f).adu = s.adu := rfl
@[simp] theorem State.modJnu_jnu (s : State) (f : Journal → Journal) : (s.modJnu f).jnu = f s.jnu := rfl
@[simp] theorem State.modJnu_draws (s : State) (f : Journal → Journal) : (s.modJnu f).draws = s.draws := rfl
@[simp] theorem State.modJnu_pending (s : State) (f : Journal → Journal) : (s.modJnu f).pending = s.pending := rfl

@[simp] theorem State.setRails_clock (s : State) (v : Vector Channel 12) : (s.setRails v).clock = s.clock := rfl
@[simp] theorem State.setRails_load (s : State) (v : Vector Channel 12) : (s.setRails v).load = s.load := rfl
@[simp] theorem State.setRails_plan (s : State) (v : Vector Channel 12) : (s.setRails v).plan = s.plan := rfl
@[simp] theorem State.setRails_rails (s : State) (v : Vector Channel 12) : (s.setRails v).rails = v := rfl
@[simp] theorem State.setRails_eng (s : State) (v : Vector Channel 12) : (s.setRails v).eng = s.eng := rfl
@[simp] theorem State.setRails_sense (s : State) (v : Vector Channel 12) : (s.setRails v).sense = s.sense := rfl
@[simp] theorem State.setRails_dpt (s : State) (v : Vector Channel 12) : (s.setRails v).dpt = s.dpt := rfl
@[simp] theorem State.setRails_hbu (s : State) (v : Vector Channel 12) : (s.setRails v).hbu = s.hbu := rfl
@[simp] theorem State.setRails_boc (s : State) (v : Vector Channel 12) : (s.setRails v).boc = s.boc := rfl
@[simp] theorem State.setRails_flb (s : State) (v : Vector Channel 12) : (s.setRails v).flb = s.flb := rfl
@[simp] theorem State.setRails_adu (s : State) (v : Vector Channel 12) : (s.setRails v).adu = s.adu := rfl
@[simp] theorem State.setRails_jnu (s : State) (v : Vector Channel 12) : (s.setRails v).jnu = s.jnu := rfl
@[simp] theorem State.setRails_draws (s : State) (v : Vector Channel 12) : (s.setRails v).draws = s.draws := rfl
@[simp] theorem State.setRails_pending (s : State) (v : Vector Channel 12) : (s.setRails v).pending = s.pending := rfl

@[simp] theorem State.setHbu_clock (s : State) (v : Option Budget) : (s.setHbu v).clock = s.clock := rfl
@[simp] theorem State.setHbu_load (s : State) (v : Option Budget) : (s.setHbu v).load = s.load := rfl
@[simp] theorem State.setHbu_plan (s : State) (v : Option Budget) : (s.setHbu v).plan = s.plan := rfl
@[simp] theorem State.setHbu_rails (s : State) (v : Option Budget) : (s.setHbu v).rails = s.rails := rfl
@[simp] theorem State.setHbu_eng (s : State) (v : Option Budget) : (s.setHbu v).eng = s.eng := rfl
@[simp] theorem State.setHbu_sense (s : State) (v : Option Budget) : (s.setHbu v).sense = s.sense := rfl
@[simp] theorem State.setHbu_dpt (s : State) (v : Option Budget) : (s.setHbu v).dpt = s.dpt := rfl
@[simp] theorem State.setHbu_hbu (s : State) (v : Option Budget) : (s.setHbu v).hbu = v := rfl
@[simp] theorem State.setHbu_boc (s : State) (v : Option Budget) : (s.setHbu v).boc = s.boc := rfl
@[simp] theorem State.setHbu_flb (s : State) (v : Option Budget) : (s.setHbu v).flb = s.flb := rfl
@[simp] theorem State.setHbu_adu (s : State) (v : Option Budget) : (s.setHbu v).adu = s.adu := rfl
@[simp] theorem State.setHbu_jnu (s : State) (v : Option Budget) : (s.setHbu v).jnu = s.jnu := rfl
@[simp] theorem State.setHbu_draws (s : State) (v : Option Budget) : (s.setHbu v).draws = s.draws := rfl
@[simp] theorem State.setHbu_pending (s : State) (v : Option Budget) : (s.setHbu v).pending = s.pending := rfl

@[simp] theorem State.setPlan_clock (s : State) (v : Plan) : (s.setPlan v).clock = s.clock := rfl
@[simp] theorem State.setPlan_load (s : State) (v : Plan) : (s.setPlan v).load = s.load := rfl
@[simp] theorem State.setPlan_plan (s : State) (v : Plan) : (s.setPlan v).plan = v := rfl
@[simp] theorem State.setPlan_rails (s : State) (v : Plan) : (s.setPlan v).rails = s.rails := rfl
@[simp] theorem State.setPlan_eng (s : State) (v : Plan) : (s.setPlan v).eng = s.eng := rfl
@[simp] theorem State.setPlan_sense (s : State) (v : Plan) : (s.setPlan v).sense = s.sense := rfl
@[simp] theorem State.setPlan_dpt (s : State) (v : Plan) : (s.setPlan v).dpt = s.dpt := rfl
@[simp] theorem State.setPlan_hbu (s : State) (v : Plan) : (s.setPlan v).hbu = s.hbu := rfl
@[simp] theorem State.setPlan_boc (s : State) (v : Plan) : (s.setPlan v).boc = s.boc := rfl
@[simp] theorem State.setPlan_flb (s : State) (v : Plan) : (s.setPlan v).flb = s.flb := rfl
@[simp] theorem State.setPlan_adu (s : State) (v : Plan) : (s.setPlan v).adu = s.adu := rfl
@[simp] theorem State.setPlan_jnu (s : State) (v : Plan) : (s.setPlan v).jnu = s.jnu := rfl
@[simp] theorem State.setPlan_draws (s : State) (v : Plan) : (s.setPlan v).draws = s.draws := rfl
@[simp] theorem State.setPlan_pending (s : State) (v : Plan) : (s.setPlan v).pending = s.pending := rfl

@[simp] theorem State.setClock_clock (s : State) (v : Nat) : (s.setClock v).clock = v := rfl
@[simp] theorem State.setClock_load (s : State) (v : Nat) : (s.setClock v).load = s.load := rfl
@[simp] theorem State.setClock_plan (s : State) (v : Nat) : (s.setClock v).plan = s.plan := rfl
@[simp] theorem State.setClock_rails (s : State) (v : Nat) : (s.setClock v).rails = s.rails := rfl
@[simp] theorem State.setClock_eng (s : State) (v : Nat) : (s.setClock v).eng = s.eng := rfl
@[simp] theorem State.setClock_sense (s : State) (v : Nat) : (s.setClock v).sense = s.sense := rfl
@[simp] theorem State.setClock_dpt (s : State) (v : Nat) : (s.setClock v).dpt = s.dpt := rfl
@[simp] theorem State.setClock_hbu (s : State) (v : Nat) : (s.setClock v).hbu = s.hbu := rfl
@[simp] theorem State.setClock_boc (s : State) (v : Nat) : (s.setClock v).boc = s.boc := rfl
@[simp] theorem State.setClock_flb (s : State) (v : Nat) : (s.setClock v).flb = s.flb := rfl
@[simp] theorem State.setClock_adu (s : State) (v : Nat) : (s.setClock v).adu = s.adu := rfl
@[simp] theorem State.setClock_jnu (s : State) (v : Nat) : (s.setClock v).jnu = s.jnu := rfl
@[simp] theorem State.setClock_draws (s : State) (v : Nat) : (s.setClock v).draws = s.draws := rfl
@[simp] theorem State.setClock_pending (s : State) (v : Nat) : (s.setClock v).pending = s.pending := rfl

@[simp] theorem State.setRail_clock (s : State) (ch : Fin 12) (c : Channel) : (s.setRail ch c).clock = s.clock := rfl
@[simp] theorem State.setRail_load (s : State) (ch : Fin 12) (c : Channel) : (s.setRail ch c).load = s.load := rfl
@[simp] theorem State.setRail_plan (s : State) (ch : Fin 12) (c : Channel) : (s.setRail ch c).plan = s.plan := rfl
@[simp] theorem State.setRail_rails (s : State) (ch : Fin 12) (c : Channel) : (s.setRail ch c).rails = s.rails.set ch c := rfl
@[simp] theorem State.setRail_eng (s : State) (ch : Fin 12) (c : Channel) : (s.setRail ch c).eng = s.eng := rfl
@[simp] theorem State.setRail_sense (s : State) (ch : Fin 12) (c : Channel) : (s.setRail ch c).sense = s.sense := rfl
@[simp] theorem State.setRail_dpt (s : State) (ch : Fin 12) (c : Channel) : (s.setRail ch c).dpt = s.dpt := rfl
@[simp] theorem State.setRail_hbu (s : State) (ch : Fin 12) (c : Channel) : (s.setRail ch c).hbu = s.hbu := rfl
@[simp] theorem State.setRail_boc (s : State) (ch : Fin 12) (c : Channel) : (s.setRail ch c).boc = s.boc := rfl
@[simp] theorem State.setRail_flb (s : State) (ch : Fin 12) (c : Channel) : (s.setRail ch c).flb = s.flb := rfl
@[simp] theorem State.setRail_adu (s : State) (ch : Fin 12) (c : Channel) : (s.setRail ch c).adu = s.adu := rfl
@[simp] theorem State.setRail_jnu (s : State) (ch : Fin 12) (c : Channel) : (s.setRail ch c).jnu = s.jnu := rfl
@[simp] theorem State.setRail_draws (s : State) (ch : Fin 12) (c : Channel) : (s.setRail ch c).draws = s.draws := rfl
@[simp] theorem State.setRail_pending (s : State) (ch : Fin 12) (c : Channel) : (s.setRail ch c).pending = s.pending := rfl

@[simp] theorem State.reach_clock (s : State) (due : Nat) : (s.reach due).clock = max s.clock due := rfl
@[simp] theorem State.reach_load (s : State) (due : Nat) : (s.reach due).load = s.load := rfl
@[simp] theorem State.reach_plan (s : State) (due : Nat) : (s.reach due).plan = s.plan := rfl
@[simp] theorem State.reach_rails (s : State) (due : Nat) : (s.reach due).rails = s.rails := rfl
@[simp] theorem State.reach_eng (s : State) (due : Nat) : (s.reach due).eng = s.eng := rfl
@[simp] theorem State.reach_sense (s : State) (due : Nat) : (s.reach due).sense = s.sense := rfl
@[simp] theorem State.reach_dpt (s : State) (due : Nat) : (s.reach due).dpt = s.dpt := rfl
@[simp] theorem State.reach_hbu (s : State) (due : Nat) : (s.reach due).hbu = s.hbu := rfl
@[simp] theorem State.reach_boc (s : State) (due : Nat) : (s.reach due).boc = s.boc := rfl
@[simp] theorem State.reach_flb (s : State) (due : Nat) : (s.reach due).flb = s.flb := rfl
@[simp] theorem State.reach_adu (s : State) (due : Nat) : (s.reach due).adu = s.adu := rfl
@[simp] theorem State.reach_jnu (s : State) (due : Nat) : (s.reach due).jnu = s.jnu := rfl
@[simp] theorem State.reach_draws (s : State) (due : Nat) : (s.reach due).draws = s.draws := rfl
@[simp] theorem State.reach_pending (s : State) (due : Nat) : (s.reach due).pending = s.pending := rfl

/-- The channel just replaced. -/
@[simp] theorem State.setRail_rail_self (s : State) (ch : Fin 12) (c : Channel) : (s.setRail ch c).rail ch = c := by
  simp [State.rail]

/-- Every other channel is as it was. -/
theorem State.setRail_rail_ne (s : State) {ch i : Fin 12} (c : Channel) (h : i ≠ ch) :
    (s.setRail ch c).rail i = s.rail i := by
  have : (ch : Nat) ≠ (i : Nat) := fun e => h (Fin.ext e.symm)
  simp [State.rail, this]

/-- A timer's expiry moves the clock alone. -/
theorem State.reachTimer_eq (s : State) (t : Timer) : ∃ n, s.reachTimer t = s.setClock n := by
  cases t with
  | none => exact ⟨s.clock, rfl⟩
  | some due => exact ⟨max s.clock due, rfl⟩

end Sys2Proof.Machine
end

