-- ==== Sys2Proof/Laws/Frames.lean ====
section
/-! SUPPORT. What each shared operation of the journal, the bridge, the Admission Unit, the Dimming Path and the input
filters leaves as it was. -/

namespace Sys2Proof.Machine

@[simp] theorem State.addLost_frame (s : State) :
    (s.addLost).clock = s.clock ∧ (s.addLost).load = s.load ∧ (s.addLost).plan = s.plan ∧ (s.addLost).rails = s.rails ∧ (s.addLost).eng = s.eng ∧ (s.addLost).sense = s.sense ∧ (s.addLost).dpt = s.dpt ∧ (s.addLost).hbu = s.hbu ∧ (s.addLost).boc = s.boc ∧ (s.addLost).flb = s.flb ∧ (s.addLost).adu = s.adu ∧ (s.addLost).draws = s.draws ∧ (s.addLost).pending = s.pending := by
  simp [State.addLost]

@[simp] theorem State.offerRecord_frame (s : State) (b : RecordBody) :
    (s.offerRecord b).clock = s.clock ∧ (s.offerRecord b).load = s.load ∧ (s.offerRecord b).plan = s.plan ∧ (s.offerRecord b).rails = s.rails ∧ (s.offerRecord b).eng = s.eng ∧ (s.offerRecord b).sense = s.sense ∧ (s.offerRecord b).dpt = s.dpt ∧ (s.offerRecord b).hbu = s.hbu ∧ (s.offerRecord b).boc = s.boc ∧ (s.offerRecord b).flb = s.flb ∧ (s.offerRecord b).adu = s.adu ∧ (s.offerRecord b).draws = s.draws ∧ (s.offerRecord b).pending = s.pending := by
  unfold State.offerRecord; (repeat' split) <;> simp

@[simp] theorem State.handed_frame (s : State) (r : Ring) (e : Bool) (k : WorkKind) :
    (s.handed r e k).clock = s.clock ∧ (s.handed r e k).load = s.load ∧ (s.handed r e k).plan = s.plan ∧ (s.handed r e k).rails = s.rails ∧ (s.handed r e k).eng = s.eng ∧ (s.handed r e k).sense = s.sense ∧ (s.handed r e k).dpt = s.dpt ∧ (s.handed r e k).hbu = s.hbu ∧ (s.handed r e k).boc = s.boc ∧ (s.handed r e k).flb = s.flb ∧ (s.handed r e k).adu = s.adu ∧ (s.handed r e k).draws = s.draws ∧ (s.handed r e k).pending = s.pending := by
  simp [State.handed]

@[simp] theorem State.offerOp_frame (s : State) (i : Issue) :
    (s.offerOp i).clock = s.clock ∧ (s.offerOp i).load = s.load ∧ (s.offerOp i).plan = s.plan ∧ (s.offerOp i).rails = s.rails ∧ (s.offerOp i).eng = s.eng ∧ (s.offerOp i).sense = s.sense ∧ (s.offerOp i).dpt = s.dpt ∧ (s.offerOp i).hbu = s.hbu ∧ (s.offerOp i).boc = s.boc ∧ (s.offerOp i).adu = s.adu ∧ (s.offerOp i).jnu = s.jnu ∧ (s.offerOp i).draws = s.draws ∧ (s.offerOp i).pending = s.pending := by
  simp [State.offerOp]

@[simp] theorem State.survivalEnd_frame (s : State) :
    (s.survivalEnd).clock = s.clock ∧ (s.survivalEnd).load = s.load ∧ (s.survivalEnd).plan = s.plan ∧ (s.survivalEnd).rails = s.rails ∧ (s.survivalEnd).eng = s.eng ∧ (s.survivalEnd).sense = s.sense ∧ (s.survivalEnd).dpt = s.dpt ∧ (s.survivalEnd).hbu = s.hbu ∧ (s.survivalEnd).flb = s.flb ∧ (s.survivalEnd).adu = s.adu ∧ (s.survivalEnd).draws = s.draws ∧ (s.survivalEnd).pending = s.pending := by
  simp [State.survivalEnd]

@[simp] theorem State.survivalBegin_frame (s : State) :
    (s.survivalBegin).clock = s.clock ∧ (s.survivalBegin).load = s.load ∧ (s.survivalBegin).plan = s.plan ∧ (s.survivalBegin).rails = s.rails ∧ (s.survivalBegin).eng = s.eng ∧ (s.survivalBegin).sense = s.sense ∧ (s.survivalBegin).dpt = s.dpt ∧ (s.survivalBegin).hbu = s.hbu ∧ (s.survivalBegin).flb = s.flb ∧ (s.survivalBegin).adu = s.adu ∧ (s.survivalBegin).draws = s.draws ∧ (s.survivalBegin).pending = s.pending := by
  unfold State.survivalBegin; split <;> simp

@[simp] theorem State.writeSurvival_frame (s : State) (r : Record) (g : Ring) (e : Bool) :
    (s.writeSurvival r g e).clock = s.clock ∧ (s.writeSurvival r g e).load = s.load ∧ (s.writeSurvival r g e).plan = s.plan ∧ (s.writeSurvival r g e).rails = s.rails ∧ (s.writeSurvival r g e).eng = s.eng ∧ (s.writeSurvival r g e).sense = s.sense ∧ (s.writeSurvival r g e).dpt = s.dpt ∧ (s.writeSurvival r g e).hbu = s.hbu ∧ (s.writeSurvival r g e).boc = s.boc ∧ (s.writeSurvival r g e).adu = s.adu ∧ (s.writeSurvival r g e).draws = s.draws ∧ (s.writeSurvival r g e).pending = s.pending := by
  simp [State.writeSurvival]

@[simp] theorem State.survivalNoSpace_frame (s : State) :
    (s.survivalNoSpace).clock = s.clock ∧ (s.survivalNoSpace).load = s.load ∧ (s.survivalNoSpace).plan = s.plan ∧ (s.survivalNoSpace).rails = s.rails ∧ (s.survivalNoSpace).eng = s.eng ∧ (s.survivalNoSpace).sense = s.sense ∧ (s.survivalNoSpace).dpt = s.dpt ∧ (s.survivalNoSpace).hbu = s.hbu ∧ (s.survivalNoSpace).flb = s.flb ∧ (s.survivalNoSpace).adu = s.adu ∧ (s.survivalNoSpace).draws = s.draws ∧ (s.survivalNoSpace).pending = s.pending := by
  simp [State.survivalNoSpace]

@[simp] theorem State.survivalOverrun_frame (s : State) (f : InFlight) :
    (s.survivalOverrun f).clock = s.clock ∧ (s.survivalOverrun f).load = s.load ∧ (s.survivalOverrun f).plan = s.plan ∧ (s.survivalOverrun f).rails = s.rails ∧ (s.survivalOverrun f).eng = s.eng ∧ (s.survivalOverrun f).sense = s.sense ∧ (s.survivalOverrun f).dpt = s.dpt ∧ (s.survivalOverrun f).hbu = s.hbu ∧ (s.survivalOverrun f).flb = s.flb ∧ (s.survivalOverrun f).adu = s.adu ∧ (s.survivalOverrun f).draws = s.draws ∧ (s.survivalOverrun f).pending = s.pending := by
  simp [State.survivalOverrun]

@[simp] theorem State.workEnd_frame (s : State) (b : Bool) :
    (s.workEnd b).clock = s.clock ∧ (s.workEnd b).load = s.load ∧ (s.workEnd b).plan = s.plan ∧ (s.workEnd b).rails = s.rails ∧ (s.workEnd b).eng = s.eng ∧ (s.workEnd b).sense = s.sense ∧ (s.workEnd b).dpt = s.dpt ∧ (s.workEnd b).hbu = s.hbu ∧ (s.workEnd b).adu = s.adu ∧ (s.workEnd b).draws = s.draws ∧ (s.workEnd b).pending = s.pending := by
  simp only [State.workEnd]; (repeat' split) <;> simp

@[simp] theorem State.setFailReport_frame (s : State) :
    (s.setFailReport).clock = s.clock ∧ (s.setFailReport).load = s.load ∧ (s.setFailReport).plan = s.plan ∧ (s.setFailReport).rails = s.rails ∧ (s.setFailReport).eng = s.eng ∧ (s.setFailReport).sense = s.sense ∧ (s.setFailReport).dpt = s.dpt ∧ (s.setFailReport).hbu = s.hbu ∧ (s.setFailReport).boc = s.boc ∧ (s.setFailReport).adu = s.adu ∧ (s.setFailReport).jnu = s.jnu ∧ (s.setFailReport).draws = s.draws ∧ (s.setFailReport).pending = s.pending := by
  unfold State.setFailReport; (repeat' split) <;> simp

@[simp] theorem State.clearFailReport_frame (s : State) :
    (s.clearFailReport).clock = s.clock ∧ (s.clearFailReport).load = s.load ∧ (s.clearFailReport).plan = s.plan ∧ (s.clearFailReport).rails = s.rails ∧ (s.clearFailReport).eng = s.eng ∧ (s.clearFailReport).sense = s.sense ∧ (s.clearFailReport).dpt = s.dpt ∧ (s.clearFailReport).hbu = s.hbu ∧ (s.clearFailReport).boc = s.boc ∧ (s.clearFailReport).adu = s.adu ∧ (s.clearFailReport).jnu = s.jnu ∧ (s.clearFailReport).draws = s.draws ∧ (s.clearFailReport).pending = s.pending := by
  simp [State.clearFailReport]

@[simp] theorem State.refusalReport_frame (s : State) (b : Bool) :
    (s.refusalReport b).clock = s.clock ∧ (s.refusalReport b).load = s.load ∧ (s.refusalReport b).plan = s.plan ∧ (s.refusalReport b).rails = s.rails ∧ (s.refusalReport b).eng = s.eng ∧ (s.refusalReport b).sense = s.sense ∧ (s.refusalReport b).dpt = s.dpt ∧ (s.refusalReport b).hbu = s.hbu ∧ (s.refusalReport b).boc = s.boc ∧ (s.refusalReport b).adu = s.adu ∧ (s.refusalReport b).jnu = s.jnu ∧ (s.refusalReport b).draws = s.draws ∧ (s.refusalReport b).pending = s.pending := by
  unfold State.refusalReport; split <;> simp

@[simp] theorem State.lineActive_frame (s : State) :
    (s.lineActive).clock = s.clock ∧ (s.lineActive).load = s.load ∧ (s.lineActive).plan = s.plan ∧ (s.lineActive).rails = s.rails ∧ (s.lineActive).eng = s.eng ∧ (s.lineActive).sense = s.sense ∧ (s.lineActive).dpt = s.dpt ∧ (s.lineActive).hbu = s.hbu ∧ (s.lineActive).boc = s.boc ∧ (s.lineActive).adu = s.adu ∧ (s.lineActive).jnu = s.jnu ∧ (s.lineActive).draws = s.draws ∧ (s.lineActive).pending = s.pending := by
  simp [State.lineActive]

@[simp] theorem State.lineInactive_frame (s : State) :
    (s.lineInactive).clock = s.clock ∧ (s.lineInactive).load = s.load ∧ (s.lineInactive).plan = s.plan ∧ (s.lineInactive).rails = s.rails ∧ (s.lineInactive).eng = s.eng ∧ (s.lineInactive).sense = s.sense ∧ (s.lineInactive).dpt = s.dpt ∧ (s.lineInactive).hbu = s.hbu ∧ (s.lineInactive).boc = s.boc ∧ (s.lineInactive).adu = s.adu ∧ (s.lineInactive).jnu = s.jnu ∧ (s.lineInactive).draws = s.draws ∧ (s.lineInactive).pending = s.pending := by
  simp [State.lineInactive]

@[simp] theorem State.setXfer_frame (s : State) (x : Xfer) (o : UOut) :
    (s.setXfer x o).clock = s.clock ∧ (s.setXfer x o).load = s.load ∧ (s.setXfer x o).plan = s.plan ∧ (s.setXfer x o).rails = s.rails ∧ (s.setXfer x o).eng = s.eng ∧ (s.setXfer x o).sense = s.sense ∧ (s.setXfer x o).dpt = s.dpt ∧ (s.setXfer x o).hbu = s.hbu ∧ (s.setXfer x o).boc = s.boc ∧ (s.setXfer x o).adu = s.adu ∧ (s.setXfer x o).jnu = s.jnu ∧ (s.setXfer x o).draws = s.draws ∧ (s.setXfer x o).pending = s.pending := by
  simp [State.setXfer]

@[simp] theorem State.assertXfer_frame (s : State) :
    (s.assertXfer).clock = s.clock ∧ (s.assertXfer).load = s.load ∧ (s.assertXfer).plan = s.plan ∧ (s.assertXfer).rails = s.rails ∧ (s.assertXfer).eng = s.eng ∧ (s.assertXfer).sense = s.sense ∧ (s.assertXfer).dpt = s.dpt ∧ (s.assertXfer).hbu = s.hbu ∧ (s.assertXfer).boc = s.boc ∧ (s.assertXfer).adu = s.adu ∧ (s.assertXfer).jnu = s.jnu ∧ (s.assertXfer).draws = s.draws ∧ (s.assertXfer).pending = s.pending := by
  unfold State.assertXfer; split <;> simp

@[simp] theorem State.closeTenure_frame (s : State) :
    (s.closeTenure).clock = s.clock ∧ (s.closeTenure).load = s.load ∧ (s.closeTenure).plan = s.plan ∧ (s.closeTenure).rails = s.rails ∧ (s.closeTenure).eng = s.eng ∧ (s.closeTenure).sense = s.sense ∧ (s.closeTenure).dpt = s.dpt ∧ (s.closeTenure).hbu = s.hbu ∧ (s.closeTenure).boc = s.boc ∧ (s.closeTenure).adu = s.adu ∧ (s.closeTenure).jnu = s.jnu ∧ (s.closeTenure).draws = s.draws ∧ (s.closeTenure).pending = s.pending := by
  simp [State.closeTenure]

@[simp] theorem State.setPhase_frame (s : State) (p : Phase) :
    (s.setPhase p).clock = s.clock ∧ (s.setPhase p).load = s.load ∧ (s.setPhase p).plan = s.plan ∧ (s.setPhase p).rails = s.rails ∧ (s.setPhase p).eng = s.eng ∧ (s.setPhase p).sense = s.sense ∧ (s.setPhase p).dpt = s.dpt ∧ (s.setPhase p).hbu = s.hbu ∧ (s.setPhase p).boc = s.boc ∧ (s.setPhase p).adu = s.adu ∧ (s.setPhase p).jnu = s.jnu ∧ (s.setPhase p).draws = s.draws ∧ (s.setPhase p).pending = s.pending := by
  simp [State.setPhase]

@[simp] theorem State.startIssue_frame (s : State) (i : Issue) :
    (s.startIssue i).clock = s.clock ∧ (s.startIssue i).load = s.load ∧ (s.startIssue i).plan = s.plan ∧ (s.startIssue i).rails = s.rails ∧ (s.startIssue i).eng = s.eng ∧ (s.startIssue i).sense = s.sense ∧ (s.startIssue i).dpt = s.dpt ∧ (s.startIssue i).hbu = s.hbu ∧ (s.startIssue i).boc = s.boc ∧ (s.startIssue i).adu = s.adu ∧ (s.startIssue i).jnu = s.jnu ∧ (s.startIssue i).draws = s.draws ∧ (s.startIssue i).pending = s.pending := by
  simp [State.startIssue]

@[simp] theorem State.fateAdmitted_frame (s : State) (c : Command) :
    (s.fateAdmitted c).clock = s.clock ∧ (s.fateAdmitted c).load = s.load ∧ (s.fateAdmitted c).plan = s.plan ∧ (s.fateAdmitted c).rails = s.rails ∧ (s.fateAdmitted c).eng = s.eng ∧ (s.fateAdmitted c).sense = s.sense ∧ (s.fateAdmitted c).dpt = s.dpt ∧ (s.fateAdmitted c).hbu = s.hbu ∧ (s.fateAdmitted c).boc = s.boc ∧ (s.fateAdmitted c).adu = s.adu ∧ (s.fateAdmitted c).jnu = s.jnu ∧ (s.fateAdmitted c).draws = s.draws ∧ (s.fateAdmitted c).pending = s.pending := by
  unfold State.fateAdmitted; split <;> simp

@[simp] theorem State.fatePark_frame (s : State) :
    (s.fatePark).clock = s.clock ∧ (s.fatePark).load = s.load ∧ (s.fatePark).plan = s.plan ∧ (s.fatePark).rails = s.rails ∧ (s.fatePark).eng = s.eng ∧ (s.fatePark).sense = s.sense ∧ (s.fatePark).dpt = s.dpt ∧ (s.fatePark).hbu = s.hbu ∧ (s.fatePark).boc = s.boc ∧ (s.fatePark).adu = s.adu ∧ (s.fatePark).jnu = s.jnu ∧ (s.fatePark).draws = s.draws ∧ (s.fatePark).pending = s.pending := by
  simp [State.fatePark]

@[simp] theorem State.fateRefuse_frame (s : State) (b : Bool) :
    (s.fateRefuse b).clock = s.clock ∧ (s.fateRefuse b).load = s.load ∧ (s.fateRefuse b).plan = s.plan ∧ (s.fateRefuse b).rails = s.rails ∧ (s.fateRefuse b).eng = s.eng ∧ (s.fateRefuse b).sense = s.sense ∧ (s.fateRefuse b).dpt = s.dpt ∧ (s.fateRefuse b).hbu = s.hbu ∧ (s.fateRefuse b).boc = s.boc ∧ (s.fateRefuse b).adu = s.adu ∧ (s.fateRefuse b).jnu = s.jnu ∧ (s.fateRefuse b).draws = s.draws ∧ (s.fateRefuse b).pending = s.pending := by
  simp [State.fateRefuse]

@[simp] theorem State.takePiggyback_frame (s : State) (i : Issue) (b : Bool) :
    (s.takePiggyback i b).clock = s.clock ∧ (s.takePiggyback i b).load = s.load ∧ (s.takePiggyback i b).plan = s.plan ∧ (s.takePiggyback i b).rails = s.rails ∧ (s.takePiggyback i b).eng = s.eng ∧ (s.takePiggyback i b).sense = s.sense ∧ (s.takePiggyback i b).dpt = s.dpt ∧ (s.takePiggyback i b).hbu = s.hbu ∧ (s.takePiggyback i b).boc = s.boc ∧ (s.takePiggyback i b).adu = s.adu ∧ (s.takePiggyback i b).jnu = s.jnu ∧ (s.takePiggyback i b).draws = s.draws ∧ (s.takePiggyback i b).pending = s.pending := by
  simp [State.takePiggyback]

@[simp] theorem State.emptySlot_frame (s : State) :
    (s.emptySlot).clock = s.clock ∧ (s.emptySlot).load = s.load ∧ (s.emptySlot).plan = s.plan ∧ (s.emptySlot).rails = s.rails ∧ (s.emptySlot).eng = s.eng ∧ (s.emptySlot).sense = s.sense ∧ (s.emptySlot).dpt = s.dpt ∧ (s.emptySlot).hbu = s.hbu ∧ (s.emptySlot).boc = s.boc ∧ (s.emptySlot).flb = s.flb ∧ (s.emptySlot).jnu = s.jnu ∧ (s.emptySlot).draws = s.draws ∧ (s.emptySlot).pending = s.pending := by
  simp [State.emptySlot]

@[simp] theorem State.refuseCommand_frame (s : State) (c : Command) (r : RefusalReason) :
    (s.refuseCommand c r).clock = s.clock ∧ (s.refuseCommand c r).load = s.load ∧ (s.refuseCommand c r).plan = s.plan ∧ (s.refuseCommand c r).rails = s.rails ∧ (s.refuseCommand c r).eng = s.eng ∧ (s.refuseCommand c r).sense = s.sense ∧ (s.refuseCommand c r).dpt = s.dpt ∧ (s.refuseCommand c r).hbu = s.hbu ∧ (s.refuseCommand c r).boc = s.boc ∧ (s.refuseCommand c r).draws = s.draws ∧ (s.refuseCommand c r).pending = s.pending := by
  simp [State.refuseCommand]

@[simp] theorem State.parkCommand_frame (s : State) (c : Command) :
    (s.parkCommand c).clock = s.clock ∧ (s.parkCommand c).load = s.load ∧ (s.parkCommand c).plan = s.plan ∧ (s.parkCommand c).rails = s.rails ∧ (s.parkCommand c).eng = s.eng ∧ (s.parkCommand c).sense = s.sense ∧ (s.parkCommand c).dpt = s.dpt ∧ (s.parkCommand c).hbu = s.hbu ∧ (s.parkCommand c).boc = s.boc ∧ (s.parkCommand c).jnu = s.jnu ∧ (s.parkCommand c).draws = s.draws ∧ (s.parkCommand c).pending = s.pending := by
  simp [State.parkCommand]

@[simp] theorem State.admitParked_frame (s : State) (c : Command) :
    (s.admitParked c).clock = s.clock ∧ (s.admitParked c).load = s.load ∧ (s.admitParked c).plan = s.plan ∧ (s.admitParked c).rails = s.rails ∧ (s.admitParked c).eng = s.eng ∧ (s.admitParked c).sense = s.sense ∧ (s.admitParked c).dpt = s.dpt ∧ (s.admitParked c).hbu = s.hbu ∧ (s.admitParked c).boc = s.boc ∧ (s.admitParked c).jnu = s.jnu ∧ (s.admitParked c).draws = s.draws ∧ (s.admitParked c).pending = s.pending := by
  simp [State.admitParked]

@[simp] theorem State.takeCommand_frame (s : State) (c : Command) :
    (s.takeCommand c).clock = s.clock ∧ (s.takeCommand c).load = s.load ∧ (s.takeCommand c).plan = s.plan ∧ (s.takeCommand c).rails = s.rails ∧ (s.takeCommand c).eng = s.eng ∧ (s.takeCommand c).sense = s.sense ∧ (s.takeCommand c).dpt = s.dpt ∧ (s.takeCommand c).hbu = s.hbu ∧ (s.takeCommand c).boc = s.boc ∧ (s.takeCommand c).draws = s.draws ∧ (s.takeCommand c).pending = s.pending := by
  unfold State.takeCommand; split <;> simp

@[simp] theorem State.parkedAtState_frame (s : State) :
    (s.parkedAtState).clock = s.clock ∧ (s.parkedAtState).load = s.load ∧ (s.parkedAtState).plan = s.plan ∧ (s.parkedAtState).rails = s.rails ∧ (s.parkedAtState).eng = s.eng ∧ (s.parkedAtState).sense = s.sense ∧ (s.parkedAtState).dpt = s.dpt ∧ (s.parkedAtState).hbu = s.hbu ∧ (s.parkedAtState).boc = s.boc ∧ (s.parkedAtState).draws = s.draws ∧ (s.parkedAtState).pending = s.pending := by
  unfold State.parkedAtState; (repeat' split) <;> simp

@[simp] theorem State.aduTakes_frame (s : State) (b : Budget) :
    (s.aduTakes b).clock = s.clock ∧ (s.aduTakes b).load = s.load ∧ (s.aduTakes b).plan = s.plan ∧ (s.aduTakes b).rails = s.rails ∧ (s.aduTakes b).eng = s.eng ∧ (s.aduTakes b).sense = s.sense ∧ (s.aduTakes b).dpt = s.dpt ∧ (s.aduTakes b).hbu = s.hbu ∧ (s.aduTakes b).boc = s.boc ∧ (s.aduTakes b).jnu = s.jnu ∧ (s.aduTakes b).draws = s.draws ∧ (s.aduTakes b).pending = s.pending := by
  simp only [State.aduTakes]; (repeat' split) <;> simp

@[simp] theorem State.dimSteadyOut_frame (s : State) :
    (s.dimSteadyOut).clock = s.clock ∧ (s.dimSteadyOut).load = s.load ∧ (s.dimSteadyOut).plan = s.plan ∧ (s.dimSteadyOut).rails = s.rails ∧ (s.dimSteadyOut).eng = s.eng ∧ (s.dimSteadyOut).sense = s.sense ∧ (s.dimSteadyOut).hbu = s.hbu ∧ (s.dimSteadyOut).boc = s.boc ∧ (s.dimSteadyOut).flb = s.flb ∧ (s.dimSteadyOut).adu = s.adu ∧ (s.dimSteadyOut).jnu = s.jnu ∧ (s.dimSteadyOut).draws = s.draws ∧ (s.dimSteadyOut).pending = s.pending := by
  unfold State.dimSteadyOut; (repeat' split) <;> simp

@[simp] theorem State.fixDuty_frame (s : State) :
    (s.fixDuty).clock = s.clock ∧ (s.fixDuty).load = s.load ∧ (s.fixDuty).plan = s.plan ∧ (s.fixDuty).rails = s.rails ∧ (s.fixDuty).eng = s.eng ∧ (s.fixDuty).sense = s.sense ∧ (s.fixDuty).hbu = s.hbu ∧ (s.fixDuty).boc = s.boc ∧ (s.fixDuty).flb = s.flb ∧ (s.fixDuty).adu = s.adu ∧ (s.fixDuty).jnu = s.jnu ∧ (s.fixDuty).draws = s.draws ∧ (s.fixDuty).pending = s.pending := by
  simp [State.fixDuty]

@[simp] theorem State.cutPeriod_frame (s : State) :
    (s.cutPeriod).clock = s.clock ∧ (s.cutPeriod).load = s.load ∧ (s.cutPeriod).plan = s.plan ∧ (s.cutPeriod).rails = s.rails ∧ (s.cutPeriod).eng = s.eng ∧ (s.cutPeriod).sense = s.sense ∧ (s.cutPeriod).hbu = s.hbu ∧ (s.cutPeriod).boc = s.boc ∧ (s.cutPeriod).flb = s.flb ∧ (s.cutPeriod).adu = s.adu ∧ (s.cutPeriod).jnu = s.jnu ∧ (s.cutPeriod).draws = s.draws ∧ (s.cutPeriod).pending = s.pending := by
  simp [State.cutPeriod]

@[simp] theorem State.dimFall_frame (s : State) :
    (s.dimFall).clock = s.clock ∧ (s.dimFall).load = s.load ∧ (s.dimFall).plan = s.plan ∧ (s.dimFall).rails = s.rails ∧ (s.dimFall).eng = s.eng ∧ (s.dimFall).sense = s.sense ∧ (s.dimFall).hbu = s.hbu ∧ (s.dimFall).boc = s.boc ∧ (s.dimFall).flb = s.flb ∧ (s.dimFall).adu = s.adu ∧ (s.dimFall).jnu = s.jnu ∧ (s.dimFall).draws = s.draws ∧ (s.dimFall).pending = s.pending := by
  unfold State.dimFall; split <;> simp

@[simp] theorem State.retarget_frame (s : State) :
    (s.retarget).clock = s.clock ∧ (s.retarget).load = s.load ∧ (s.retarget).plan = s.plan ∧ (s.retarget).rails = s.rails ∧ (s.retarget).eng = s.eng ∧ (s.retarget).sense = s.sense ∧ (s.retarget).hbu = s.hbu ∧ (s.retarget).boc = s.boc ∧ (s.retarget).flb = s.flb ∧ (s.retarget).adu = s.adu ∧ (s.retarget).jnu = s.jnu ∧ (s.retarget).draws = s.draws ∧ (s.retarget).pending = s.pending := by
  simp only [State.retarget]; (repeat' split) <;> simp

@[simp] theorem State.dimRising_frame (s : State) :
    (s.dimRising).clock = s.clock ∧ (s.dimRising).load = s.load ∧ (s.dimRising).plan = s.plan ∧ (s.dimRising).rails = s.rails ∧ (s.dimRising).eng = s.eng ∧ (s.dimRising).hbu = s.hbu ∧ (s.dimRising).boc = s.boc ∧ (s.dimRising).flb = s.flb ∧ (s.dimRising).adu = s.adu ∧ (s.dimRising).jnu = s.jnu ∧ (s.dimRising).draws = s.draws ∧ (s.dimRising).pending = s.pending := by
  simp only [State.dimRising]; (repeat' split) <;> simp

@[simp] theorem State.dimFalling_frame (s : State) :
    (s.dimFalling).clock = s.clock ∧ (s.dimFalling).load = s.load ∧ (s.dimFalling).plan = s.plan ∧ (s.dimFalling).rails = s.rails ∧ (s.dimFalling).eng = s.eng ∧ (s.dimFalling).hbu = s.hbu ∧ (s.dimFalling).boc = s.boc ∧ (s.dimFalling).flb = s.flb ∧ (s.dimFalling).adu = s.adu ∧ (s.dimFalling).jnu = s.jnu ∧ (s.dimFalling).draws = s.draws ∧ (s.dimFalling).pending = s.pending := by
  simp only [State.dimFalling]; (repeat' split) <;> simp

@[simp] theorem State.dimBecomesSteady_frame (s : State) :
    (s.dimBecomesSteady).clock = s.clock ∧ (s.dimBecomesSteady).load = s.load ∧ (s.dimBecomesSteady).plan = s.plan ∧ (s.dimBecomesSteady).rails = s.rails ∧ (s.dimBecomesSteady).eng = s.eng ∧ (s.dimBecomesSteady).hbu = s.hbu ∧ (s.dimBecomesSteady).boc = s.boc ∧ (s.dimBecomesSteady).flb = s.flb ∧ (s.dimBecomesSteady).adu = s.adu ∧ (s.dimBecomesSteady).jnu = s.jnu ∧ (s.dimBecomesSteady).draws = s.draws ∧ (s.dimBecomesSteady).pending = s.pending := by
  simp [State.dimBecomesSteady]

@[simp] theorem State.rampStep_frame (s : State) (d : Nat) :
    (s.rampStep d).clock = s.clock ∧ (s.rampStep d).load = s.load ∧ (s.rampStep d).plan = s.plan ∧ (s.rampStep d).rails = s.rails ∧ (s.rampStep d).eng = s.eng ∧ (s.rampStep d).sense = s.sense ∧ (s.rampStep d).hbu = s.hbu ∧ (s.rampStep d).boc = s.boc ∧ (s.rampStep d).flb = s.flb ∧ (s.rampStep d).adu = s.adu ∧ (s.rampStep d).jnu = s.jnu ∧ (s.rampStep d).draws = s.draws ∧ (s.rampStep d).pending = s.pending := by
  simp [State.rampStep]

@[simp] theorem State.modFilters_frame (s : State) (f : Filters → Filters) :
    (s.modFilters f).clock = s.clock ∧ (s.modFilters f).load = s.load ∧ (s.modFilters f).plan = s.plan ∧ (s.modFilters f).rails = s.rails ∧ (s.modFilters f).eng = s.eng ∧ (s.modFilters f).dpt = s.dpt ∧ (s.modFilters f).hbu = s.hbu ∧ (s.modFilters f).boc = s.boc ∧ (s.modFilters f).flb = s.flb ∧ (s.modFilters f).adu = s.adu ∧ (s.modFilters f).jnu = s.jnu ∧ (s.modFilters f).draws = s.draws ∧ (s.modFilters f).pending = s.pending := by
  simp [State.modFilters]

@[simp] theorem State.pgFiltered_frame (s : State) (ch : Fin 12) (p : RawPin) :
    (s.pgFiltered ch p).load = s.load ∧ (s.pgFiltered ch p).plan = s.plan ∧ (s.pgFiltered ch p).rails = s.rails ∧ (s.pgFiltered ch p).eng = s.eng ∧ (s.pgFiltered ch p).dpt = s.dpt ∧ (s.pgFiltered ch p).hbu = s.hbu ∧ (s.pgFiltered ch p).boc = s.boc ∧ (s.pgFiltered ch p).flb = s.flb ∧ (s.pgFiltered ch p).adu = s.adu ∧ (s.pgFiltered ch p).jnu = s.jnu ∧ (s.pgFiltered ch p).draws = s.draws ∧ (s.pgFiltered ch p).pending = s.pending := by
  simp [State.pgFiltered, State.modFilters]

@[simp] theorem State.auxFiltered_frame (s : State) (i : Fin 2) (p : RawPin) (a : Bool) :
    (s.auxFiltered i p a).load = s.load ∧ (s.auxFiltered i p a).plan = s.plan ∧ (s.auxFiltered i p a).rails = s.rails ∧ (s.auxFiltered i p a).eng = s.eng ∧ (s.auxFiltered i p a).dpt = s.dpt ∧ (s.auxFiltered i p a).hbu = s.hbu ∧ (s.auxFiltered i p a).boc = s.boc ∧ (s.auxFiltered i p a).flb = s.flb ∧ (s.auxFiltered i p a).adu = s.adu ∧ (s.auxFiltered i p a).jnu = s.jnu ∧ (s.auxFiltered i p a).draws = s.draws ∧ (s.auxFiltered i p a).pending = s.pending := by
  simp [State.auxFiltered]

@[simp] theorem State.requestFiltered_frame (s : State) (r : Request) (p : RawPin) :
    (s.requestFiltered r p).load = s.load ∧ (s.requestFiltered r p).plan = s.plan ∧ (s.requestFiltered r p).rails = s.rails ∧ (s.requestFiltered r p).eng = s.eng ∧ (s.requestFiltered r p).dpt = s.dpt ∧ (s.requestFiltered r p).hbu = s.hbu ∧ (s.requestFiltered r p).boc = s.boc ∧ (s.requestFiltered r p).flb = s.flb ∧ (s.requestFiltered r p).adu = s.adu ∧ (s.requestFiltered r p).jnu = s.jnu ∧ (s.requestFiltered r p).draws = s.draws ∧ (s.requestFiltered r p).pending = s.pending := by
  cases r <;> simp [State.requestFiltered, State.modFilters]

@[simp] theorem State.acOkFiltered_frame (s : State) (p : RawPin) :
    (s.acOkFiltered p).load = s.load ∧ (s.acOkFiltered p).plan = s.plan ∧ (s.acOkFiltered p).rails = s.rails ∧ (s.acOkFiltered p).eng = s.eng ∧ (s.acOkFiltered p).dpt = s.dpt ∧ (s.acOkFiltered p).hbu = s.hbu ∧ (s.acOkFiltered p).boc = s.boc ∧ (s.acOkFiltered p).flb = s.flb ∧ (s.acOkFiltered p).adu = s.adu ∧ (s.acOkFiltered p).jnu = s.jnu ∧ (s.acOkFiltered p).draws = s.draws ∧ (s.acOkFiltered p).pending = s.pending := by
  simp [State.acOkFiltered, State.modFilters]

@[simp] theorem State.resetNFiltered_frame (s : State) (h : Bool) (n : Int) :
    (s.resetNFiltered h n).load = s.load ∧ (s.resetNFiltered h n).plan = s.plan ∧ (s.resetNFiltered h n).rails = s.rails ∧ (s.resetNFiltered h n).eng = s.eng ∧ (s.resetNFiltered h n).dpt = s.dpt ∧ (s.resetNFiltered h n).hbu = s.hbu ∧ (s.resetNFiltered h n).boc = s.boc ∧ (s.resetNFiltered h n).flb = s.flb ∧ (s.resetNFiltered h n).adu = s.adu ∧ (s.resetNFiltered h n).jnu = s.jnu ∧ (s.resetNFiltered h n).draws = s.draws ∧ (s.resetNFiltered h n).pending = s.pending := by
  simp [State.resetNFiltered]

end Sys2Proof.Machine
end

