-- ==== Sys2Proof/Laws/EngineFrames.lean ====
section
/-! SUPPORT. What each shared operation of the Sequence Engine leaves as it was. -/

namespace Sys2Proof.Machine

@[simp] theorem State.driveLine_frame (s : State) (l : Fin 6) (a : Bool) :
    (s.driveLine l a).clock = s.clock ∧ (s.driveLine l a).load = s.load ∧ (s.driveLine l a).plan = s.plan ∧ (s.driveLine l a).rails = s.rails ∧ (s.driveLine l a).sense = s.sense ∧ (s.driveLine l a).dpt = s.dpt ∧ (s.driveLine l a).hbu = s.hbu ∧ (s.driveLine l a).boc = s.boc ∧ (s.driveLine l a).adu = s.adu ∧ (s.driveLine l a).jnu = s.jnu ∧ (s.driveLine l a).draws = s.draws ∧ (s.driveLine l a).pending = s.pending := by
  unfold State.driveLine; (repeat' split) <;> simp

@[simp] theorem State.lockBoard_frame (s : State) :
    (s.lockBoard).clock = s.clock ∧ (s.lockBoard).load = s.load ∧ (s.lockBoard).plan = s.plan ∧ (s.lockBoard).rails = s.rails ∧ (s.lockBoard).sense = s.sense ∧ (s.lockBoard).dpt = s.dpt ∧ (s.lockBoard).hbu = s.hbu ∧ (s.lockBoard).boc = s.boc ∧ (s.lockBoard).flb = s.flb ∧ (s.lockBoard).adu = s.adu ∧ (s.lockBoard).jnu = s.jnu ∧ (s.lockBoard).draws = s.draws ∧ (s.lockBoard).pending = s.pending := by
  simp [State.lockBoard]

@[simp] theorem State.lockPanel_frame (s : State) :
    (s.lockPanel).clock = s.clock ∧ (s.lockPanel).load = s.load ∧ (s.lockPanel).plan = s.plan ∧ (s.lockPanel).rails = s.rails ∧ (s.lockPanel).sense = s.sense ∧ (s.lockPanel).dpt = s.dpt ∧ (s.lockPanel).hbu = s.hbu ∧ (s.lockPanel).boc = s.boc ∧ (s.lockPanel).flb = s.flb ∧ (s.lockPanel).adu = s.adu ∧ (s.lockPanel).jnu = s.jnu ∧ (s.lockPanel).draws = s.draws ∧ (s.lockPanel).pending = s.pending := by
  simp [State.lockPanel]

@[simp] theorem State.lockBoth_frame (s : State) :
    (s.lockBoth).clock = s.clock ∧ (s.lockBoth).load = s.load ∧ (s.lockBoth).plan = s.plan ∧ (s.lockBoth).rails = s.rails ∧ (s.lockBoth).sense = s.sense ∧ (s.lockBoth).dpt = s.dpt ∧ (s.lockBoth).hbu = s.hbu ∧ (s.lockBoth).boc = s.boc ∧ (s.lockBoth).flb = s.flb ∧ (s.lockBoth).adu = s.adu ∧ (s.lockBoth).jnu = s.jnu ∧ (s.lockBoth).draws = s.draws ∧ (s.lockBoth).pending = s.pending := by
  simp [State.lockBoth]

@[simp] theorem State.takeClaims_frame (s : State) :
    (s.takeClaims).clock = s.clock ∧ (s.takeClaims).load = s.load ∧ (s.takeClaims).plan = s.plan ∧ (s.takeClaims).rails = s.rails ∧ (s.takeClaims).sense = s.sense ∧ (s.takeClaims).dpt = s.dpt ∧ (s.takeClaims).hbu = s.hbu ∧ (s.takeClaims).boc = s.boc ∧ (s.takeClaims).flb = s.flb ∧ (s.takeClaims).adu = s.adu ∧ (s.takeClaims).jnu = s.jnu ∧ (s.takeClaims).draws = s.draws ∧ (s.takeClaims).pending = s.pending := by
  unfold State.takeClaims; (repeat' split) <;> simp

@[simp] theorem State.seqEnd_frame (s : State) :
    (s.seqEnd).clock = s.clock ∧ (s.seqEnd).load = s.load ∧ (s.seqEnd).plan = s.plan ∧ (s.seqEnd).rails = s.rails ∧ (s.seqEnd).sense = s.sense ∧ (s.seqEnd).dpt = s.dpt ∧ (s.seqEnd).hbu = s.hbu ∧ (s.seqEnd).boc = s.boc ∧ (s.seqEnd).flb = s.flb ∧ (s.seqEnd).adu = s.adu ∧ (s.seqEnd).jnu = s.jnu ∧ (s.seqEnd).draws = s.draws ∧ (s.seqEnd).pending = s.pending := by
  simp [State.seqEnd]

@[simp] theorem State.seqComplete_frame (s : State) (n : SlotName) :
    (s.seqComplete n).clock = s.clock ∧ (s.seqComplete n).load = s.load ∧ (s.seqComplete n).plan = s.plan ∧ (s.seqComplete n).rails = s.rails ∧ (s.seqComplete n).sense = s.sense ∧ (s.seqComplete n).dpt = s.dpt ∧ (s.seqComplete n).hbu = s.hbu ∧ (s.seqComplete n).boc = s.boc ∧ (s.seqComplete n).flb = s.flb ∧ (s.seqComplete n).adu = s.adu ∧ (s.seqComplete n).jnu = s.jnu ∧ (s.seqComplete n).draws = s.draws ∧ (s.seqComplete n).pending = s.pending := by
  simp [State.seqComplete]

@[simp] theorem State.suspend_frame (s : State) :
    (s.suspend).clock = s.clock ∧ (s.suspend).load = s.load ∧ (s.suspend).plan = s.plan ∧ (s.suspend).rails = s.rails ∧ (s.suspend).sense = s.sense ∧ (s.suspend).dpt = s.dpt ∧ (s.suspend).hbu = s.hbu ∧ (s.suspend).boc = s.boc ∧ (s.suspend).flb = s.flb ∧ (s.suspend).adu = s.adu ∧ (s.suspend).jnu = s.jnu ∧ (s.suspend).draws = s.draws ∧ (s.suspend).pending = s.pending := by
  simp [State.suspend]

@[simp] theorem State.nextStep_frame (s : State) (n : SlotName) :
    (s.nextStep n).clock = s.clock ∧ (s.nextStep n).load = s.load ∧ (s.nextStep n).plan = s.plan ∧ (s.nextStep n).rails = s.rails ∧ (s.nextStep n).sense = s.sense ∧ (s.nextStep n).dpt = s.dpt ∧ (s.nextStep n).hbu = s.hbu ∧ (s.nextStep n).boc = s.boc ∧ (s.nextStep n).flb = s.flb ∧ (s.nextStep n).adu = s.adu ∧ (s.nextStep n).jnu = s.jnu ∧ (s.nextStep n).draws = s.draws ∧ (s.nextStep n).pending = s.pending := by
  unfold State.nextStep; split <;> simp

@[simp] theorem State.boundary_frame (s : State) :
    (s.boundary).clock = s.clock ∧ (s.boundary).load = s.load ∧ (s.boundary).plan = s.plan ∧ (s.boundary).rails = s.rails ∧ (s.boundary).sense = s.sense ∧ (s.boundary).dpt = s.dpt ∧ (s.boundary).hbu = s.hbu ∧ (s.boundary).boc = s.boc ∧ (s.boundary).flb = s.flb ∧ (s.boundary).adu = s.adu ∧ (s.boundary).jnu = s.jnu ∧ (s.boundary).draws = s.draws ∧ (s.boundary).pending = s.pending := by
  simp only [State.boundary]; (repeat' split) <;> simp

@[simp] theorem State.stepDone_frame (s : State) :
    (s.stepDone).clock = s.clock ∧ (s.stepDone).load = s.load ∧ (s.stepDone).plan = s.plan ∧ (s.stepDone).rails = s.rails ∧ (s.stepDone).sense = s.sense ∧ (s.stepDone).dpt = s.dpt ∧ (s.stepDone).hbu = s.hbu ∧ (s.stepDone).boc = s.boc ∧ (s.stepDone).flb = s.flb ∧ (s.stepDone).adu = s.adu ∧ (s.stepDone).jnu = s.jnu ∧ (s.stepDone).draws = s.draws ∧ (s.stepDone).pending = s.pending := by
  simp [State.stepDone]

@[simp] theorem State.lockForFailure_frame (s : State) (n : SlotName) :
    (s.lockForFailure n).clock = s.clock ∧ (s.lockForFailure n).load = s.load ∧ (s.lockForFailure n).plan = s.plan ∧ (s.lockForFailure n).rails = s.rails ∧ (s.lockForFailure n).sense = s.sense ∧ (s.lockForFailure n).dpt = s.dpt ∧ (s.lockForFailure n).hbu = s.hbu ∧ (s.lockForFailure n).boc = s.boc ∧ (s.lockForFailure n).flb = s.flb ∧ (s.lockForFailure n).adu = s.adu ∧ (s.lockForFailure n).jnu = s.jnu ∧ (s.lockForFailure n).draws = s.draws ∧ (s.lockForFailure n).pending = s.pending := by
  unfold State.lockForFailure; split <;> simp

@[simp] theorem State.stepFail_frame (s : State) (c : FailCause) :
    (s.stepFail c).clock = s.clock ∧ (s.stepFail c).load = s.load ∧ (s.stepFail c).plan = s.plan ∧ (s.stepFail c).rails = s.rails ∧ (s.stepFail c).sense = s.sense ∧ (s.stepFail c).dpt = s.dpt ∧ (s.stepFail c).hbu = s.hbu ∧ (s.stepFail c).boc = s.boc ∧ (s.stepFail c).flb = s.flb ∧ (s.stepFail c).adu = s.adu ∧ (s.stepFail c).draws = s.draws ∧ (s.stepFail c).pending = s.pending := by
  simp only [State.stepFail]; (repeat' split) <;> simp

@[simp] theorem State.endOnAnswer_frame (s : State) (ch : Fin 12) (a : Answer) :
    (s.endOnAnswer ch a).clock = s.clock ∧ (s.endOnAnswer ch a).load = s.load ∧ (s.endOnAnswer ch a).plan = s.plan ∧ (s.endOnAnswer ch a).rails = s.rails ∧ (s.endOnAnswer ch a).sense = s.sense ∧ (s.endOnAnswer ch a).dpt = s.dpt ∧ (s.endOnAnswer ch a).hbu = s.hbu ∧ (s.endOnAnswer ch a).boc = s.boc ∧ (s.endOnAnswer ch a).flb = s.flb ∧ (s.endOnAnswer ch a).adu = s.adu ∧ (s.endOnAnswer ch a).draws = s.draws ∧ (s.endOnAnswer ch a).pending = s.pending := by
  unfold State.endOnAnswer; split <;> simp

@[simp] theorem State.answerFrom_frame (s : State) (ch : Fin 12) (a : Answer) :
    (s.answerFrom ch a).clock = s.clock ∧ (s.answerFrom ch a).load = s.load ∧ (s.answerFrom ch a).plan = s.plan ∧ (s.answerFrom ch a).rails = s.rails ∧ (s.answerFrom ch a).sense = s.sense ∧ (s.answerFrom ch a).dpt = s.dpt ∧ (s.answerFrom ch a).hbu = s.hbu ∧ (s.answerFrom ch a).boc = s.boc ∧ (s.answerFrom ch a).flb = s.flb ∧ (s.answerFrom ch a).adu = s.adu ∧ (s.answerFrom ch a).draws = s.draws ∧ (s.answerFrom ch a).pending = s.pending := by
  unfold State.answerFrom; (repeat' split) <;> simp

@[simp] theorem State.seqStart_frame (s : State) (n : SlotName) :
    (s.seqStart n).clock = s.clock ∧ (s.seqStart n).load = s.load ∧ (s.seqStart n).plan = s.plan ∧ (s.seqStart n).rails = s.rails ∧ (s.seqStart n).sense = s.sense ∧ (s.seqStart n).dpt = s.dpt ∧ (s.seqStart n).hbu = s.hbu ∧ (s.seqStart n).boc = s.boc ∧ (s.seqStart n).flb = s.flb ∧ (s.seqStart n).adu = s.adu ∧ (s.seqStart n).jnu = s.jnu ∧ (s.seqStart n).draws = s.draws ∧ (s.seqStart n).pending = s.pending := by
  unfold State.seqStart; split <;> simp

@[simp] theorem State.seqBegin_frame (s : State) (n : SlotName) :
    (s.seqBegin n).clock = s.clock ∧ (s.seqBegin n).load = s.load ∧ (s.seqBegin n).plan = s.plan ∧ (s.seqBegin n).rails = s.rails ∧ (s.seqBegin n).sense = s.sense ∧ (s.seqBegin n).dpt = s.dpt ∧ (s.seqBegin n).hbu = s.hbu ∧ (s.seqBegin n).boc = s.boc ∧ (s.seqBegin n).flb = s.flb ∧ (s.seqBegin n).adu = s.adu ∧ (s.seqBegin n).jnu = s.jnu ∧ (s.seqBegin n).draws = s.draws ∧ (s.seqBegin n).pending = s.pending := by
  unfold State.seqBegin; (repeat' split) <;> simp

@[simp] theorem State.dropStep_frame (s : State) :
    (s.dropStep).clock = s.clock ∧ (s.dropStep).load = s.load ∧ (s.dropStep).plan = s.plan ∧ (s.dropStep).sense = s.sense ∧ (s.dropStep).dpt = s.dpt ∧ (s.dropStep).hbu = s.hbu ∧ (s.dropStep).boc = s.boc ∧ (s.dropStep).adu = s.adu ∧ (s.dropStep).jnu = s.jnu ∧ (s.dropStep).draws = s.draws ∧ (s.dropStep).pending = s.pending := by
  unfold State.dropStep; split <;> simp

@[simp] theorem State.preempt_frame (s : State) :
    (s.preempt).clock = s.clock ∧ (s.preempt).load = s.load ∧ (s.preempt).plan = s.plan ∧ (s.preempt).sense = s.sense ∧ (s.preempt).dpt = s.dpt ∧ (s.preempt).hbu = s.hbu ∧ (s.preempt).boc = s.boc ∧ (s.preempt).adu = s.adu ∧ (s.preempt).jnu = s.jnu ∧ (s.preempt).draws = s.draws ∧ (s.preempt).pending = s.pending := by
  simp [State.preempt]

@[simp] theorem State.placeTrip_frame (s : State) (o : ClaimOrigin) :
    (s.placeTrip o).clock = s.clock ∧ (s.placeTrip o).load = s.load ∧ (s.placeTrip o).plan = s.plan ∧ (s.placeTrip o).sense = s.sense ∧ (s.placeTrip o).dpt = s.dpt ∧ (s.placeTrip o).hbu = s.hbu ∧ (s.placeTrip o).boc = s.boc ∧ (s.placeTrip o).adu = s.adu ∧ (s.placeTrip o).jnu = s.jnu ∧ (s.placeTrip o).draws = s.draws ∧ (s.placeTrip o).pending = s.pending := by
  unfold State.placeTrip; (repeat' split) <;> simp

@[simp] theorem State.placeDescent_frame (s : State) :
    (s.placeDescent).clock = s.clock ∧ (s.placeDescent).load = s.load ∧ (s.placeDescent).plan = s.plan ∧ (s.placeDescent).sense = s.sense ∧ (s.placeDescent).dpt = s.dpt ∧ (s.placeDescent).hbu = s.hbu ∧ (s.placeDescent).boc = s.boc ∧ (s.placeDescent).adu = s.adu ∧ (s.placeDescent).jnu = s.jnu ∧ (s.placeDescent).draws = s.draws ∧ (s.placeDescent).pending = s.pending := by
  unfold State.placeDescent; (repeat' split) <;> simp

@[simp] theorem State.markClaim_frame (s : State) (d : Domain) :
    (s.markClaim d).clock = s.clock ∧ (s.markClaim d).load = s.load ∧ (s.markClaim d).plan = s.plan ∧ (s.markClaim d).rails = s.rails ∧ (s.markClaim d).sense = s.sense ∧ (s.markClaim d).dpt = s.dpt ∧ (s.markClaim d).hbu = s.hbu ∧ (s.markClaim d).boc = s.boc ∧ (s.markClaim d).flb = s.flb ∧ (s.markClaim d).adu = s.adu ∧ (s.markClaim d).jnu = s.jnu ∧ (s.markClaim d).draws = s.draws ∧ (s.markClaim d).pending = s.pending := by
  unfold State.markClaim; split <;> simp

@[simp] theorem State.performLine_frame (s : State) :
    (s.performLine).clock = s.clock ∧ (s.performLine).load = s.load ∧ (s.performLine).plan = s.plan ∧ (s.performLine).rails = s.rails ∧ (s.performLine).sense = s.sense ∧ (s.performLine).dpt = s.dpt ∧ (s.performLine).hbu = s.hbu ∧ (s.performLine).boc = s.boc ∧ (s.performLine).adu = s.adu ∧ (s.performLine).jnu = s.jnu ∧ (s.performLine).draws = s.draws ∧ (s.performLine).pending = s.pending := by
  unfold State.performLine; split <;> simp

@[simp] theorem State.lineStep_frame (s : State) (k : StepKind) :
    (s.lineStep k).clock = s.clock ∧ (s.lineStep k).load = s.load ∧ (s.lineStep k).plan = s.plan ∧ (s.lineStep k).rails = s.rails ∧ (s.lineStep k).sense = s.sense ∧ (s.lineStep k).dpt = s.dpt ∧ (s.lineStep k).hbu = s.hbu ∧ (s.lineStep k).boc = s.boc ∧ (s.lineStep k).adu = s.adu ∧ (s.lineStep k).jnu = s.jnu ∧ (s.lineStep k).draws = s.draws ∧ (s.lineStep k).pending = s.pending := by
  unfold State.lineStep; (repeat' split) <;> simp

@[simp] theorem State.orderTaken_frame (s : State) (ch : Fin 12) (st : ChanStep) :
    (s.orderTaken ch st).clock = s.clock ∧ (s.orderTaken ch st).load = s.load ∧ (s.orderTaken ch st).plan = s.plan ∧ (s.orderTaken ch st).sense = s.sense ∧ (s.orderTaken ch st).dpt = s.dpt ∧ (s.orderTaken ch st).hbu = s.hbu ∧ (s.orderTaken ch st).boc = s.boc ∧ (s.orderTaken ch st).flb = s.flb ∧ (s.orderTaken ch st).adu = s.adu ∧ (s.orderTaken ch st).draws = s.draws ∧ (s.orderTaken ch st).pending = s.pending := by
  unfold State.orderTaken; split <;> simp

@[simp] theorem State.awaitStep_frame (s : State) (i : Fin 2) (a : Bool) (ms : Nat) :
    (s.awaitStep i a ms).clock = s.clock ∧ (s.awaitStep i a ms).load = s.load ∧ (s.awaitStep i a ms).plan = s.plan ∧ (s.awaitStep i a ms).rails = s.rails ∧ (s.awaitStep i a ms).sense = s.sense ∧ (s.awaitStep i a ms).dpt = s.dpt ∧ (s.awaitStep i a ms).hbu = s.hbu ∧ (s.awaitStep i a ms).boc = s.boc ∧ (s.awaitStep i a ms).flb = s.flb ∧ (s.awaitStep i a ms).adu = s.adu ∧ (s.awaitStep i a ms).jnu = s.jnu ∧ (s.awaitStep i a ms).draws = s.draws ∧ (s.awaitStep i a ms).pending = s.pending := by
  unfold State.awaitStep; split <;> simp

@[simp] theorem State.quiesceStep_frame (s : State) :
    (s.quiesceStep).clock = s.clock ∧ (s.quiesceStep).load = s.load ∧ (s.quiesceStep).plan = s.plan ∧ (s.quiesceStep).rails = s.rails ∧ (s.quiesceStep).sense = s.sense ∧ (s.quiesceStep).dpt = s.dpt ∧ (s.quiesceStep).hbu = s.hbu ∧ (s.quiesceStep).boc = s.boc ∧ (s.quiesceStep).flb = s.flb ∧ (s.quiesceStep).adu = s.adu ∧ (s.quiesceStep).jnu = s.jnu ∧ (s.quiesceStep).draws = s.draws ∧ (s.quiesceStep).pending = s.pending := by
  unfold State.quiesceStep; (repeat' split) <;> simp

@[simp] theorem State.beginStep_frame (s : State) (k : StepKind) :
    (s.beginStep k).clock = s.clock ∧ (s.beginStep k).load = s.load ∧ (s.beginStep k).plan = s.plan ∧ (s.beginStep k).sense = s.sense ∧ (s.beginStep k).hbu = s.hbu ∧ (s.beginStep k).boc = s.boc ∧ (s.beginStep k).adu = s.adu ∧ (s.beginStep k).draws = s.draws ∧ (s.beginStep k).pending = s.pending := by
  unfold State.beginStep; split <;> simp

@[simp] theorem State.rejudge_frame (s : State) :
    (s.rejudge).clock = s.clock ∧ (s.rejudge).load = s.load ∧ (s.rejudge).plan = s.plan ∧ (s.rejudge).rails = s.rails ∧ (s.rejudge).sense = s.sense ∧ (s.rejudge).dpt = s.dpt ∧ (s.rejudge).hbu = s.hbu ∧ (s.rejudge).boc = s.boc ∧ (s.rejudge).flb = s.flb ∧ (s.rejudge).adu = s.adu ∧ (s.rejudge).jnu = s.jnu ∧ (s.rejudge).draws = s.draws ∧ (s.rejudge).pending = s.pending := by
  unfold State.rejudge; (repeat' split) <;> simp

@[simp] theorem State.releaseHold_frame (s : State) :
    (s.releaseHold).clock = s.clock ∧ (s.releaseHold).load = s.load ∧ (s.releaseHold).plan = s.plan ∧ (s.releaseHold).rails = s.rails ∧ (s.releaseHold).sense = s.sense ∧ (s.releaseHold).dpt = s.dpt ∧ (s.releaseHold).hbu = s.hbu ∧ (s.releaseHold).boc = s.boc ∧ (s.releaseHold).flb = s.flb ∧ (s.releaseHold).adu = s.adu ∧ (s.releaseHold).jnu = s.jnu ∧ (s.releaseHold).draws = s.draws ∧ (s.releaseHold).pending = s.pending := by
  simp [State.releaseHold]

@[simp] theorem State.takeStep_frame (s : State) (k : StepKind) :
    (s.takeStep k).clock = s.clock ∧ (s.takeStep k).load = s.load ∧ (s.takeStep k).plan = s.plan ∧ (s.takeStep k).sense = s.sense ∧ (s.takeStep k).hbu = s.hbu ∧ (s.takeStep k).boc = s.boc ∧ (s.takeStep k).adu = s.adu ∧ (s.takeStep k).draws = s.draws ∧ (s.takeStep k).pending = s.pending := by
  simp only [State.takeStep]; (repeat' split) <;> simp

end Sys2Proof.Machine
end

