-- ==== Sys2Proof/Laws/ControllerFrames.lean ====
section
/-! SUPPORT. What each shared operation of the Brown-Out Controller leaves as it was. -/

namespace Sys2Proof.Machine

@[simp] theorem State.setShed_frame (s : State) (n : Nat) :
    (s.setShed n).clock = s.clock ∧ (s.setShed n).load = s.load ∧ (s.setShed n).plan = s.plan ∧ (s.setShed n).sense = s.sense ∧ (s.setShed n).hbu = s.hbu ∧ (s.setShed n).flb = s.flb ∧ (s.setShed n).adu = s.adu ∧ (s.setShed n).draws = s.draws ∧ (s.setShed n).pending = s.pending := by
  unfold State.setShed; (repeat' split) <;> simp

@[simp] theorem State.markStale_frame (s : State) (p : Nat) :
    (s.markStale p).clock = s.clock ∧ (s.markStale p).load = s.load ∧ (s.markStale p).plan = s.plan ∧ (s.markStale p).rails = s.rails ∧ (s.markStale p).eng = s.eng ∧ (s.markStale p).sense = s.sense ∧ (s.markStale p).dpt = s.dpt ∧ (s.markStale p).hbu = s.hbu ∧ (s.markStale p).flb = s.flb ∧ (s.markStale p).adu = s.adu ∧ (s.markStale p).jnu = s.jnu ∧ (s.markStale p).draws = s.draws ∧ (s.markStale p).pending = s.pending := by
  simp [State.markStale]

@[simp] theorem State.openDip_frame (s : State) :
    (s.openDip).clock = s.clock ∧ (s.openDip).load = s.load ∧ (s.openDip).plan = s.plan ∧ (s.openDip).rails = s.rails ∧ (s.openDip).eng = s.eng ∧ (s.openDip).sense = s.sense ∧ (s.openDip).dpt = s.dpt ∧ (s.openDip).hbu = s.hbu ∧ (s.openDip).flb = s.flb ∧ (s.openDip).adu = s.adu ∧ (s.openDip).jnu = s.jnu ∧ (s.openDip).draws = s.draws ∧ (s.openDip).pending = s.pending := by
  simp [State.openDip]

@[simp] theorem State.enterDip_frame (s : State) :
    (s.enterDip).clock = s.clock ∧ (s.enterDip).load = s.load ∧ (s.enterDip).plan = s.plan ∧ (s.enterDip).rails = s.rails ∧ (s.enterDip).eng = s.eng ∧ (s.enterDip).sense = s.sense ∧ (s.enterDip).dpt = s.dpt ∧ (s.enterDip).hbu = s.hbu ∧ (s.enterDip).draws = s.draws ∧ (s.enterDip).pending = s.pending := by
  simp [State.enterDip]

@[simp] theorem State.normalFromRecover_frame (s : State) :
    (s.normalFromRecover).clock = s.clock ∧ (s.normalFromRecover).load = s.load ∧ (s.normalFromRecover).plan = s.plan ∧ (s.normalFromRecover).rails = s.rails ∧ (s.normalFromRecover).sense = s.sense ∧ (s.normalFromRecover).dpt = s.dpt ∧ (s.normalFromRecover).hbu = s.hbu ∧ (s.normalFromRecover).draws = s.draws ∧ (s.normalFromRecover).pending = s.pending := by
  simp [State.normalFromRecover]

@[simp] theorem State.restoreStep_frame (s : State) :
    (s.restoreStep).clock = s.clock ∧ (s.restoreStep).load = s.load ∧ (s.restoreStep).plan = s.plan ∧ (s.restoreStep).sense = s.sense ∧ (s.restoreStep).hbu = s.hbu ∧ (s.restoreStep).draws = s.draws ∧ (s.restoreStep).pending = s.pending := by
  unfold State.restoreStep; split <;> simp

@[simp] theorem State.closeDip_frame (s : State) :
    (s.closeDip).clock = s.clock ∧ (s.closeDip).load = s.load ∧ (s.closeDip).plan = s.plan ∧ (s.closeDip).rails = s.rails ∧ (s.closeDip).eng = s.eng ∧ (s.closeDip).sense = s.sense ∧ (s.closeDip).dpt = s.dpt ∧ (s.closeDip).hbu = s.hbu ∧ (s.closeDip).flb = s.flb ∧ (s.closeDip).adu = s.adu ∧ (s.closeDip).draws = s.draws ∧ (s.closeDip).pending = s.pending := by
  unfold State.closeDip; split <;> simp

@[simp] theorem State.enterRecover_frame (s : State) :
    (s.enterRecover).clock = s.clock ∧ (s.enterRecover).load = s.load ∧ (s.enterRecover).plan = s.plan ∧ (s.enterRecover).sense = s.sense ∧ (s.enterRecover).hbu = s.hbu ∧ (s.enterRecover).draws = s.draws ∧ (s.enterRecover).pending = s.pending := by
  unfold State.enterRecover; split <;> simp

@[simp] theorem State.enterCommit_frame (s : State) (r : CommitReason) :
    (s.enterCommit r).clock = s.clock ∧ (s.enterCommit r).load = s.load ∧ (s.enterCommit r).plan = s.plan ∧ (s.enterCommit r).sense = s.sense ∧ (s.enterCommit r).hbu = s.hbu ∧ (s.enterCommit r).draws = s.draws ∧ (s.enterCommit r).pending = s.pending := by
  simp [State.enterCommit]

@[simp] theorem State.markAtRisk_frame (s : State) :
    (s.markAtRisk).clock = s.clock ∧ (s.markAtRisk).load = s.load ∧ (s.markAtRisk).plan = s.plan ∧ (s.markAtRisk).rails = s.rails ∧ (s.markAtRisk).eng = s.eng ∧ (s.markAtRisk).sense = s.sense ∧ (s.markAtRisk).dpt = s.dpt ∧ (s.markAtRisk).hbu = s.hbu ∧ (s.markAtRisk).adu = s.adu ∧ (s.markAtRisk).jnu = s.jnu ∧ (s.markAtRisk).draws = s.draws ∧ (s.markAtRisk).pending = s.pending := by
  unfold State.markAtRisk; split <;> simp

@[simp] theorem State.enterDescent_frame (s : State) :
    (s.enterDescent).clock = s.clock ∧ (s.enterDescent).load = s.load ∧ (s.enterDescent).plan = s.plan ∧ (s.enterDescent).sense = s.sense ∧ (s.enterDescent).dpt = s.dpt ∧ (s.enterDescent).hbu = s.hbu ∧ (s.enterDescent).draws = s.draws ∧ (s.enterDescent).pending = s.pending := by
  simp [State.enterDescent]

@[simp] theorem State.enterDark_frame (s : State) :
    (s.enterDark).clock = s.clock ∧ (s.enterDark).load = s.load ∧ (s.enterDark).plan = s.plan ∧ (s.enterDark).rails = s.rails ∧ (s.enterDark).sense = s.sense ∧ (s.enterDark).dpt = s.dpt ∧ (s.enterDark).hbu = s.hbu ∧ (s.enterDark).draws = s.draws ∧ (s.enterDark).pending = s.pending := by
  simp [State.enterDark]

@[simp] theorem State.rearm_frame (s : State) :
    (s.rearm).clock = s.clock ∧ (s.rearm).load = s.load ∧ (s.rearm).plan = s.plan ∧ (s.rearm).sense = s.sense ∧ (s.rearm).hbu = s.hbu ∧ (s.rearm).draws = s.draws ∧ (s.rearm).pending = s.pending := by
  unfold State.rearm; split <;> simp

@[simp] theorem State.normalFromInit_frame (s : State) :
    (s.normalFromInit).clock = s.clock ∧ (s.normalFromInit).load = s.load ∧ (s.normalFromInit).plan = s.plan ∧ (s.normalFromInit).rails = s.rails ∧ (s.normalFromInit).eng = s.eng ∧ (s.normalFromInit).sense = s.sense ∧ (s.normalFromInit).dpt = s.dpt ∧ (s.normalFromInit).hbu = s.hbu ∧ (s.normalFromInit).draws = s.draws ∧ (s.normalFromInit).pending = s.pending := by
  simp [State.normalFromInit]

@[simp] theorem State.collapseDown_frame (s : State) (n : Option CommitNotes) :
    (s.collapseDown n).clock = s.clock ∧ (s.collapseDown n).load = s.load ∧ (s.collapseDown n).plan = s.plan ∧ (s.collapseDown n).sense = s.sense ∧ (s.collapseDown n).hbu = s.hbu ∧ (s.collapseDown n).draws = s.draws ∧ (s.collapseDown n).pending = s.pending := by
  unfold State.collapseDown; split <;> simp

@[simp] theorem State.bocCollapse_frame (s : State) :
    (s.bocCollapse).clock = s.clock ∧ (s.bocCollapse).load = s.load ∧ (s.bocCollapse).plan = s.plan ∧ (s.bocCollapse).sense = s.sense ∧ (s.bocCollapse).hbu = s.hbu ∧ (s.bocCollapse).draws = s.draws ∧ (s.bocCollapse).pending = s.pending := by
  unfold State.bocCollapse; split <;> simp

@[simp] theorem State.stormTest_frame (s : State) :
    (s.stormTest).clock = s.clock ∧ (s.stormTest).load = s.load ∧ (s.stormTest).plan = s.plan ∧ (s.stormTest).rails = s.rails ∧ (s.stormTest).eng = s.eng ∧ (s.stormTest).sense = s.sense ∧ (s.stormTest).dpt = s.dpt ∧ (s.stormTest).hbu = s.hbu ∧ (s.stormTest).flb = s.flb ∧ (s.stormTest).adu = s.adu ∧ (s.stormTest).jnu = s.jnu ∧ (s.stormTest).draws = s.draws ∧ (s.stormTest).pending = s.pending := by
  simp [State.stormTest]

@[simp] theorem State.lossInNormal_frame (s : State) :
    (s.lossInNormal).clock = s.clock ∧ (s.lossInNormal).load = s.load ∧ (s.lossInNormal).plan = s.plan ∧ (s.lossInNormal).sense = s.sense ∧ (s.lossInNormal).hbu = s.hbu ∧ (s.lossInNormal).draws = s.draws ∧ (s.lossInNormal).pending = s.pending := by
  simp only [State.lossInNormal]; (repeat' split) <;> simp

@[simp] theorem State.bocLoss_frame (s : State) :
    (s.bocLoss).clock = s.clock ∧ (s.bocLoss).load = s.load ∧ (s.bocLoss).plan = s.plan ∧ (s.bocLoss).sense = s.sense ∧ (s.bocLoss).hbu = s.hbu ∧ (s.bocLoss).draws = s.draws ∧ (s.bocLoss).pending = s.pending := by
  unfold State.bocLoss; split <;> simp

@[simp] theorem State.bocReturn_frame (s : State) :
    (s.bocReturn).clock = s.clock ∧ (s.bocReturn).load = s.load ∧ (s.bocReturn).plan = s.plan ∧ (s.bocReturn).sense = s.sense ∧ (s.bocReturn).hbu = s.hbu ∧ (s.bocReturn).draws = s.draws ∧ (s.bocReturn).pending = s.pending := by
  unfold State.bocReturn; split <;> simp

@[simp] theorem State.bocTakes_frame (s : State) (r : Budget) :
    (s.bocTakes r).clock = s.clock ∧ (s.bocTakes r).load = s.load ∧ (s.bocTakes r).plan = s.plan ∧ (s.bocTakes r).sense = s.sense ∧ (s.bocTakes r).hbu = s.hbu ∧ (s.bocTakes r).draws = s.draws ∧ (s.bocTakes r).pending = s.pending := by
  unfold State.bocTakes; (repeat' split) <;> simp

@[simp] theorem State.holdMark_frame (s : State) (d : Domain) :
    (s.holdMark d).clock = s.clock ∧ (s.holdMark d).load = s.load ∧ (s.holdMark d).plan = s.plan ∧ (s.holdMark d).rails = s.rails ∧ (s.holdMark d).eng = s.eng ∧ (s.holdMark d).sense = s.sense ∧ (s.holdMark d).dpt = s.dpt ∧ (s.holdMark d).hbu = s.hbu ∧ (s.holdMark d).flb = s.flb ∧ (s.holdMark d).adu = s.adu ∧ (s.holdMark d).jnu = s.jnu ∧ (s.holdMark d).draws = s.draws ∧ (s.holdMark d).pending = s.pending := by
  simp [State.holdMark]

@[simp] theorem State.bocFault_frame (s : State) (e : RailEntry) (k : FaultKind) :
    (s.bocFault e k).clock = s.clock ∧ (s.bocFault e k).load = s.load ∧ (s.bocFault e k).plan = s.plan ∧ (s.bocFault e k).sense = s.sense ∧ (s.bocFault e k).hbu = s.hbu ∧ (s.bocFault e k).draws = s.draws ∧ (s.bocFault e k).pending = s.pending := by
  unfold State.bocFault; (repeat' split) <;> simp

@[simp] theorem State.engineFault_frame (s : State) (e : RailEntry) :
    (s.engineFault e).clock = s.clock ∧ (s.engineFault e).load = s.load ∧ (s.engineFault e).plan = s.plan ∧ (s.engineFault e).sense = s.sense ∧ (s.engineFault e).dpt = s.dpt ∧ (s.engineFault e).hbu = s.hbu ∧ (s.engineFault e).boc = s.boc ∧ (s.engineFault e).adu = s.adu ∧ (s.engineFault e).jnu = s.jnu ∧ (s.engineFault e).draws = s.draws ∧ (s.engineFault e).pending = s.pending := by
  unfold State.engineFault; split <;> simp

@[simp] theorem State.faultRecord_frame (s : State) (ch : Fin 12) (k : FaultKind) :
    (s.faultRecord ch k).clock = s.clock ∧ (s.faultRecord ch k).load = s.load ∧ (s.faultRecord ch k).plan = s.plan ∧ (s.faultRecord ch k).rails = s.rails ∧ (s.faultRecord ch k).eng = s.eng ∧ (s.faultRecord ch k).sense = s.sense ∧ (s.faultRecord ch k).dpt = s.dpt ∧ (s.faultRecord ch k).hbu = s.hbu ∧ (s.faultRecord ch k).boc = s.boc ∧ (s.faultRecord ch k).flb = s.flb ∧ (s.faultRecord ch k).adu = s.adu ∧ (s.faultRecord ch k).draws = s.draws ∧ (s.faultRecord ch k).pending = s.pending := by
  simp [State.faultRecord]

@[simp] theorem State.chanEvent_frame (s : State) (ch : Fin 12) (st : ChanStep) :
    (s.chanEvent ch st).clock = s.clock ∧ (s.chanEvent ch st).load = s.load ∧ (s.chanEvent ch st).plan = s.plan ∧ (s.chanEvent ch st).sense = s.sense ∧ (s.chanEvent ch st).hbu = s.hbu ∧ (s.chanEvent ch st).draws = s.draws ∧ (s.chanEvent ch st).pending = s.pending := by
  unfold State.chanEvent; (repeat' split) <;> simp

end Sys2Proof.Machine
end

