-- ==== Sys2Proof/Laws/DLink.lean ====
section
/-! SUPPORT. The times of the part's own D-link transactions, and when a filtered input changes. -/

namespace Sys2Proof.Machine

@[simp] theorem leBytes_length (n v : Nat) : (leBytes n v).length = n := by
  induction n generalizing v with
  | zero => rfl
  | succ n ih => simp [leBytes, ih]

@[simp] theorem beBytes_length (n v : Nat) : (beBytes n v).length = n := by simp [beBytes]

/-- Bytes on a number of lanes take a clock for each group of that many bits (R118). -/
@[simp] theorem length_sentOn (lanes : Nat) (bytes : List Byte) : (sentOn lanes bytes).length = bytes.length * (8 / lanes) := by
  simp [sentOn, List.length_flatMap, List.map_const', List.sum_replicate]

/-- A transaction gives its lanes levels for each of its clocks (R118, R119). -/
theorem Transaction.length_lanes (t : Transaction) (ha : t.addrLanes ∣ 8) (hd : t.dataLanes ∣ 8) :
    t.lanes.length = t.clocks := by
  simp only [Transaction.lanes, Transaction.clocks, laneClocks, List.length_append, length_sentOn, List.length_singleton,
    List.length_replicate, Nat.mul_div_assoc _ ha, Nat.mul_div_assoc _ hd, Nat.div_one]
  have := Nat.add_mul t.data.length t.reads (8 / t.dataLanes)
  omega

/-- A command of the bridge's own that reads nothing takes the eight clocks of its opcode (R131, R139). -/
@[simp] theorem Plan.ownCommand_counts (p : Plan) (cls : FlashClass) :
    (p.ownCommand cls 0).counts = 8 * (p.div + 1) := by
  simp [Plan.ownCommand, Transaction.counts, Transaction.clocks, laneClocks]

/-- REFUSING takes the eight clocks of write-disable (R139). -/
@[simp] theorem Plan.refusing_counts (p : Plan) : p.refusing.counts = 8 * (p.div + 1) := p.ownCommand_counts _

/-- ISSUING takes the clocks of write-enable and of the command's opcode, address bytes and data bytes (R131). -/
theorem Plan.issuing_counts (p : Plan) (i : Issue) :
    countsOf (p.issuing i) =
      (16 + i.addrBytes * 8 / i.addrLanes + i.data.length * 8 / i.dataLanes) * (p.div + 1) := by
  have h : (p.commandOf i).counts =
      (8 + i.addrBytes * 8 / i.addrLanes + i.data.length * 8 / i.dataLanes) * (p.div + 1) := by
    simp [Plan.commandOf, Transaction.counts, Transaction.clocks, laneClocks]
  simp only [countsOf, Plan.issuing, List.map_cons, List.map_nil, List.sum_cons, List.sum_nil, h,
    Plan.ownCommand_counts, Nat.add_zero, ← Nat.add_mul]
  congr 1
  omega

/-- A filtered input changes no sooner than its filter time after the raw level came, after the filter's start and after
its last change (R57). -/
theorem le_pinDue (pin : RawPin) (from_ time : Nat) : pin.since + time ≤ pinDue pin from_ time ∧ from_ + time ≤ pinDue pin from_ time := by
  simp only [pinDue]; omega

/-- The ring that a one-slot record is written to has a known-erased slot (R169). -/
theorem Journal.forRecord_eq_some {p : Plan} {j : Journal} {r : Ring} {e : Bool} (h : j.forRecord p = some (r, e)) :
    ∃ ring, j.ring = some ring ∧
      ((1 ≤ ring.room ∧ r = ring ∧ e = j.nextErased) ∨
        (ring.room = 0 ∧ j.nextErased = true ∧ r = ring.advance p ∧ e = false)) := by
  unfold Journal.forRecord at h
  split at h
  · cases h
  · rename_i ring heq
    refine ⟨ring, heq, ?_⟩
    split at h
    · cases h; exact .inl ⟨‹_›, rfl, rfl⟩
    · split at h
      · cases h; exact .inr ⟨by omega, ‹_›, rfl, rfl⟩
      · cases h

end Sys2Proof.Machine
end

