-- ==== Sys2Proof/Laws/Settle.lean ====
section
/-! SUPPORT. What the operations that may answer nothing leave as it was, and what follows of itself after an event:
`react` and `settle`. -/

namespace Sys2Proof.Machine

/-! ### The Journal Unit's hand-overs -/

theorem State.handRecord_frame {s t : State} {r : Record} {k : WorkKind} {i : Issue}
    (h : s.handRecord r k = some (i, t)) : ∃ j, t = { s with jnu := j } := by
  unfold State.handRecord at h
  split at h
  · cases h
  · cases h; exact ⟨_, rfl⟩

theorem State.handHead_frame {s t : State} {i : Issue} (h : s.handHead = some (i, t)) :
    ∃ j, t = { s with jnu := j } := by
  unfold State.handHead at h
  split at h
  · cases h
  · exact State.handRecord_frame h

theorem State.handErase_frame {s t : State} {i : Issue} (h : s.handErase = some (i, t)) :
    ∃ j, t = { s with jnu := j } := by
  unfold State.handErase at h
  split at h
  · split at h
    · cases h; exact ⟨_, rfl⟩
    · cases h
  · cases h

theorem State.quietWork_frame {s t : State} (h : s.quietWork = some t) :
    ∃ j f, t = { s with jnu := j, flb := f } := by
  unfold State.quietWork at h
  split at h
  · split at h
    · rename_i heq
      obtain ⟨j, rfl⟩ := State.handHead_frame heq
      cases h; exact ⟨_, _, rfl⟩
    · split at h
      · rename_i heq
        obtain ⟨j, rfl⟩ := State.handErase_frame heq
        cases h; exact ⟨_, _, rfl⟩
      · cases h
  · cases h

/-! ### The SURVIVAL work -/

theorem State.survivalHand_frame (s : State) (r : Record) :
    ∃ j f v, s.survivalHand r = { s with jnu := j, flb := f, boc := { s.boc with survival := v } } := by
  have noSpace (s : State) : ∃ j f v, s.survivalNoSpace = { s with jnu := j, flb := f, boc := { s.boc with survival := v } } :=
    ⟨_, _, _, rfl⟩
  have write (s : State) (r : Record) (g : Ring) (e : Bool) :
      ∃ j f v, s.writeSurvival r g e = { s with jnu := j, flb := f, boc := { s.boc with survival := v } } := ⟨_, _, _, rfl⟩
  unfold State.survivalHand
  split
  · exact noSpace s
  · split
    · exact write _ _ _ _
    · split
      · split
        · rename_i heq
          obtain ⟨j, rfl⟩ := State.handRecord_frame heq
          exact ⟨_, _, _, rfl⟩
        · exact noSpace s
      · exact write _ _ _ _

theorem State.survivalJudge_frame (s : State) (r : Record) :
    ∃ j v, s.survivalJudge r = { s with jnu := j, boc := { s.boc with survival := v } } := by
  unfold State.survivalJudge
  split
  · exact ⟨_, _, rfl⟩
  · exact ⟨_, _, rfl⟩

theorem State.survivalOverrun_frame' (s : State) (f : InFlight) :
    ∃ j v, s.survivalOverrun f = { s with jnu := j, boc := { s.boc with survival := v } } := by
  unfold State.survivalOverrun State.offerRecord
  split
  · exact ⟨_, _, rfl⟩
  · split <;> exact ⟨_, _, rfl⟩

theorem State.survivalWaitEnd_frame {s t : State} (h : s.survivalWaitEnd = some t) :
    ∃ j f v, t = { s with jnu := j, flb := f, boc := { s.boc with survival := v } } := by
  unfold State.survivalWaitEnd at h
  split at h
  · split at h
    · split at h
      · cases h
        obtain ⟨j, v, e⟩ := State.survivalOverrun_frame' s _
        exact ⟨j, s.flb, v, by rw [e]⟩
      · cases h
    · split at h
      · cases h
        obtain ⟨j, v, e⟩ := State.survivalJudge_frame s _
        exact ⟨j, s.flb, v, by rw [e]⟩
      · cases h
  · split at h
    · cases h; exact State.survivalHand_frame _ _
    · cases h
  all_goals cases h

/-! ### The bridge's offers -/

theorem State.takeOffer_frame {s t : State} (h : s.takeOffer = some t) : ∃ f, t = { s with flb := f } := by
  unfold State.takeOffer at h
  split at h
  · cases h
  · split at h
    · split at h
      all_goals (try split at h) <;> cases h
      all_goals exact ⟨_, rfl⟩
    · cases h

theorem State.linkReact_frame {s t : State} (h : s.linkReact = some t) : ∃ f, t = { s with flb := f } := by
  unfold State.linkReact at h
  split at h
  all_goals (try split at h) <;> cases h
  all_goals exact ⟨_, rfl⟩

theorem State.offerPiggyback_frame (s : State) (n : Nat) (e : Bool) :
    ∃ j f, s.offerPiggyback n e = { s with jnu := j, flb := f } := by
  have close (s : State) (f : Bridge) : ∃ j g, State.closeTenure { s with flb := f } = { s with jnu := j, flb := g } :=
    ⟨_, _, rfl⟩
  unfold State.offerPiggyback
  simp only
  split
  · exact close s _
  · split
    · rename_i heq
      split at heq
      · obtain ⟨j, rfl⟩ := State.handHead_frame heq
        exact ⟨_, _, rfl⟩
      · cases heq
    · split
      · rename_i heq
        split at heq
        · obtain ⟨j, rfl⟩ := State.handErase_frame heq
          exact ⟨_, _, rfl⟩
        · cases heq
      · exact close s _

theorem State.tenureAtEnd_frame (s : State) (f : InFlight) (b : Bool) :
    ∃ j g, s.tenureAtEnd f b = { s with jnu := j, flb := g } := by
  have close (s : State) : ∃ j g, s.closeTenure = { s with jnu := j, flb := g } := ⟨_, _, rfl⟩
  unfold State.tenureAtEnd
  split
  · exact ⟨_, _, rfl⟩
  · split
    · exact close s
    · unfold State.setFailReport
      split
      · split <;> exact ⟨_, _, rfl⟩
      · exact close s
    · split
      · exact State.offerPiggyback_frame _ _ _
      · exact close s
    · exact close s
    · split
      · exact State.offerPiggyback_frame _ _ _
      · exact close s

theorem State.workEnd_frame' (s : State) (b : Bool) :
    ∃ j f v, s.workEnd b = { s with jnu := j, flb := f, boc := { s.boc with survival := v } } := by
  unfold State.workEnd
  split
  · exact ⟨_, _, s.boc.survival, rfl⟩
  · exact ⟨_, _, s.boc.survival, rfl⟩
  · exact ⟨_, _, s.boc.survival, rfl⟩
  · simp only
    split <;> exact ⟨_, _, s.boc.survival, rfl⟩
  · exact ⟨_, _, s.boc.survival, rfl⟩
  · exact ⟨_, _, _, rfl⟩

/-- The end of an operation reaches the Journal Unit, the link and, at the end of the SURVIVAL work, the controller. -/
theorem State.opEnd_frame (s : State) (f : InFlight) (b : Bool) :
    ∃ j g v, s.opEnd f b = { s with jnu := j, flb := g, boc := { s.boc with survival := v } } := by
  unfold State.opEnd
  simp only
  split
  · obtain ⟨j, g, v, e⟩ := State.workEnd_frame' (s.modFlb fun l =>
      { l with inflight := none, nextPoll := none, poll := if l.poll = .live then .stale else l.poll }) b
    rw [e]
    obtain ⟨j', g', e'⟩ := State.tenureAtEnd_frame { s with jnu := j, flb := g, boc := { s.boc with survival := v } } f b
    exact ⟨j', g', v, by simpa [State.modFlb] using e'⟩
  · obtain ⟨j', g', e'⟩ := State.tenureAtEnd_frame (s.modFlb fun l =>
      { l with inflight := none, nextPoll := none, poll := if l.poll = .live then .stale else l.poll }) f b
    exact ⟨j', g', s.boc.survival, by rw [e']; rfl⟩

/-! ### What follows of itself -/

theorem State.engineReact_frame {s t : State} (h : s.engineReact = some t) :
    ∃ e f, t = { s with eng := e, flb := f } := by
  have key (u : State) (hc : u.clock = s.clock ∧ u.load = s.load ∧ u.plan = s.plan ∧ u.rails = s.rails ∧
      u.sense = s.sense ∧ u.dpt = s.dpt ∧ u.hbu = s.hbu ∧ u.boc = s.boc ∧ u.adu = s.adu ∧ u.jnu = s.jnu ∧
      u.draws = s.draws ∧ u.pending = s.pending) : ∃ e f, u = { s with eng := e, flb := f } := by
    obtain ⟨h1, h2, h3, h4, h5, h6, h7, h8, h9, h10, h11, h12⟩ := hc
    refine ⟨u.eng, u.flb, ?_⟩
    cases u; cases s; simp_all
  apply key
  unfold State.engineReact at h
  split at h
  · cases h
  · split at h
    · split at h <;> cases h <;> simp
    · split at h <;> cases h; simp
    · split at h
      · split at h
        · cases h
        · split at h <;> cases h <;> simp
      · split at h <;> cases h; simp
      · split at h <;> cases h; simp
      all_goals cases h

theorem State.bocReact_frame {s t : State} (h : s.bocReact = some t) :
    t.clock = s.clock ∧ t.load = s.load ∧ t.plan = s.plan ∧ t.sense = s.sense ∧ t.hbu = s.hbu ∧ t.draws = s.draws ∧
      t.pending = s.pending := by
  unfold State.bocReact at h
  split at h
  · cases h
  · split at h
    all_goals (try split at h) <;> cases h
    all_goals simp

/-- One thing that follows of itself is one of these six. -/
theorem State.react_cases {s t : State} (h : s.react = some t) :
    s.linkReact = some t ∨ s.bocReact = some t ∨ s.engineReact = some t ∨ s.survivalWaitEnd = some t ∨
      s.quietWork = some t ∨ s.takeOffer = some t := by
  unfold State.react at h
  cases h1 : s.linkReact <;> cases h2 : s.bocReact <;> cases h3 : s.engineReact <;> cases h4 : s.survivalWaitEnd <;>
    cases h5 : s.quietWork <;> simp_all

theorem State.react_frame {s t : State} (h : s.react = some t) :
    t.clock = s.clock ∧ t.load = s.load ∧ t.plan = s.plan ∧ t.sense = s.sense ∧ t.hbu = s.hbu ∧ t.draws = s.draws ∧
      t.pending = s.pending := by
  rcases State.react_cases h with h | h | h | h | h | h
  · obtain ⟨f, rfl⟩ := State.linkReact_frame h; simp
  · exact State.bocReact_frame h
  · obtain ⟨e, f, rfl⟩ := State.engineReact_frame h; simp
  · obtain ⟨j, f, v, rfl⟩ := State.survivalWaitEnd_frame h; simp
  · obtain ⟨j, f, rfl⟩ := State.quietWork_frame h; simp
  · obtain ⟨f, rfl⟩ := State.takeOffer_frame h; simp

/-- What every reaction keeps, what follows after an event keeps. -/
theorem State.settle_keeps {P : State → Prop} (keep : ∀ {s t : State}, s.react = some t → P s → P t) {s : State}
    (h : P s) : P s.settle := by
  have all : ∀ n, ∀ u : State, P u → P (u.settleFor n) := by
    intro n
    induction n with
    | zero => exact fun u hu => hu
    | succ n ih =>
      intro u hu
      unfold State.settleFor
      split
      · rename_i heq; exact ih _ (keep heq hu)
      · exact hu
  exact all _ s h

/-- What follows after an event leaves the clock, the plan, the measurements, the budget and the queue as they were. -/
@[simp] theorem State.settle_frame (s : State) :
    s.settle.clock = s.clock ∧ s.settle.load = s.load ∧ s.settle.plan = s.plan ∧ s.settle.sense = s.sense ∧
      s.settle.hbu = s.hbu ∧ s.settle.draws = s.draws ∧ s.settle.pending = s.pending := by
  apply State.settle_keeps (P := fun t => t.clock = s.clock ∧ t.load = s.load ∧ t.plan = s.plan ∧ t.sense = s.sense ∧
      t.hbu = s.hbu ∧ t.draws = s.draws ∧ t.pending = s.pending)
  · intro u t h hu
    have := State.react_frame h
    simp_all
  · simp

/-- In NORMAL, DIP and RECOVER nothing follows that the controller does: its state and everything but the note of the
SURVIVAL work stay, and so do the rails, DIM_OUT and the parked slot. -/
theorem State.settle_steady {s : State} (h : s.boc.state = .normal ∨ s.boc.state = .dip ∨ s.boc.state = .recover) :
    (∃ v, s.settle.boc = { s.boc with survival := v }) ∧ s.settle.rails = s.rails ∧ s.settle.dpt = s.dpt ∧
      s.settle.adu = s.adu := by
  have main : (s.settle.boc.state = s.boc.state) ∧ (∃ v, s.settle.boc = { s.boc with survival := v }) ∧
      s.settle.rails = s.rails ∧ s.settle.dpt = s.dpt ∧ s.settle.adu = s.adu := by
    apply State.settle_keeps (P := fun t => (t.boc.state = s.boc.state) ∧ (∃ v, t.boc = { s.boc with survival := v }) ∧
      t.rails = s.rails ∧ t.dpt = s.dpt ∧ t.adu = s.adu)
    · intro u t hr hu
      obtain ⟨h1, ⟨v, h2⟩, h3, h4, h5⟩ := hu
      rcases State.react_cases hr with hr | hr | hr | hr | hr | hr
      · obtain ⟨f, rfl⟩ := State.linkReact_frame hr; exact ⟨h1, ⟨v, h2⟩, h3, h4, h5⟩
      · unfold State.bocReact at hr
        rw [h1] at hr
        rcases h with h | h | h <;> simp [h] at hr
      · obtain ⟨e, f, rfl⟩ := State.engineReact_frame hr; exact ⟨h1, ⟨v, h2⟩, h3, h4, h5⟩
      · obtain ⟨j, f, v', rfl⟩ := State.survivalWaitEnd_frame hr
        exact ⟨h1, ⟨v', by simp [h2]⟩, h3, h4, h5⟩
      · obtain ⟨j, f, rfl⟩ := State.quietWork_frame hr; exact ⟨h1, ⟨v, h2⟩, h3, h4, h5⟩
      · obtain ⟨f, rfl⟩ := State.takeOffer_frame hr; exact ⟨h1, ⟨v, h2⟩, h3, h4, h5⟩
    · exact ⟨rfl, ⟨s.boc.survival, rfl⟩, rfl, rfl, rfl⟩
  exact main.2

end Sys2Proof.Machine
end

