-- ==== Sys2Proof/Tests/Slice0.lean ====
section
/-! SUPPORT. Tests: the checks of WellFormed, the worked figures of the manual, one event each of the blocks; and for every
statement with hypotheses a state that meets them, clause by clause. -/

namespace Sys2Proof.Machine

set_option Elab.async false

/-! ### The states of the tests -/

/-- The fallback plan with a monitored rail 0 (panel lost with it), timed rail 1, and monitored rails 2 and 3. -/
def planT : Plan :=
  { fallbackPlan with
    rails := Vector.ofFn fun i =>
      { fallbackRail i.val with
        timed := i == 1, settle := if i = 2 then 0 else 2, shedClass := if i.val < 2 then 1 else 0
        faultAction := if i = 0 then .domainDown else if i = 3 then .trip else .log } }

/-- A part in NORMAL with its plan applied, nothing running and RUN_REQ inactive. -/
def base : State :=
  { State.reset with
    clock := 1000, plan := planT, load := { Loader.reset with phase := some .applied }
    sense := { Sense.reset with supplyLow := false }
    boc := { BrownOut.reset with state := .normal }, flb := { Bridge.reset with mode := .relay } }

/-- A part in a phase of its load. -/
def loading (p : LoadPhase) : State := { State.reset with load := { Loader.reset with phase := some p } }

/-- The test plan with a PANEL_DOWN of this step. -/
def panelPlan (k : StepKind) : Plan := { planT with pool := [⟨k, true⟩, ⟨.nop, true⟩], slots := Vector.replicate 7 ⟨0, 2⟩ }

/-- TRIP is to begin a step of this kind, the first of two. -/
def ready (k : StepKind) (s : State) : State :=
  { s with plan := panelPlan k, eng := { s.eng with mode := .running, slot := some .trip, index := 0, step := .ready } }

/-- A sequence is in this step. -/
def underWay (n : SlotName) (st : StepStatus) (s : State) : State :=
  { s with eng := { s.eng with mode := .running, slot := some n, step := st } }

def flight : InFlight := ⟨.program, .requested, .none, 0, 7, 30, 0, false, false⟩
def issueT : Issue := ⟨.program, .requested, .span 0 256, 2, 3, 1, 1, 0, [9], 0⟩
def parkedCommand : Command := ⟨2, .program, 3, 1, 1, 0, [9], 1, 0, .span 0 256, some .guarded, .planRegion⟩

/-- A computation of this reserve, with admission costs of 7 mJ. -/
def budget (reserve : Int) : Budget := ⟨0, 0, 0, 0, 0, 0, 0, 0, 0, reserve, reserve, false, 0, ⟨7, 7, 7, 7, 7⟩⟩

/-- A SURVIVAL record. -/
def survivalT : Record := ⟨.survival .storm ⟨1, 2, 3, 4⟩ true false 3 none 5 true none 3000 2 0 [], .dark, 77⟩

/-- The part in DARK with a journal of two sectors, this ring, next-sector mark and SURVIVAL work. -/
def darkT (ring : Ring) (erased : Bool) (stage : SurvivalStage) (work : Option Work) : State :=
  { base with
    plan := { planT with sectorCount := 2 }, boc := { base.boc with state := .dark, survival := .underWay }
    jnu := ⟨[], 0, some ring, erased, work, stage⟩ }

/-- The part with this engine. -/
def engine (f : Engine → Engine) : State := base.modEng f

/-- The same with RUN_REQ and PANEL_REQ active. -/
def wanted (f : Engine → Engine) : State := { engine f with sense := { base.sense with runReq := true, panelReq := true } }

def header : List Byte := [0x4D, 0x54, 0x50, 0x4E, 1, 0, 0xCD, 3, 1, 0, 0, 0]

/-- The body of an image of 973 bytes with the built-in class table, this number of journal sectors and this supply level,
but for its CRC-32. -/
def frontT (sectors level : Nat) : List Byte :=
  let classes := builtinClasses.flatMap fun e =>
    [e.opcode, e.mask, natByte ((e.cls.map FlashClass.code).getD 0), natByte e.addrBytes, natByte e.addrLanes,
      natByte e.dataLanes]
  List.replicate 16 0 ++ [natByte level] ++ List.replicate 697 0 ++ classes ++ List.replicate 144 0 ++
    [natByte sectors, 1, 0]

/-- The body with its CRC-32, wrong by `off`. -/
def bodyT (sectors level off : Nat) : List Byte :=
  frontT sectors level ++ leBytes 4 ((crc32 (header ++ frontT sectors level)).toNat + off)

theorem leNat_leBytes (n v : Nat) : leNat (leBytes n v) = v % 256 ^ n := by
  induction n generalizing v with
  | zero => simp [leBytes, leNat, Nat.mod_one]
  | succ n ih =>
    rw [leBytes, leNat, ih]
    simp only [BitVec.toNat_ofNat, Nat.reducePow, Nat.mod_mod]
    rw [Nat.pow_succ, Nat.mul_comm (256 ^ n) 256, Nat.mod_mul]

theorem length_leBytes (n v : Nat) : (leBytes n v).length = n := by
  induction n generalizing v with
  | zero => rfl
  | succ n ih => rw [leBytes, List.length_cons, ih]

theorem crcPasses_bodyT (sectors level off : Nat) (h : off ≤ 1) :
    crcPasses (header ++ bodyT sectors level off) = (off == 0) := by
  have hl : (header ++ frontT sectors level).length = 969 := by
    simp only [frontT, List.length_append, List.length_replicate, List.length_flatMap, List.length_cons, List.length_nil]
    decide
  have hi : imageLength (header ++ bodyT sectors level off) = 973 := by
    simp [imageLength, fieldAt, header, leNat]
  have ht : (crc32 (header ++ frontT sectors level)).toNat < 4294967296 := BitVec.isLt _
  have hd : (header ++ bodyT sectors level off).take 969 = header ++ frontT sectors level := by
    rw [bodyT, ← List.append_assoc, List.take_left' hl]
  have hf : fieldAt (header ++ bodyT sectors level off) 969 4 =
      ((crc32 (header ++ frontT sectors level)).toNat + off) % 4294967296 := by
    rw [fieldAt, bodyT, ← List.append_assoc, List.drop_left' hl,
      List.take_of_length_le (by rw [length_leBytes]), leNat_leBytes]
    rfl
  rw [crcPasses, hi, hd, hf, Bool.eq_iff_iff, beq_iff_eq, beq_iff_eq]
  omega

/-- A valid record of two slots, its CRC-16 computed in two halves. -/
def twoSlotT : List Byte := ([9, 2] ++ List.replicate 60 0) ++ List.replicate 64 0 ++ [0x52, 0x66]

theorem crc16_twoSlotT : crc16 (twoSlotT.take 126) = 0x6652#16 := by
  rw [show twoSlotT.take 126 = ([9, 2] ++ List.replicate 60 0) ++ List.replicate 64 0 from by decide, crc16,
    List.foldl_append, show ([9, 2] ++ List.replicate 60 0 : List Byte).foldl crc16Byte 0xFFFF#16 = 61412#16 from by
      decide +kernel]
  decide +kernel

theorem classSlots_twoSlotT : classSlots (cutSlots 2 twoSlotT) = [.begins 0 2, .continues] := by
  have valid : validRecord (twoSlotT.take 64 ++ twoSlotT.drop 64) 2 = true := by
    rw [List.take_append_drop, validRecord, show 64 * 2 - 2 = 126 from rfl, crc16_twoSlotT]
    decide
  rw [show cutSlots 2 twoSlotT = [twoSlotT.take 64, twoSlotT.drop 64] from by decide, classSlots, if_pos valid]
  decide

theorem stepReady_iff {s : State} {n : SlotName} {k : StepKind} :
    StepReady s n k ↔ s.applied = true ∧ s.eng.mode = .running ∧ s.eng.slot = some n ∧ s.eng.step = .ready ∧
      s.currentStep.map Step.kind = some k ∧ (s.eng.claimBoard = false ∧ s.eng.claimPanel = false) ∧
      (n.isUp = true → s.boc.state = .normal ∧ s.seqDesired n = true) :=
  ⟨fun ⟨a, b, c, d, e, f, g⟩ => ⟨a, b, c, d, e, f, g⟩, fun ⟨a, b, c, d, e, f, g⟩ => ⟨a, b, c, d, e, f, g⟩⟩

theorem stepUnderWay_iff {s : State} {n : SlotName} {st : StepStatus} :
    StepUnderWay s n st ↔ s.eng.mode = .running ∧ s.eng.slot = some n ∧ s.eng.step = st :=
  ⟨fun ⟨a, b, c⟩ => ⟨a, b, c⟩, fun ⟨a, b, c⟩ => ⟨a, b, c⟩⟩

/-! ### Each statement's hypotheses can be met, clause by clause -/


theorem test_StepTakesTheFrontCommand_witness :
    ∃ (c : Instr) (rest : List Instr) (s : State),
      s.pending = c :: rest :=
  ⟨.uptimeTick, [.nop], { base with pending := [.uptimeTick, .nop] }, by decide +kernel⟩

theorem test_IdleStepKeepsTheTime_witness :
    (∃ (s : State),
      s.pending = [] ∧ s.released = false) ∧
    (∃ (s : State),
      s.pending = [] ∧ s.released = true ∧ s.due = []) ∧
    (∃ (s : State),
      s.pending = [] ∧ s.released = true ∧ s.due ≠ []) :=
  ⟨⟨State.reset, by decide +kernel⟩,
   ⟨{ base with sense := { base.sense with msDue := 2000, dim := { base.sense.dim with lastEdge := 2000 } } }, by decide +kernel⟩,
   ⟨{ base with sense := { base.sense with msDue := 1000 } }, by decide +kernel⟩⟩

theorem test_PartResetAndRelease_witness :
    (∃ (mv : Nat) (s : State),
      let m := s.sense
      let trip := [2950, 2900, 2850].getD m.supplyCode 2800
      m.supplyLow = false ∧ mv < trip) ∧
    (∃ (high : Bool) (s : State),
      let m := s.sense
      m.resetNLow = false ∧ high = false) ∧
    (∃ (mv : Nat) (s : State),
      let m := s.sense
      let trip := [2950, 2900, 2850].getD m.supplyCode 2800
      m.supplyLow = true ∨ trip ≤ mv) ∧
    (∃ (high : Bool) (s : State),
      let m := s.sense
      m.resetNLow = true ∨ high = true) ∧
    (∃ (mv : Nat) (s : State),
      let m := s.sense
      let release := [3050, 3000, 2950].getD m.supplyCode 2900
      let down := s.load.phase = none
      down ∧ m.supplyLow = true ∧ release ≤ mv ∧ m.resetNLow = false) ∧
    (∃ (mv : Nat) (s : State),
      let m := s.sense
      let release := [3050, 3000, 2950].getD m.supplyCode 2900
      let down := s.load.phase = none
      down ∧ m.supplyLow = true ∧ release ≤ mv ∧ m.resetNLow = true) ∧
    (∃ (high : Bool) (s : State),
      let m := s.sense
      let down := s.load.phase = none
      down ∧ m.resetNLow = true ∧ high = true ∧ m.supplyLow = false) ∧
    (∃ (high : Bool) (s : State),
      let m := s.sense
      let down := s.load.phase = none
      down ∧ m.resetNLow = true ∧ high = true ∧ m.supplyLow = true) ∧
    (∃ (mv : Nat) (s : State),
      let m := s.sense
      let release := [3050, 3000, 2950].getD m.supplyCode 2900
      let down := s.load.phase = none
      down ∧ m.supplyLow = true ∧ mv < release) ∧
    (∃ (high : Bool) (s : State),
      let m := s.sense
      let down := s.load.phase = none
      down ∧ m.resetNLow = true ∧ high = false) ∧
    (∃ (s : State),
      s.load.phase ≠ none) :=
  ⟨⟨2799, base, by decide +kernel⟩,
   ⟨false, base, by decide +kernel⟩,
   ⟨2800, base, by decide +kernel⟩,
   ⟨true, base, by decide +kernel⟩,
   ⟨2900, State.reset, by decide +kernel⟩,
   ⟨2900, { State.reset with sense := { State.reset.sense with resetNLow := true } }, by decide +kernel⟩,
   ⟨true, { State.reset with sense := { State.reset.sense with supplyLow := false, resetNLow := true } }, by decide +kernel⟩,
   ⟨true, { State.reset with sense := { State.reset.sense with resetNLow := true } }, by decide +kernel⟩,
   ⟨2899, State.reset, by decide +kernel⟩,
   ⟨false, { State.reset with sense := { State.reset.sense with supplyLow := false, resetNLow := true } }, by decide +kernel⟩,
   ⟨base, by decide +kernel⟩⟩

theorem test_WaitsOfTheLoad_witness :
    (∃ (s : State),
      s.load.phase = some .oscWait) ∧
    (∃ (status : Byte) (s : State),
      let waiting := s.load.phase = some .flashWait
      let busy := status.getLsbD 0 = true
      waiting ∧ ¬ busy) ∧
    (∃ (status : Byte) (s : State),
      let begun := max s.clock s.load.statusDue
      let now := begun + 64
      let first := s.load.firstStatus.getD begun
      let waiting := s.load.phase = some .flashWait
      let busy := status.getLsbD 0 = true
      waiting ∧ busy ∧ 480000000 ≤ now - first) ∧
    (∃ (status : Byte) (s : State),
      let begun := max s.clock s.load.statusDue
      let now := begun + 64
      let first := s.load.firstStatus.getD begun
      let waiting := s.load.phase = some .flashWait
      let busy := status.getLsbD 0 = true
      waiting ∧ busy ∧ now - first < 480000000) :=
  ⟨⟨loading .oscWait, by decide +kernel⟩,
   ⟨0, loading .flashWait, by decide +kernel⟩,
   ⟨1, (loading .flashWait).modLoad fun l => { l with firstStatus := some 0, statusDue := 479999936 }, by decide +kernel⟩,
   ⟨1, (loading .flashWait).modLoad fun l => { l with firstStatus := some 0, statusDue := 479999935 }, by decide +kernel⟩⟩

theorem test_PlanHeaderRead_witness :
    (∃ (bytes : List Byte) (s : State),
      let passes := bytes.take 4 = [0x4D, 0x54, 0x50, 0x4E] ∧ bytes.getD 4 0 = 1 ∧
        973 ≤ leNat ((bytes.drop 6).take 2) ∧ leNat ((bytes.drop 6).take 2) ≤ 16384
      s.load.phase = some .read ∧ s.load.image = [] ∧ bytes.length = 12 ∧ passes) ∧
    (∃ (bytes : List Byte) (s : State),
      let passes := bytes.take 4 = [0x4D, 0x54, 0x50, 0x4E] ∧ bytes.getD 4 0 = 1 ∧
        973 ≤ leNat ((bytes.drop 6).take 2) ∧ leNat ((bytes.drop 6).take 2) ≤ 16384
      s.load.phase = some .read ∧ s.load.image = [] ∧ bytes.length = 12 ∧ ¬ passes) :=
  ⟨⟨[0x4D, 0x54, 0x50, 0x4E, 1, 0, 0xCD, 3, 1, 0, 0, 0], loading .read, by decide +kernel⟩,
   ⟨[0x4D, 0x54, 0x50, 0x4E, 1, 0, 0xCC, 3, 1, 0, 0, 0], loading .read, by decide +kernel⟩⟩

theorem test_PlanBodyRead_witness :
    (∃ (bytes : List Byte) (s : State),
      let image := s.load.image ++ bytes
      s.load.phase = some .read ∧ s.load.image ≠ [] ∧ 12 ≤ leNat ((s.load.image.drop 6).take 2) ∧ bytes.length =
        leNat ((s.load.image.drop 6).take 2) - 12 ∧ crcPasses image = false) ∧
    (∃ (bytes : List Byte) (s : State),
      let image := s.load.image ++ bytes
      let p := preparePlan image
      s.load.phase = some .read ∧ s.load.image ≠ [] ∧ 12 ≤ leNat ((s.load.image.drop 6).take 2) ∧ bytes.length =
        leNat ((s.load.image.drop 6).take 2) - 12 ∧ crcPasses image = true ∧ p.sectorCount ≠ 0) ∧
    (∃ (bytes : List Byte) (vstby : Nat) (s : State),
      let image := s.load.image ++ bytes
      let p := preparePlan image
      s.load.phase = some .read ∧ s.load.image ≠ [] ∧ 12 ≤ leNat ((s.load.image.drop 6).take 2) ∧ bytes.length =
        leNat ((s.load.image.drop 6).take 2) - 12 ∧ (crcPasses image = true ∧ p.sectorCount = 0 ∧ (p.supplyLevel =
        3 ∨ tripMv p.supplyLevel ≤ vstby))) ∧
    (∃ (bytes : List Byte) (vstby : Nat) (s : State),
      let image := s.load.image ++ bytes
      let p := preparePlan image
      s.load.phase = some .read ∧ s.load.image ≠ [] ∧ 12 ≤ leNat ((s.load.image.drop 6).take 2) ∧ bytes.length =
        leNat ((s.load.image.drop 6).take 2) - 12 ∧ crcPasses image = true ∧ p.sectorCount = 0 ∧ p.supplyLevel < 3
        ∧ vstby < tripMv p.supplyLevel) :=
  ⟨⟨bodyT 0 3 1, { loading .read with load := { (loading .read).load with image := header } }, by refine ⟨by decide +kernel, by decide +kernel, by decide +kernel, by decide +kernel, crcPasses_bodyT _ _ _ (by decide)⟩⟩,
   ⟨bodyT 2 3 0, { loading .read with load := { (loading .read).load with image := header } }, by refine ⟨by decide +kernel, by decide +kernel, by decide +kernel, by decide +kernel, (crcPasses_bodyT _ _ _ (by decide)).trans (by decide), by decide +kernel⟩⟩,
   ⟨bodyT 0 1 0, 2900, { loading .read with load := { (loading .read).load with image := header } }, by refine ⟨by decide +kernel, by decide +kernel, by decide +kernel, by decide +kernel, (crcPasses_bodyT _ _ _ (by decide)).trans (by decide), by decide +kernel⟩⟩,
   ⟨bodyT 0 1 0, 2899, { loading .read with load := { (loading .read).load with image := header } }, by refine ⟨by decide +kernel, by decide +kernel, by decide +kernel, by decide +kernel, (crcPasses_bodyT _ _ _ (by decide)).trans (by decide), by decide +kernel⟩⟩⟩

theorem test_SectorRead_witness :
    (∃ (bytes : List Byte) (s : State),
      let scanned := s.load.scanned ++ [classSlots (cutSlots (s.plan.sectorSize / 64) bytes)]
      s.load.phase = some .scan ∧ s.plan.sectorCount ≠ 0 ∧ bytes.length = s.plan.sectorSize ∧ scanned.length <
        s.plan.sectorCount) ∧
    (∃ (bytes : List Byte) (vstby : Nat) (s : State),
      let scanned := s.load.scanned ++ [classSlots (cutSlots (s.plan.sectorSize / 64) bytes)]
      s.load.phase = some .scan ∧ s.plan.sectorCount ≠ 0 ∧ bytes.length = s.plan.sectorSize ∧ (s.plan.sectorCount
        ≤ scanned.length ∧ (3 ≤ s.plan.supplyLevel ∨ tripMv s.plan.supplyLevel ≤ vstby))) ∧
    (∃ (bytes : List Byte) (vstby : Nat) (s : State),
      let scanned := s.load.scanned ++ [classSlots (cutSlots (s.plan.sectorSize / 64) bytes)]
      s.load.phase = some .scan ∧ s.plan.sectorCount ≠ 0 ∧ bytes.length = s.plan.sectorSize ∧ s.plan.sectorCount ≤
        scanned.length ∧ s.plan.supplyLevel < 3 ∧ vstby < tripMv s.plan.supplyLevel) :=
  ⟨⟨List.replicate 4096 0xFF, { loading .scan with plan := { planT with sectorCount := 2, supplyLevel := 3 }, load := { (loading .scan).load with scanned := [] } }, by decide +kernel⟩,
   ⟨List.replicate 4096 0xFF, 2900, { loading .scan with plan := { planT with sectorCount := 2, supplyLevel := 1 }, load := { (loading .scan).load with scanned := [[]] } }, by decide +kernel⟩,
   ⟨List.replicate 4096 0xFF, 2899, { loading .scan with plan := { planT with sectorCount := 2, supplyLevel := 1 }, load := { (loading .scan).load with scanned := [[]] } }, by decide +kernel⟩⟩

theorem test_SlotsAreClassed_witness :
    (∃ (n : Nat) (i : Nat),
      i < n) ∧
    (∃ (n : Nat) (i : Nat) (bytes : List Byte),
      let classes := classSlots (cutSlots n bytes)
      let second : Bool :=
        match classes[i - 1]? with
        | some (.begins _ 2) => decide (1 ≤ i)
        | _ => false
      i < n ∧ second = true) ∧
    (∃ (n : Nat) (i : Nat) (bytes : List Byte),
      let slot (k : Nat) : List Byte := (bytes.drop (64 * k)).take 64
      let classes := classSlots (cutSlots n bytes)
      let valid (b : List Byte) (slots : Nat) : Bool :=
        (if slots = 2 then b.getD 0 0xFF == 9 else decide (1 ≤ (b.getD 0 0xFF).toNat ∧ (b.getD 0 0xFF).toNat ≤ 10) && b.getD 0 0xFF != 9) &&
          (b.getD 1 0).toNat == slots && (crc16 (b.take (64 * slots - 2))).toNat == leNat ((b.drop (64 * slots - 2)).take 2)
      let second : Bool :=
        match classes[i - 1]? with
        | some (.begins _ 2) => decide (1 ≤ i)
        | _ => false
      let two := i + 1 < n ∧ valid (slot i ++ slot (i + 1)) 2 = true
      i < n ∧ second = false ∧ two) ∧
    (∃ (n : Nat) (i : Nat) (bytes : List Byte),
      let slot (k : Nat) : List Byte := (bytes.drop (64 * k)).take 64
      let classes := classSlots (cutSlots n bytes)
      let valid (b : List Byte) (slots : Nat) : Bool :=
        (if slots = 2 then b.getD 0 0xFF == 9 else decide (1 ≤ (b.getD 0 0xFF).toNat ∧ (b.getD 0 0xFF).toNat ≤ 10) && b.getD 0 0xFF != 9) &&
          (b.getD 1 0).toNat == slots && (crc16 (b.take (64 * slots - 2))).toNat == leNat ((b.drop (64 * slots - 2)).take 2)
      let second : Bool :=
        match classes[i - 1]? with
        | some (.begins _ 2) => decide (1 ≤ i)
        | _ => false
      let two := i + 1 < n ∧ valid (slot i ++ slot (i + 1)) 2 = true
      i < n ∧ second = false ∧ ¬ two ∧ (slot i).all (fun b => b == 0xFF) = true) ∧
    (∃ (n : Nat) (i : Nat) (bytes : List Byte),
      let slot (k : Nat) : List Byte := (bytes.drop (64 * k)).take 64
      let classes := classSlots (cutSlots n bytes)
      let valid (b : List Byte) (slots : Nat) : Bool :=
        (if slots = 2 then b.getD 0 0xFF == 9 else decide (1 ≤ (b.getD 0 0xFF).toNat ∧ (b.getD 0 0xFF).toNat ≤ 10) && b.getD 0 0xFF != 9) &&
          (b.getD 1 0).toNat == slots && (crc16 (b.take (64 * slots - 2))).toNat == leNat ((b.drop (64 * slots - 2)).take 2)
      let second : Bool :=
        match classes[i - 1]? with
        | some (.begins _ 2) => decide (1 ≤ i)
        | _ => false
      let two := i + 1 < n ∧ valid (slot i ++ slot (i + 1)) 2 = true
      i < n ∧ second = false ∧ ¬ two ∧ (slot i).all (fun b => b == 0xFF) = false ∧ valid (slot i) 1 = true) ∧
    (∃ (n : Nat) (i : Nat) (bytes : List Byte),
      let slot (k : Nat) : List Byte := (bytes.drop (64 * k)).take 64
      let classes := classSlots (cutSlots n bytes)
      let valid (b : List Byte) (slots : Nat) : Bool :=
        (if slots = 2 then b.getD 0 0xFF == 9 else decide (1 ≤ (b.getD 0 0xFF).toNat ∧ (b.getD 0 0xFF).toNat ≤ 10) && b.getD 0 0xFF != 9) &&
          (b.getD 1 0).toNat == slots && (crc16 (b.take (64 * slots - 2))).toNat == leNat ((b.drop (64 * slots - 2)).take 2)
      let second : Bool :=
        match classes[i - 1]? with
        | some (.begins _ 2) => decide (1 ≤ i)
        | _ => false
      let two := i + 1 < n ∧ valid (slot i ++ slot (i + 1)) 2 = true
      i < n ∧ second = false ∧ ¬ two ∧ (slot i).all (fun b => b == 0xFF) = false ∧ valid (slot i) 1 = false) ∧
    (∃ (n : Nat) (i : Nat),
      i < n) :=
  ⟨⟨1, 0, by decide +kernel⟩,
   ⟨2, 1, twoSlotT, by rw [classSlots_twoSlotT]; decide⟩,
   ⟨2, 0, twoSlotT, by rw [classSlots_twoSlotT]; refine ⟨by decide, by decide, by decide, ?_⟩; change (twoSlotT.getD 0 0xFF == 9 && (twoSlotT.getD 1 0).toNat == 2 && (crc16 (twoSlotT.take 126)).toNat == leNat ((twoSlotT.drop 126).take 2)) = true; rw [crc16_twoSlotT]; decide⟩,
   ⟨1, 0, List.replicate 64 0xFF, by decide +kernel⟩,
   ⟨1, 0, (⟨.pad, .dark, 7⟩ : Record).bytes 0 5, by decide +kernel⟩,
   ⟨1, 0, List.replicate 64 0x11, by decide +kernel⟩,
   ⟨1, 0, by decide +kernel⟩⟩

theorem test_RingIsFound_witness :
    (∃ (p : Plan) (sectors : List (List SlotClass)),
      let ring := sectors.flatten
      let size := ring.length
      let records : List (Nat × Word32 × Nat) := (List.range size).flatMap fun q =>
        match ring.getD q .used with
        | .begins seq slots => [(q, seq, slots)]
        | _ => []
      sectors ≠ [] ∧ 0 < p.sectorSize / 64 ∧ (∀ sector ∈ sectors, sector.length = p.sectorSize / 64) ∧ records =
        []) ∧
    (∃ (p : Plan) (sectors : List (List SlotClass)),
      let ring := sectors.flatten
      let size := ring.length
      let records : List (Nat × Word32 × Nat) := (List.range size).flatMap fun q =>
        match ring.getD q .used with
        | .begins seq slots => [(q, seq, slots)]
        | _ => []
      sectors ≠ [] ∧ 0 < p.sectorSize / 64 ∧ (∀ sector ∈ sectors, sector.length = p.sectorSize / 64) ∧ records ≠
        []) ∧
    (∃ (p : Plan) (sectors : List (List SlotClass)),
      sectors ≠ [] ∧ 0 < p.sectorSize / 64 ∧ (∀ sector ∈ sectors, sector.length = p.sectorSize / 64)) :=
  ⟨⟨fallbackPlan, [List.replicate 64 .erased], by decide +kernel⟩,
   ⟨fallbackPlan, [.begins 5 1 :: List.replicate 63 .erased], by decide +kernel⟩,
   ⟨fallbackPlan, [List.replicate 64 .erased], by decide +kernel⟩⟩

theorem test_ScanCompletionMeasures_witness :
    (∃ (s : State),
      s.released = true ∧ s.applied = false) ∧
    (∃ (s : State),
      s.released = true ∧ s.applied = true) :=
  ⟨⟨loading .read, by decide +kernel⟩,
   ⟨base, by decide +kernel⟩⟩

theorem test_BusFloorNeedsThreeScans_witness :
    (∃ (floor : Nat),
      floor = 0) ∧
    (∃ (m : Sense) (floor : Nat) (vbus : Nat),
      floor ≠ 0 ∧ (m.busBelow = true ↔ vbus < floor)) ∧
    (∃ (m : Sense) (floor : Nat) (vbus : Nat),
      floor ≠ 0 ∧ ¬ (m.busBelow = true ↔ vbus < floor) ∧ m.busCount < 2) ∧
    (∃ (m : Sense) (floor : Nat) (vbus : Nat),
      floor ≠ 0 ∧ m.busBelow = false ∧ vbus < floor ∧ 2 ≤ m.busCount) ∧
    (∃ (m : Sense) (floor : Nat) (vbus : Nat),
      floor ≠ 0 ∧ m.busBelow = true ∧ floor ≤ vbus ∧ 2 ≤ m.busCount) :=
  ⟨⟨0, by decide +kernel⟩,
   ⟨Sense.reset, 5, 5, by decide +kernel⟩,
   ⟨{ Sense.reset with busCount := 1 }, 5, 4, by decide +kernel⟩,
   ⟨{ Sense.reset with busCount := 2 }, 5, 4, by decide +kernel⟩,
   ⟨{ Sense.reset with busBelow := true, busCount := 2 }, 5, 5, by decide +kernel⟩⟩

theorem test_UptimeTickCounts_witness :
    (∃ (s : State),
      s.released = true) ∧
    (∃ (s : State),
      s.released = false) :=
  ⟨⟨base, by decide +kernel⟩,
   ⟨State.reset, by decide +kernel⟩⟩

theorem test_ShedSetTakesARailDown_witness :
    (∃ (e : RailEntry) (level : Nat) (c : Channel),
      let energised := c.state = .rising ∨ c.state = .settling ∨ c.state = .on
      let stays := e.timed = true ∨ c.pgGood = true
      c.shed = false ∧ e.shedAt level = true ∧ energised ∧ c.order ≠ some .disable ∧ stays) ∧
    (∃ (e : RailEntry) (level : Nat) (c : Channel),
      let energised := c.state = .rising ∨ c.state = .settling ∨ c.state = .on
      let stays := e.timed = true ∨ c.pgGood = true
      c.shed = false ∧ e.shedAt level = true ∧ energised ∧ c.order ≠ some .disable ∧ ¬ stays) ∧
    (∃ (e : RailEntry) (level : Nat) (c : Channel),
      let energised := c.state = .rising ∨ c.state = .settling ∨ c.state = .on
      c.shed = false ∧ e.shedAt level = true ∧ ¬ energised) :=
  ⟨⟨{ fallbackRail 0 with shedClass := 1 }, 1, { Channel.reset with state := .on, order := none }, by decide +kernel⟩,
   ⟨{ { fallbackRail 0 with shedClass := 1 } with timed := false }, 3, { Channel.reset with state := .rising, order := some .enable }, by decide +kernel⟩,
   ⟨{ fallbackRail 0 with shedClass := 1 }, 1, { Channel.reset with state := .fault }, by decide +kernel⟩⟩

theorem test_FilteredPgGood_witness :
    (∃ (ch : Fin 12) (pin : RawPin) (s : State),
      let c := s.rail ch
      s.applied = true ∧ (s.railEntry ch).present = true ∧ (s.railEntry ch).timed = false ∧ (s.rail ch).pgGood =
        false ∧ ((pin.high = true ↔ (s.railEntry ch).pgActiveLow = false)) ∧ c.state ≠ .rising) ∧
    (∃ (ch : Fin 12) (pin : RawPin) (s : State),
      let c := s.rail ch
      s.applied = true ∧ (s.railEntry ch).present = true ∧ (s.railEntry ch).timed = false ∧ (s.rail ch).pgGood =
        false ∧ ((pin.high = true ↔ (s.railEntry ch).pgActiveLow = false)) ∧ c.state = .rising ∧ settleCounts
        (s.railEntry ch).settle ≠ 0) ∧
    (∃ (ch : Fin 12) (pin : RawPin) (s : State),
      let c := s.rail ch
      let passes := c.state = .rising ∧ settleCounts (s.railEntry ch).settle = 0
      s.applied = true ∧ (s.railEntry ch).present = true ∧ (s.railEntry ch).timed = false ∧ (s.rail ch).pgGood =
        false ∧ ((pin.high = true ↔ (s.railEntry ch).pgActiveLow = false)) ∧ passes ∧ c.order = none) ∧
    (∃ (ch : Fin 12) (pin : RawPin) (n : SlotName) (s : State),
      let c := s.rail ch
      let passes := c.state = .rising ∧ settleCounts (s.railEntry ch).settle = 0
      s.applied = true ∧ (s.railEntry ch).present = true ∧ (s.railEntry ch).timed = false ∧ (s.rail ch).pgGood =
        false ∧ ((pin.high = true ↔ (s.railEntry ch).pgActiveLow = false)) ∧ passes ∧ c.order = some .enable ∧
        StepUnderWay s n (.railWait ch)) :=
  ⟨⟨0, ⟨true, 0⟩, base.setRail 0 { Channel.reset with state := .falling }, by decide +kernel⟩,
   ⟨0, ⟨true, 0⟩, base.setRail 0 { Channel.reset with state := .rising }, by decide +kernel⟩,
   ⟨2, ⟨true, 0⟩, base.setRail 2 { Channel.reset with state := .rising }, by decide +kernel⟩,
   ⟨2, ⟨true, 0⟩, .trip, underWay .trip (.railWait 2) (base.setRail 2 { Channel.reset with state := .rising, order := some .enable }), by simp only [stepUnderWay_iff]; decide +kernel⟩⟩

theorem test_FilteredPgNotGood_witness :
    (∃ (ch : Fin 12) (pin : RawPin) (s : State),
      let c := s.rail ch
      let idle := c.state = .off ∨ c.state = .rising ∨ c.state = .fault
      s.applied = true ∧ (s.railEntry ch).present = true ∧ (s.railEntry ch).timed = false ∧ (s.rail ch).pgGood =
        true ∧ ((pin.high = true ↔ (s.railEntry ch).pgActiveLow = true)) ∧ idle) ∧
    (∃ (ch : Fin 12) (pin : RawPin) (s : State),
      let c := s.rail ch
      s.applied = true ∧ (s.railEntry ch).present = true ∧ (s.railEntry ch).timed = false ∧ (s.rail ch).pgGood =
        true ∧ ((pin.high = true ↔ (s.railEntry ch).pgActiveLow = true)) ∧ c.state = .falling ∧ c.order = none) ∧
    (∃ (ch : Fin 12) (pin : RawPin) (n : SlotName) (s : State),
      let c := s.rail ch
      s.applied = true ∧ (s.railEntry ch).present = true ∧ (s.railEntry ch).timed = false ∧ (s.rail ch).pgGood =
        true ∧ ((pin.high = true ↔ (s.railEntry ch).pgActiveLow = true)) ∧ c.state = .falling ∧ c.order = some
        .disable ∧ StepUnderWay s n (.railWait ch)) ∧
    (∃ (ch : Fin 12) (pin : RawPin) (s : State),
      let c := s.rail ch
      s.applied = true ∧ (s.railEntry ch).present = true ∧ (s.railEntry ch).timed = false ∧ (s.rail ch).pgGood =
        true ∧ ((pin.high = true ↔ (s.railEntry ch).pgActiveLow = true)) ∧ (c.state = .settling ∨ c.state = .on)) ∧
    (∃ (ch : Fin 12) (pin : RawPin) (s : State),
      let c := s.rail ch
      s.applied = true ∧ (s.railEntry ch).present = true ∧ (s.railEntry ch).timed = false ∧ (s.rail ch).pgGood =
        true ∧ ((pin.high = true ↔ (s.railEntry ch).pgActiveLow = true)) ∧ c.state = .on ∧ s.boc.state = .dip) :=
  ⟨⟨0, ⟨false, 0⟩, base.setRail 0 { Channel.reset with state := .rising, pgGood := true }, by decide +kernel⟩,
   ⟨0, ⟨false, 0⟩, base.setRail 0 { Channel.reset with state := .falling, pgGood := true }, by decide +kernel⟩,
   ⟨0, ⟨false, 0⟩, .trip, underWay .trip (.railWait 0) (base.setRail 0 { Channel.reset with state := .falling, pgGood := true, order := some .disable }), by simp only [stepUnderWay_iff]; decide +kernel⟩,
   ⟨0, ⟨false, 0⟩, base.setRail 0 { Channel.reset with state := .settling, pgGood := true }, by decide +kernel⟩,
   ⟨0, ⟨false, 0⟩, (base.setRail 0 { Channel.reset with state := .on, pgGood := true }).modBoc fun b => { b with state := .dip }, by decide +kernel⟩⟩

theorem test_PgUnseen_witness :
    (∃ (ch : Fin 12) (pin : RawPin) (s : State),
      let followed := s.applied = true ∧ (s.railEntry ch).present = true ∧ (s.railEntry ch).timed = false
      let good := pin.high = !(s.railEntry ch).pgActiveLow
      ¬ followed ∨ (s.rail ch).pgGood = true ∨ ¬ good) ∧
    (∃ (ch : Fin 12) (pin : RawPin) (s : State),
      let followed := s.applied = true ∧ (s.railEntry ch).present = true ∧ (s.railEntry ch).timed = false
      let good := pin.high = !(s.railEntry ch).pgActiveLow
      ¬ followed ∨ (s.rail ch).pgGood = false ∨ good) :=
  ⟨⟨0, ⟨false, 0⟩, base, by decide +kernel⟩,
   ⟨0, ⟨false, 0⟩, base, by decide +kernel⟩⟩

theorem test_RailTimerExpiries_witness :
    (∃ (ch : Fin 12) (due : Nat) (s : State),
      let c := s.rail ch
      let e := s.railEntry ch
      let free := c.order = none
      free ∧ c.state = .rising ∧ c.rise = some due ∧ e.timed = true) ∧
    (∃ (ch : Fin 12) (due : Nat) (n : SlotName) (s : State),
      let c := s.rail ch
      let e := s.railEntry ch
      let waited := StepUnderWay s n (.railWait ch)
      c.order = some .enable ∧ waited ∧ c.state = .rising ∧ c.rise = some due ∧ e.timed = true) ∧
    (∃ (ch : Fin 12) (due : Nat) (s : State),
      let c := s.rail ch
      let e := s.railEntry ch
      c.state = .rising ∧ c.rise = some due ∧ e.timed = false) ∧
    (∃ (ch : Fin 12) (due : Nat) (s : State),
      let c := s.rail ch
      let free := c.order = none
      free ∧ c.state = .settling ∧ c.settle = some due) ∧
    (∃ (ch : Fin 12) (due : Nat) (n : SlotName) (s : State),
      let c := s.rail ch
      let waited := StepUnderWay s n (.railWait ch)
      c.order = some .enable ∧ waited ∧ c.state = .settling ∧ c.settle = some due) ∧
    (∃ (ch : Fin 12) (due : Nat) (s : State),
      let c := s.rail ch
      let e := s.railEntry ch
      let free := c.order = none
      free ∧ c.state = .falling ∧ c.fall = some due ∧ (e.timed = true ∨ c.pgGood = false)) ∧
    (∃ (ch : Fin 12) (due : Nat) (n : SlotName) (s : State),
      let c := s.rail ch
      let e := s.railEntry ch
      let waited := StepUnderWay s n (.railWait ch)
      c.order = some .disable ∧ waited ∧ c.state = .falling ∧ c.fall = some due ∧ (e.timed = true ∨ c.pgGood =
        false)) ∧
    (∃ (ch : Fin 12) (due : Nat) (s : State),
      let c := s.rail ch
      let e := s.railEntry ch
      c.state = .falling ∧ c.fall = some due ∧ e.timed = false ∧ c.pgGood = true) ∧
    (∃ (ch : Fin 12) (s : State),
      let c := s.rail ch
      c.rise = none) :=
  ⟨⟨1, 2000, base.setRail 1 { Channel.reset with state := .rising, rise := some 2000 }, by decide +kernel⟩,
   ⟨1, 2000, .trip, underWay .trip (.railWait 1) (base.setRail 1 { Channel.reset with state := .rising, rise := some 2000, order := some .enable }), by simp only [stepUnderWay_iff]; decide +kernel⟩,
   ⟨0, 2000, base.setRail 0 { Channel.reset with state := .rising, rise := some 2000 }, by decide +kernel⟩,
   ⟨0, 2000, base.setRail 0 { Channel.reset with state := .settling, settle := some 2000 }, by decide +kernel⟩,
   ⟨0, 2000, .trip, underWay .trip (.railWait 0) (base.setRail 0 { Channel.reset with state := .settling, settle := some 2000, order := some .enable }), by simp only [stepUnderWay_iff]; decide +kernel⟩,
   ⟨0, 2000, base.setRail 0 { Channel.reset with state := .falling, fall := some 2000 }, by decide +kernel⟩,
   ⟨0, 2000, .trip, underWay .trip (.railWait 0) (base.setRail 0 { Channel.reset with state := .falling, fall := some 2000, order := some .disable }), by simp only [stepUnderWay_iff]; decide +kernel⟩,
   ⟨0, 2000, base.setRail 0 { Channel.reset with state := .falling, fall := some 2000, pgGood := true }, by decide +kernel⟩,
   ⟨0, base, by decide +kernel⟩⟩

theorem test_FaultIsRecordedAndHandedOn_witness :
    (∃ (kind : FaultKind) (ch : Fin 12) (pin : RawPin) (due : Nat) (s : State),
      let c := s.rail ch
      let e := s.railEntry ch
      let pgFalls := s.applied && e.present && !e.timed && c.pgGood && pin.high == e.pgActiveLow
      let arises :=
        match kind with
        | .riseTimeout => c.state == .rising && c.rise == some due && !e.timed
        | .unstable => c.state == .settling && pgFalls
        | .dropout => c.state == .on && pgFalls
        | .stuckOn => c.state == .falling && c.fall == some due && !e.timed && c.pgGood
      let stays := arises = true ∧ ¬ (kind = .dropout ∧ s.boc.state = .dip)
      let free := stays ∧ c.order = none
      free ∧ e.faultAction = .log) ∧
    (∃ (kind : FaultKind) (ch : Fin 12) (pin : RawPin) (due : Nat) (s : State),
      let c := s.rail ch
      let e := s.railEntry ch
      let pgFalls := s.applied && e.present && !e.timed && c.pgGood && pin.high == e.pgActiveLow
      let arises :=
        match kind with
        | .riseTimeout => c.state == .rising && c.rise == some due && !e.timed
        | .unstable => c.state == .settling && pgFalls
        | .dropout => c.state == .on && pgFalls
        | .stuckOn => c.state == .falling && c.fall == some due && !e.timed && c.pgGood
      let dipping := s.boc.state = .dip ∨ s.boc.state = .recover
      let stays := arises = true ∧ ¬ (kind = .dropout ∧ s.boc.state = .dip)
      let free := stays ∧ c.order = none
      free ∧ e.faultAction = .domainDown ∧ ¬ dipping) ∧
    (∃ (kind : FaultKind) (ch : Fin 12) (pin : RawPin) (due : Nat) (s : State),
      let c := s.rail ch
      let e := s.railEntry ch
      let pgFalls := s.applied && e.present && !e.timed && c.pgGood && pin.high == e.pgActiveLow
      let arises :=
        match kind with
        | .riseTimeout => c.state == .rising && c.rise == some due && !e.timed
        | .unstable => c.state == .settling && pgFalls
        | .dropout => c.state == .on && pgFalls
        | .stuckOn => c.state == .falling && c.fall == some due && !e.timed && c.pgGood
      let dipping := s.boc.state = .dip ∨ s.boc.state = .recover
      let stays := arises = true ∧ ¬ (kind = .dropout ∧ s.boc.state = .dip)
      let free := stays ∧ c.order = none
      free ∧ e.faultAction = .domainDown ∧ dipping) ∧
    (∃ (kind : FaultKind) (ch : Fin 12) (pin : RawPin) (due : Nat) (s : State),
      let c := s.rail ch
      let e := s.railEntry ch
      let pgFalls := s.applied && e.present && !e.timed && c.pgGood && pin.high == e.pgActiveLow
      let arises :=
        match kind with
        | .riseTimeout => c.state == .rising && c.rise == some due && !e.timed
        | .unstable => c.state == .settling && pgFalls
        | .dropout => c.state == .on && pgFalls
        | .stuckOn => c.state == .falling && c.fall == some due && !e.timed && c.pgGood
      let stays := arises = true ∧ ¬ (kind = .dropout ∧ s.boc.state = .dip)
      let free := stays ∧ c.order = none
      free ∧ e.faultAction = .trip ∧ s.eng.mode = .idle) ∧
    (∃ (kind : FaultKind) (ch : Fin 12) (pin : RawPin) (due : Nat) (s : State),
      let c := s.rail ch
      let e := s.railEntry ch
      let pgFalls := s.applied && e.present && !e.timed && c.pgGood && pin.high == e.pgActiveLow
      let arises :=
        match kind with
        | .riseTimeout => c.state == .rising && c.rise == some due && !e.timed
        | .unstable => c.state == .settling && pgFalls
        | .dropout => c.state == .on && pgFalls
        | .stuckOn => c.state == .falling && c.fall == some due && !e.timed && c.pgGood
      let stays := arises = true ∧ ¬ (kind = .dropout ∧ s.boc.state = .dip)
      let free := stays ∧ c.order = none
      free ∧ e.faultAction = .trip ∧ s.eng.mode = .suspended) ∧
    (∃ (kind : FaultKind) (ch : Fin 12) (pin : RawPin) (due : Nat) (s : State),
      let c := s.rail ch
      let e := s.railEntry ch
      let pgFalls := s.applied && e.present && !e.timed && c.pgGood && pin.high == e.pgActiveLow
      let arises :=
        match kind with
        | .riseTimeout => c.state == .rising && c.rise == some due && !e.timed
        | .unstable => c.state == .settling && pgFalls
        | .dropout => c.state == .on && pgFalls
        | .stuckOn => c.state == .falling && c.fall == some due && !e.timed && c.pgGood
      let stays := arises = true ∧ ¬ (kind = .dropout ∧ s.boc.state = .dip)
      let free := stays ∧ c.order = none
      free ∧ e.faultAction = .trip ∧ s.eng.mode = .running ∧ s.eng.slot = some .trip) ∧
    (∃ (kind : FaultKind) (ch : Fin 12) (pin : RawPin) (due : Nat) (s : State),
      let c := s.rail ch
      let e := s.railEntry ch
      let pgFalls := s.applied && e.present && !e.timed && c.pgGood && pin.high == e.pgActiveLow
      let arises :=
        match kind with
        | .riseTimeout => c.state == .rising && c.rise == some due && !e.timed
        | .unstable => c.state == .settling && pgFalls
        | .dropout => c.state == .on && pgFalls
        | .stuckOn => c.state == .falling && c.fall == some due && !e.timed && c.pgGood
      let stays := arises = true ∧ ¬ (kind = .dropout ∧ s.boc.state = .dip)
      let free := stays ∧ c.order = none
      free ∧ e.faultAction = .trip ∧ s.eng.mode = .running ∧ s.eng.slot ≠ some .trip) ∧
    (∃ (kind : FaultKind) (ch : Fin 12) (pin : RawPin) (due : Nat) (o : Order) (n : SlotName) (st : Step) (s : State),
      let c := s.rail ch
      let e := s.railEntry ch
      let pgFalls := s.applied && e.present && !e.timed && c.pgGood && pin.high == e.pgActiveLow
      let arises :=
        match kind with
        | .riseTimeout => c.state == .rising && c.rise == some due && !e.timed
        | .unstable => c.state == .settling && pgFalls
        | .dropout => c.state == .on && pgFalls
        | .stuckOn => c.state == .falling && c.fall == some due && !e.timed && c.pgGood
      let stays := arises = true ∧ ¬ (kind = .dropout ∧ s.boc.state = .dip)
      let waits := c.order = some o ∧ StepUnderWay s n (.railWait ch) ∧ s.currentStep = some st
      let waited := stays ∧ waits
      waited ∧ e.faultAction = .log) ∧
    (∃ (kind : FaultKind) (ch : Fin 12) (pin : RawPin) (due : Nat) (o : Order) (n : SlotName) (st : Step) (s : State),
      let c := s.rail ch
      let e := s.railEntry ch
      let pgFalls := s.applied && e.present && !e.timed && c.pgGood && pin.high == e.pgActiveLow
      let arises :=
        match kind with
        | .riseTimeout => c.state == .rising && c.rise == some due && !e.timed
        | .unstable => c.state == .settling && pgFalls
        | .dropout => c.state == .on && pgFalls
        | .stuckOn => c.state == .falling && c.fall == some due && !e.timed && c.pgGood
      let dipping := s.boc.state = .dip ∨ s.boc.state = .recover
      let stays := arises = true ∧ ¬ (kind = .dropout ∧ s.boc.state = .dip)
      let waits := c.order = some o ∧ StepUnderWay s n (.railWait ch) ∧ s.currentStep = some st
      let waited := stays ∧ waits
      waited ∧ e.faultAction = .domainDown ∧ ¬ dipping) ∧
    (∃ (kind : FaultKind) (ch : Fin 12) (pin : RawPin) (due : Nat) (o : Order) (n : SlotName) (st : Step) (s : State),
      let c := s.rail ch
      let e := s.railEntry ch
      let pgFalls := s.applied && e.present && !e.timed && c.pgGood && pin.high == e.pgActiveLow
      let arises :=
        match kind with
        | .riseTimeout => c.state == .rising && c.rise == some due && !e.timed
        | .unstable => c.state == .settling && pgFalls
        | .dropout => c.state == .on && pgFalls
        | .stuckOn => c.state == .falling && c.fall == some due && !e.timed && c.pgGood
      let dipping := s.boc.state = .dip ∨ s.boc.state = .recover
      let stays := arises = true ∧ ¬ (kind = .dropout ∧ s.boc.state = .dip)
      let waits := c.order = some o ∧ StepUnderWay s n (.railWait ch) ∧ s.currentStep = some st
      let waited := stays ∧ waits
      waited ∧ e.faultAction = .domainDown ∧ dipping) ∧
    (∃ (kind : FaultKind) (ch : Fin 12) (pin : RawPin) (due : Nat) (o : Order) (n : SlotName) (st : Step) (s : State),
      let c := s.rail ch
      let e := s.railEntry ch
      let pgFalls := s.applied && e.present && !e.timed && c.pgGood && pin.high == e.pgActiveLow
      let arises :=
        match kind with
        | .riseTimeout => c.state == .rising && c.rise == some due && !e.timed
        | .unstable => c.state == .settling && pgFalls
        | .dropout => c.state == .on && pgFalls
        | .stuckOn => c.state == .falling && c.fall == some due && !e.timed && c.pgGood
      let stays := arises = true ∧ ¬ (kind = .dropout ∧ s.boc.state = .dip)
      let waits := c.order = some o ∧ StepUnderWay s n (.railWait ch) ∧ s.currentStep = some st
      let waited := stays ∧ waits
      let abandoned := n.isUp && st.abandon
      let after : Engine :=
        if abandoned then
          { s.eng with
            mode := .idle, slot := none, index := 0, step := .idle, quiesceHold := false, quietHold := false
            boardLock := if n = .boardUp then s.sense.runReq else s.eng.boardLock
            panelLock := s.sense.runReq && s.sense.panelReq }
        else s.passed n
      waited ∧ e.faultAction = .trip ∧ n = .trip ∧ after.mode = .running) ∧
    (∃ (kind : FaultKind) (ch : Fin 12) (pin : RawPin) (due : Nat) (o : Order) (n : SlotName) (st : Step) (s : State),
      let c := s.rail ch
      let e := s.railEntry ch
      let pgFalls := s.applied && e.present && !e.timed && c.pgGood && pin.high == e.pgActiveLow
      let arises :=
        match kind with
        | .riseTimeout => c.state == .rising && c.rise == some due && !e.timed
        | .unstable => c.state == .settling && pgFalls
        | .dropout => c.state == .on && pgFalls
        | .stuckOn => c.state == .falling && c.fall == some due && !e.timed && c.pgGood
      let stays := arises = true ∧ ¬ (kind = .dropout ∧ s.boc.state = .dip)
      let waits := c.order = some o ∧ StepUnderWay s n (.railWait ch) ∧ s.currentStep = some st
      let waited := stays ∧ waits
      let abandoned := n.isUp && st.abandon
      let after : Engine :=
        if abandoned then
          { s.eng with
            mode := .idle, slot := none, index := 0, step := .idle, quiesceHold := false, quietHold := false
            boardLock := if n = .boardUp then s.sense.runReq else s.eng.boardLock
            panelLock := s.sense.runReq && s.sense.panelReq }
        else s.passed n
      waited ∧ e.faultAction = .trip ∧ ¬ (n = .trip ∧ after.mode = .running)) ∧
    (∃ (kind : FaultKind) (ch : Fin 12) (pin : RawPin) (due : Nat) (s : State),
      let c := s.rail ch
      let e := s.railEntry ch
      let pgFalls := s.applied && e.present && !e.timed && c.pgGood && pin.high == e.pgActiveLow
      let arises :=
        match kind with
        | .riseTimeout => c.state == .rising && c.rise == some due && !e.timed
        | .unstable => c.state == .settling && pgFalls
        | .dropout => c.state == .on && pgFalls
        | .stuckOn => c.state == .falling && c.fall == some due && !e.timed && c.pgGood
      let byPg := kind == .unstable || kind == .dropout
      let time := [384, 3072, 24576].getD e.pgFilter 196608
      let now := if byPg then max s.clock (max pin.since s.sense.filters.pg[ch] + time) else max s.clock due
      let filters : Filters :=
        if byPg then { s.sense.filters with pg := s.sense.filters.pg.set ch now } else s.sense.filters
      let faulted : Channel :=
        { c with state := .fault, rise := none, settle := none, fall := none, faultKind := some kind, prior := some c.state
                 order := none, pgGood := c.pgGood && !byPg }
      let record : Record := ⟨.railFault ch e.tag kind c.state s.eng.slot s.eng.index, s.boc.state, s.sense.uptime⟩
      let t : State :=
        { s with clock := now, rails := s.rails.set ch faulted, jnu := s.jnu.offered s.plan [record]
                 sense := { s.sense with filters := filters } }
      let claiming (g : Engine) : Engine :=
        { g with claimBoard := g.claimBoard || e.domain == .board, claimPanel := g.claimPanel || e.domain == .panel }
      let tripping (g : Engine) : Engine :=
        { g with mode := .idle, slot := none, index := 0, step := .idle, quiesceHold := false, quietHold := false
                 trip := some .rail }
      let dropped : Vector Bool 6 := match s.eng.step with
        | .pulsing l _ => s.eng.lines.set l false
        | _ => s.eng.lines
      let withdrawn : Vector Channel 12 := match s.eng.step with
        | .railWait i => t.rails.set i { t.rail i with order := none }
        | _ => t.rails
      let link : Bridge := match s.eng.step with
        | .pulsing l _ =>
          if s.plan.mainLine = some l ∧ s.eng.lines[l] = true then
            { s.flb with barred := s.flb.mode == .ignore && (s.flb.issue.isSome || s.flb.inflight.isSome) }
          else s.flb
        | _ => s.flb
      let commits := arises = true ∧ kind = .dropout ∧ s.boc.state = .dip
      let tripped (v : State) : State :=
        if v.eng.mode = .idle then { v with eng := { v.eng with trip := some .rail } }
        else if v.eng.mode = .suspended then { v with eng := tripping v.eng }
        else if v.eng.slot = some .trip then v
        else { v with eng := tripping { v.eng with lines := dropped }, rails := withdrawn, flb := link }
      let handed (v : State) : State :=
        match e.faultAction with
        | .log => v
        | .domainDown => { v with eng := claiming v.eng }
        | .trip => tripped v
      commits ∧ c.order = none ∧ (∀ i, (handed t).eng.step ≠ .railWait i)) ∧
    (∃ (kind : FaultKind) (ch : Fin 12) (d : Fin 12) (pin : RawPin) (due : Nat) (n : SlotName) (s : State),
      let c := s.rail ch
      let e := s.railEntry ch
      let pgFalls := s.applied && e.present && !e.timed && c.pgGood && pin.high == e.pgActiveLow
      let arises :=
        match kind with
        | .riseTimeout => c.state == .rising && c.rise == some due && !e.timed
        | .unstable => c.state == .settling && pgFalls
        | .dropout => c.state == .on && pgFalls
        | .stuckOn => c.state == .falling && c.fall == some due && !e.timed && c.pgGood
      let byPg := kind == .unstable || kind == .dropout
      let time := [384, 3072, 24576].getD e.pgFilter 196608
      let now := if byPg then max s.clock (max pin.since s.sense.filters.pg[ch] + time) else max s.clock due
      let filters : Filters :=
        if byPg then { s.sense.filters with pg := s.sense.filters.pg.set ch now } else s.sense.filters
      let faulted : Channel :=
        { c with state := .fault, rise := none, settle := none, fall := none, faultKind := some kind, prior := some c.state
                 order := none, pgGood := c.pgGood && !byPg }
      let record : Record := ⟨.railFault ch e.tag kind c.state s.eng.slot s.eng.index, s.boc.state, s.sense.uptime⟩
      let t : State :=
        { s with clock := now, rails := s.rails.set ch faulted, jnu := s.jnu.offered s.plan [record]
                 sense := { s.sense with filters := filters } }
      let claiming (g : Engine) : Engine :=
        { g with claimBoard := g.claimBoard || e.domain == .board, claimPanel := g.claimPanel || e.domain == .panel }
      let tripping (g : Engine) : Engine :=
        { g with mode := .idle, slot := none, index := 0, step := .idle, quiesceHold := false, quietHold := false
                 trip := some .rail }
      let dropped : Vector Bool 6 := match s.eng.step with
        | .pulsing l _ => s.eng.lines.set l false
        | _ => s.eng.lines
      let withdrawn : Vector Channel 12 := match s.eng.step with
        | .railWait i => t.rails.set i { t.rail i with order := none }
        | _ => t.rails
      let link : Bridge := match s.eng.step with
        | .pulsing l _ =>
          if s.plan.mainLine = some l ∧ s.eng.lines[l] = true then
            { s.flb with barred := s.flb.mode == .ignore && (s.flb.issue.isSome || s.flb.inflight.isSome) }
          else s.flb
        | _ => s.flb
      let commits := arises = true ∧ kind = .dropout ∧ s.boc.state = .dip
      let tripped (v : State) : State :=
        if v.eng.mode = .idle then { v with eng := { v.eng with trip := some .rail } }
        else if v.eng.mode = .suspended then { v with eng := tripping v.eng }
        else if v.eng.slot = some .trip then v
        else { v with eng := tripping { v.eng with lines := dropped }, rails := withdrawn, flb := link }
      let handed (v : State) : State :=
        match e.faultAction with
        | .log => v
        | .domainDown => { v with eng := claiming v.eng }
        | .trip => tripped v
      let shed (v : State) (i : Fin 12) : ChanStep := (v.rail i).takeShed (s.railEntry i) now 3
      let deferred (v : State) := s.boc.shedLevel ≠ 3 ∧ (shed v d).answer ≠ none
      commits ∧ c.order = none ∧ StepUnderWay (handed t) n (.railWait d) ∧ ¬ deferred (handed t)) ∧
    (∃ (kind : FaultKind) (ch : Fin 12) (d : Fin 12) (pin : RawPin) (due : Nat) (n : SlotName) (s : State),
      let c := s.rail ch
      let e := s.railEntry ch
      let pgFalls := s.applied && e.present && !e.timed && c.pgGood && pin.high == e.pgActiveLow
      let arises :=
        match kind with
        | .riseTimeout => c.state == .rising && c.rise == some due && !e.timed
        | .unstable => c.state == .settling && pgFalls
        | .dropout => c.state == .on && pgFalls
        | .stuckOn => c.state == .falling && c.fall == some due && !e.timed && c.pgGood
      let byPg := kind == .unstable || kind == .dropout
      let time := [384, 3072, 24576].getD e.pgFilter 196608
      let now := if byPg then max s.clock (max pin.since s.sense.filters.pg[ch] + time) else max s.clock due
      let filters : Filters :=
        if byPg then { s.sense.filters with pg := s.sense.filters.pg.set ch now } else s.sense.filters
      let faulted : Channel :=
        { c with state := .fault, rise := none, settle := none, fall := none, faultKind := some kind, prior := some c.state
                 order := none, pgGood := c.pgGood && !byPg }
      let record : Record := ⟨.railFault ch e.tag kind c.state s.eng.slot s.eng.index, s.boc.state, s.sense.uptime⟩
      let t : State :=
        { s with clock := now, rails := s.rails.set ch faulted, jnu := s.jnu.offered s.plan [record]
                 sense := { s.sense with filters := filters } }
      let claiming (g : Engine) : Engine :=
        { g with claimBoard := g.claimBoard || e.domain == .board, claimPanel := g.claimPanel || e.domain == .panel }
      let tripping (g : Engine) : Engine :=
        { g with mode := .idle, slot := none, index := 0, step := .idle, quiesceHold := false, quietHold := false
                 trip := some .rail }
      let dropped : Vector Bool 6 := match s.eng.step with
        | .pulsing l _ => s.eng.lines.set l false
        | _ => s.eng.lines
      let withdrawn : Vector Channel 12 := match s.eng.step with
        | .railWait i => t.rails.set i { t.rail i with order := none }
        | _ => t.rails
      let link : Bridge := match s.eng.step with
        | .pulsing l _ =>
          if s.plan.mainLine = some l ∧ s.eng.lines[l] = true then
            { s.flb with barred := s.flb.mode == .ignore && (s.flb.issue.isSome || s.flb.inflight.isSome) }
          else s.flb
        | _ => s.flb
      let commits := arises = true ∧ kind = .dropout ∧ s.boc.state = .dip
      let tripped (v : State) : State :=
        if v.eng.mode = .idle then { v with eng := { v.eng with trip := some .rail } }
        else if v.eng.mode = .suspended then { v with eng := tripping v.eng }
        else if v.eng.slot = some .trip then v
        else { v with eng := tripping { v.eng with lines := dropped }, rails := withdrawn, flb := link }
      let handed (v : State) : State :=
        match e.faultAction with
        | .log => v
        | .domainDown => { v with eng := claiming v.eng }
        | .trip => tripped v
      let shed (v : State) (i : Fin 12) : ChanStep := (v.rail i).takeShed (s.railEntry i) now 3
      let deferred (v : State) := s.boc.shedLevel ≠ 3 ∧ (shed v d).answer ≠ none
      commits ∧ c.order = none ∧ StepUnderWay (handed t) n (.railWait d) ∧ deferred (handed t)) ∧
    (∃ (kind : FaultKind) (ch : Fin 12) (pin : RawPin) (due : Nat) (o : Order) (n : SlotName) (st : Step) (s : State),
      let c := s.rail ch
      let e := s.railEntry ch
      let pgFalls := s.applied && e.present && !e.timed && c.pgGood && pin.high == e.pgActiveLow
      let arises :=
        match kind with
        | .riseTimeout => c.state == .rising && c.rise == some due && !e.timed
        | .unstable => c.state == .settling && pgFalls
        | .dropout => c.state == .on && pgFalls
        | .stuckOn => c.state == .falling && c.fall == some due && !e.timed && c.pgGood
      let commits := arises = true ∧ kind = .dropout ∧ s.boc.state = .dip
      let waits := c.order = some o ∧ StepUnderWay s n (.railWait ch) ∧ s.currentStep = some st
      commits ∧ waits) :=
  ⟨⟨.riseTimeout, 2, ⟨false, 0⟩, 2000, base.setRail 2 { Channel.reset with state := .rising, rise := some 2000 }, by decide +kernel⟩,
   ⟨.unstable, 0, ⟨false, 0⟩, 2000, base.setRail 0 { Channel.reset with state := .settling, pgGood := true }, by decide +kernel⟩,
   ⟨.dropout, 0, ⟨false, 0⟩, 2000, (base.setRail 0 { Channel.reset with state := .on, pgGood := true }).modBoc fun b => { b with state := .recover }, by decide +kernel⟩,
   ⟨.stuckOn, 3, ⟨false, 0⟩, 2000, base.setRail 3 { Channel.reset with state := .falling, fall := some 2000, pgGood := true }, by decide +kernel⟩,
   ⟨.riseTimeout, 3, ⟨false, 0⟩, 2000, (base.setRail 3 { Channel.reset with state := .rising, rise := some 2000 }).modEng fun e => { e with mode := .suspended, slot := some .boardUp }, by decide +kernel⟩,
   ⟨.riseTimeout, 3, ⟨false, 0⟩, 2000, underWay .trip .ready (base.setRail 3 { Channel.reset with state := .rising, rise := some 2000 }), by decide +kernel⟩,
   ⟨.riseTimeout, 3, ⟨false, 0⟩, 2000, underWay .panelDown .ready (base.setRail 3 { Channel.reset with state := .rising, rise := some 2000 }), by decide +kernel⟩,
   ⟨.riseTimeout, 2, ⟨false, 0⟩, 2000, .enable, .trip, ⟨.railUp 2 true, true⟩, underWay .trip (.railWait 2) (ready (.railUp 2 true) (base.setRail 2 { Channel.reset with state := .rising, rise := some 2000, order := some .enable })), by simp only [stepUnderWay_iff]; decide +kernel⟩,
   ⟨.riseTimeout, 0, ⟨false, 0⟩, 2000, .enable, .trip, ⟨.railUp 0 true, true⟩, underWay .trip (.railWait 0) (ready (.railUp 0 true) (base.setRail 0 { Channel.reset with state := .rising, rise := some 2000, order := some .enable })), by simp only [stepUnderWay_iff]; decide +kernel⟩,
   ⟨.riseTimeout, 0, ⟨false, 0⟩, 2000, .enable, .trip, ⟨.railUp 0 true, true⟩, (underWay .trip (.railWait 0) (ready (.railUp 0 true) (base.setRail 0 { Channel.reset with state := .rising, rise := some 2000, order := some .enable }))).modBoc fun b => { b with state := .dip }, by simp only [stepUnderWay_iff]; decide +kernel⟩,
   ⟨.riseTimeout, 3, ⟨false, 0⟩, 2000, .enable, .trip, ⟨.railUp 3 true, true⟩, underWay .trip (.railWait 3) (ready (.railUp 3 true) (base.setRail 3 { Channel.reset with state := .rising, rise := some 2000, order := some .enable })), by simp only [stepUnderWay_iff]; decide +kernel⟩,
   ⟨.riseTimeout, 3, ⟨false, 0⟩, 2000, .enable, .panelDown, ⟨.railUp 3 true, true⟩, underWay .panelDown (.railWait 3) (ready (.railUp 3 true) (base.setRail 3 { Channel.reset with state := .rising, rise := some 2000, order := some .enable })), by simp only [stepUnderWay_iff]; decide +kernel⟩,
   ⟨.dropout, 0, ⟨false, 0⟩, 2000, (base.setRail 0 { Channel.reset with state := .on, pgGood := true }).modBoc fun b => { b with state := .dip }, by decide +kernel⟩,
   ⟨.dropout, 0, 2, ⟨false, 0⟩, 2000, .panelDown, (underWay .panelDown (.railWait 2) ((base.setRail 0 { Channel.reset with state := .on, pgGood := true }).setRail 2 { Channel.reset with state := .rising, order := none })).modBoc fun b => { b with state := .dip }, by simp only [stepUnderWay_iff]; decide +kernel⟩,
   ⟨.dropout, 0, 1, ⟨false, 0⟩, 2000, .panelDown, (underWay .panelDown (.railWait 1) ((base.setRail 0 { Channel.reset with state := .on, pgGood := true }).setRail 1 { Channel.reset with state := .rising, order := some .enable })).modBoc fun b => { b with state := .dip }, by simp only [stepUnderWay_iff]; decide +kernel⟩,
   ⟨.dropout, 0, ⟨false, 0⟩, 2000, .disable, .trip, ⟨.railUp 0 true, true⟩, (underWay .trip (.railWait 0) (ready (.railUp 0 true) (base.setRail 0 { Channel.reset with state := .on, pgGood := true, order := some .disable }))).modBoc fun b => { b with state := .dip }, by simp only [stepUnderWay_iff]; decide +kernel⟩⟩

theorem test_MainsLoss_witness :
    (∃ (pin : RawPin) (s : State),
      let found := (s.boc.history.filter fun e => !e.stale && decide ((s.sense.uptime - e.start).toNat < s.plan.stormWindowMs)).length
      s.applied = true ∧ s.sense.acOk = true ∧ ((pin.high = true ↔ s.plan.acOk.activeLow = true)) ∧ s.boc.state =
        .normal ∧ found < s.plan.stormCount) ∧
    (∃ (pin : RawPin) (s : State),
      let found := (s.boc.history.filter fun e => !e.stale && decide ((s.sense.uptime - e.start).toNat < s.plan.stormWindowMs)).length
      s.applied = true ∧ s.sense.acOk = true ∧ ((pin.high = true ↔ s.plan.acOk.activeLow = true)) ∧ s.boc.state =
        .normal ∧ s.plan.stormCount ≤ found) ∧
    (∃ (pin : RawPin) (s : State),
      s.applied = true ∧ s.sense.acOk = true ∧ ((pin.high = true ↔ s.plan.acOk.activeLow = true)) ∧ s.boc.state =
        .recover) ∧
    (∃ (pin : RawPin) (s : State),
      s.applied = true ∧ s.sense.acOk = true ∧ ((pin.high = true ↔ s.plan.acOk.activeLow = true)) ∧ (s.boc.state =
        .init ∨ s.boc.state = .dark)) ∧
    (∃ (pin : RawPin) (s : State),
      s.applied = true ∧ s.sense.acOk = true ∧ ((pin.high = true ↔ s.plan.acOk.activeLow = true)) ∧ (s.boc.state =
        .dip ∨ s.boc.state = .commit ∨ s.boc.state = .descent)) :=
  ⟨⟨⟨false, 0⟩, (base.modBoc fun b => { b with state := .normal }).modSense fun m => { m with acOk := true }, by decide +kernel⟩,
   ⟨⟨false, 0⟩, (base.modBoc fun b => { b with state := .normal, history := List.replicate 16 ⟨0, 0, 0, 0, false⟩ }).modSense fun m => { m with acOk := true }, by decide +kernel⟩,
   ⟨⟨false, 0⟩, (base.modBoc fun b => { b with state := .recover }).modSense fun m => { m with acOk := true }, by decide +kernel⟩,
   ⟨⟨false, 0⟩, (base.modBoc fun b => { b with state := .init }).modSense fun m => { m with acOk := true }, by decide +kernel⟩,
   ⟨⟨false, 0⟩, (base.modBoc fun b => { b with state := .descent }).modSense fun m => { m with acOk := true }, by decide +kernel⟩⟩

theorem test_MainsReturn_witness :
    (∃ (pin : RawPin) (d : Dip) (s : State),
      s.applied = true ∧ s.sense.acOk = false ∧ ((pin.high = true ↔ s.plan.acOk.activeLow = false)) ∧ s.boc.state
        = .dip ∧ s.boc.dip = some d ∧ s.plan.restoreDelayMs ≠ 0) ∧
    (∃ (pin : RawPin) (d : Dip) (s : State),
      s.applied = true ∧ s.sense.acOk = false ∧ ((pin.high = true ↔ s.plan.acOk.activeLow = false)) ∧ s.boc.state
        = .dip ∧ s.boc.dip = some d ∧ s.plan.restoreDelayMs = 0) ∧
    (∃ (pin : RawPin) (s : State),
      s.applied = true ∧ s.sense.acOk = false ∧ ((pin.high = true ↔ s.plan.acOk.activeLow = false)) ∧ (s.boc.state
        = .init ∨ s.boc.state = .dark)) ∧
    (∃ (pin : RawPin) (s : State),
      s.applied = true ∧ s.sense.acOk = false ∧ ((pin.high = true ↔ s.plan.acOk.activeLow = false)) ∧ (s.boc.state
        = .commit ∨ s.boc.state = .descent)) ∧
    (∃ (pin : RawPin) (s : State),
      s.applied = true ∧ s.sense.acOk = false ∧ ((pin.high = true ↔ s.plan.acOk.activeLow = false)) ∧ (s.boc.state
        = .normal ∨ s.boc.state = .recover)) :=
  ⟨⟨⟨true, 0⟩, ⟨3, 1, -5⟩, { (base.modBoc fun b => { b with state := .dip, dip := some ⟨3, 1, -5⟩ }) with plan := { planT with restoreDelayMs := 1 } }, by decide +kernel⟩,
   ⟨⟨true, 0⟩, ⟨3, 1, -5⟩, base.modBoc fun b => { b with state := .dip, dip := some ⟨3, 1, -5⟩ }, by decide +kernel⟩,
   ⟨⟨true, 0⟩, base.modBoc fun b => { b with state := .dark }, by decide +kernel⟩,
   ⟨⟨true, 0⟩, base.modBoc fun b => { b with state := .commit }, by decide +kernel⟩,
   ⟨⟨true, 0⟩, base.modBoc fun b => { b with state := .recover }, by decide +kernel⟩⟩

theorem test_MainsUnseen_witness :
    (∃ (pin : RawPin) (s : State),
      let active := pin.high = !s.plan.acOk.activeLow
      s.applied = false ∨ s.sense.acOk = false ∨ active) ∧
    (∃ (pin : RawPin) (s : State),
      let active := pin.high = !s.plan.acOk.activeLow
      s.applied = false ∨ s.sense.acOk = true ∨ ¬ active) :=
  ⟨⟨⟨true, 0⟩, base, by decide +kernel⟩,
   ⟨⟨false, 0⟩, base, by decide +kernel⟩⟩

theorem test_RideLimitCommits_witness :
    (∃ (due : Nat) (s : State),
      let noWait := ∀ ch, s.eng.step ≠ .railWait ch
      s.applied = true ∧ s.boc.state = .dip ∧ s.boc.ride = some due ∧ noWait ∧ s.adu.parked = none) ∧
    (∃ (due : Nat) (p : Parked) (ten : Tenure) (s : State),
      let noWait := ∀ ch, s.eng.step ≠ .railWait ch
      s.applied = true ∧ s.boc.state = .dip ∧ s.boc.ride = some due ∧ noWait ∧ s.adu.parked = some p ∧
        s.flb.tenure = some ten) ∧
    (∃ (due : Nat) (s : State),
      s.applied = true ∧ s.boc.state = .dip ∧ s.boc.ride = some due) :=
  ⟨⟨2000, base.modBoc fun b => { b with state := .dip, ride := some 2000 }, by decide +kernel⟩,
   ⟨2000, ⟨parkedCommand, 5⟩, ⟨.requested, none, .parked, 0, false⟩, { (base.modBoc fun b => { b with state := .dip, ride := some 2000 }) with adu := { base.adu with parked := some ⟨parkedCommand, 5⟩ }, flb := { base.flb with mode := .tenure, tenure := some ⟨.requested, none, .parked, 0, false⟩ } }, by decide +kernel⟩,
   ⟨2000, base.modBoc fun b => { b with state := .dip, ride := some 2000 }, by decide +kernel⟩⟩

theorem test_RestoreStepsDown_witness :
    (∃ (due : Nat) (s : State),
      let toNormal := s.boc.shedLevel ≤ 1 ∧ ∀ ch, s.eng.step ≠ .railWait ch
      s.boc.state = .recover ∧ s.boc.restore = some due ∧ toNormal ∧ s.adu.parked = none) ∧
    (∃ (due : Nat) (p : Parked) (op : OpClass) (ten : Tenure) (s : State),
      let toNormal := s.boc.shedLevel ≤ 1 ∧ ∀ ch, s.eng.step ≠ .railWait ch
      let c := p.command
      s.boc.state = .recover ∧ s.boc.restore = some due ∧ toNormal ∧ s.adu.parked = some p ∧ c.cls.op = some op ∧
        s.flb.tenure = some ten) ∧
    (∃ (due : Nat) (s : State),
      s.boc.state = .recover ∧ s.boc.restore = some due ∧ 2 ≤ s.boc.shedLevel) ∧
    (∃ (due : Nat) (s : State),
      s.boc.state = .recover ∧ s.boc.restore = some due ∧ s.boc.shedLevel = 0) ∧
    (∃ (due : Nat) (s : State),
      s.boc.state = .recover ∧ s.boc.restore = some due ∧ s.boc.shedLevel = 1) :=
  ⟨⟨2000, base.modBoc fun b => { b with state := .recover, restore := some 2000, shedLevel := 1, heldBoard := true }, by decide +kernel⟩,
   ⟨2000, ⟨parkedCommand, 5⟩, .program, ⟨.requested, none, .parked, 0, false⟩, { (base.modBoc fun b => { b with state := .recover, restore := some 2000, shedLevel := 0 }) with adu := { base.adu with parked := some ⟨parkedCommand, 5⟩ }, flb := { base.flb with mode := .tenure, tenure := some ⟨.requested, none, .parked, 0, false⟩ } }, by decide +kernel⟩,
   ⟨2000, base.modBoc fun b => { b with state := .recover, restore := some 2000, shedLevel := 2 }, by decide +kernel⟩,
   ⟨2000, base.modBoc fun b => { b with state := .recover, restore := some 2000, shedLevel := 0 }, by decide +kernel⟩,
   ⟨2000, base.modBoc fun b => { b with state := .recover, restore := some 2000, shedLevel := 1 }, by decide +kernel⟩⟩

theorem test_ShedClearedRestoresARail_witness :
    (∃ (e : RailEntry) (level : Nat) (c : Channel),
      let wanted := (c.state = .off ∨ c.state = .falling) ∧ c.want = true
      let good := e.timed = false ∧ c.pgGood = true
      c.shed = true ∧ e.shedAt level = false ∧ wanted ∧ ¬ good) ∧
    (∃ (e : RailEntry) (level : Nat) (c : Channel),
      let wanted := (c.state = .off ∨ c.state = .falling) ∧ c.want = true
      let good := e.timed = false ∧ c.pgGood = true
      c.shed = true ∧ e.shedAt level = false ∧ wanted ∧ good ∧ settleCounts e.settle ≠ 0) ∧
    (∃ (e : RailEntry) (level : Nat) (c : Channel),
      let wanted := (c.state = .off ∨ c.state = .falling) ∧ c.want = true
      let good := e.timed = false ∧ c.pgGood = true
      c.shed = true ∧ e.shedAt level = false ∧ wanted ∧ good ∧ settleCounts e.settle = 0 ∧ c.order ≠ some .enable) ∧
    (∃ (e : RailEntry) (level : Nat) (c : Channel),
      let wanted := (c.state = .off ∨ c.state = .falling) ∧ c.want = true
      c.shed = true ∧ e.shedAt level = false ∧ ¬ wanted) :=
  ⟨⟨{ fallbackRail 0 with shedClass := 1 }, 0, { Channel.reset with shed := true, order := none, state := .falling, fall := some 9, want := true }, by decide +kernel⟩,
   ⟨{ { fallbackRail 0 with shedClass := 1 } with timed := false, settle := 1 }, 0, { Channel.reset with shed := true, order := none, state := .falling, want := true, pgGood := true }, by decide +kernel⟩,
   ⟨{ { fallbackRail 0 with shedClass := 1 } with timed := false, settle := 0 }, 0, { Channel.reset with shed := true, order := none, state := .off, want := true, pgGood := true }, by decide +kernel⟩,
   ⟨{ fallbackRail 0 with shedClass := 1 }, 0, { Channel.reset with shed := true, order := none, state := .fault, want := true }, by decide +kernel⟩⟩

theorem test_MainsTimerLetsTheSetRun_witness :
    (∃ (due : Nat) (s : State),
      s.applied = true ∧ s.boc.mains = some due ∧ s.boc.state = .init ∧ s.boc.latest ≠ none) ∧
    (∃ (due : Nat) (s : State),
      s.applied = true ∧ s.boc.mains = some due ∧ s.boc.state = .init ∧ s.boc.latest = none) ∧
    (∃ (due : Nat) (s : State),
      s.applied = true ∧ s.boc.mains = some due ∧ s.boc.state = .dark ∧ s.boc.survival ≠ .ended ∧
        s.survivalWaitEnd = none) ∧
    (∃ (due : Nat) (s : State),
      s.applied = true ∧ s.boc.mains = some due ∧ s.boc.state = .dark ∧ s.boc.survival = .ended) ∧
    (∃ (due : Nat) (s : State),
      s.applied = true ∧ s.boc.mains = some due ∧ s.boc.state = .dark ∧ s.boc.survival = .ended ∧ s.eng.trip =
        none ∧ s.eng.claimBoard = false ∧ s.eng.claimPanel = false ∧ s.eng.descent = false ∧ s.eng.mode = .idle) :=
  ⟨⟨2000, base.modBoc fun b => { b with state := .init, mains := some 2000, latest := some ⟨0, 0, 0, true⟩ }, by decide +kernel⟩,
   ⟨2000, base.modBoc fun b => { b with state := .init, mains := some 2000 }, by decide +kernel⟩,
   ⟨2000, base.modBoc fun b => { b with state := .dark, mains := some 2000, survival := .notBegun }, by decide +kernel⟩,
   ⟨2000, base.modBoc fun b => { b with state := .dark, mains := some 2000, survival := .ended }, by decide +kernel⟩,
   ⟨2000, base.modBoc fun b => { b with state := .dark, mains := some 2000, survival := .ended }, by decide +kernel⟩⟩

theorem test_ControllerTakesAComputation_witness :
    (∃ (r : Budget) (s : State),
      s.applied = true ∧ s.sense.bocOffer = true ∧ s.hbu = some r ∧ (s.boc.state = .init ∨ s.boc.state = .normal ∨
        s.boc.state = .recover)) ∧
    (∃ (r : Budget) (s : State),
      s.applied = true ∧ s.sense.bocOffer = true ∧ s.hbu = some r ∧ s.boc.state = .descent) ∧
    (∃ (r : Budget) (s : State),
      s.applied = true ∧ s.sense.bocOffer = true ∧ s.hbu = some r ∧ s.boc.state = .dark) ∧
    (∃ (r : Budget) (s : State),
      s.applied = true ∧ s.sense.bocOffer = true ∧ s.hbu = some r ∧ s.boc.state = .dip ∧ 0 ≤ r.reserve) ∧
    (∃ (r : Budget) (s : State),
      s.applied = true ∧ s.sense.bocOffer = true ∧ s.hbu = some r ∧ s.boc.state = .dip ∧ r.reserve < 0) ∧
    (∃ (r : Budget) (s : State),
      s.applied = true ∧ s.sense.bocOffer = true ∧ s.hbu = some r ∧ s.boc.state = .commit ∧ s.flb.inflight ≠ none
        ∧ r.deadline = true) ∧
    (∃ (r : Budget) (s : State),
      s.applied = true ∧ s.sense.bocOffer = true ∧ s.hbu = some r ∧ s.boc.state = .commit ∧ s.flb.inflight ≠ none
        ∧ r.deadline = false) ∧
    (∃ (r : Budget) (s : State),
      s.applied = true ∧ s.sense.bocOffer = true ∧ s.hbu = some r ∧ s.boc.state = .commit ∧ s.flb.inflight ≠ none
        ∧ r.deadline = false) ∧
    (∃ (r : Budget) (s : State),
      s.applied = true ∧ s.sense.bocOffer = true ∧ s.hbu = some r ∧ s.boc.state = .commit ∧ s.flb.inflight = none) :=
  ⟨⟨(budget 5), { base with sense := { base.sense with bocOffer := true }, hbu := some (budget 5), boc := { base.boc with state := .normal } }, by decide +kernel⟩,
   ⟨(budget 5), { base with sense := { base.sense with bocOffer := true }, hbu := some (budget 5), boc := { base.boc with state := .descent } }, by decide +kernel⟩,
   ⟨(budget 5), { base with sense := { base.sense with bocOffer := true }, hbu := some (budget 5), boc := { base.boc with state := .dark } }, by decide +kernel⟩,
   ⟨(budget 0), { base with sense := { base.sense with bocOffer := true }, hbu := some (budget 0), boc := { base.boc with state := .dip } }, by decide +kernel⟩,
   ⟨(budget (-1)), { base with sense := { base.sense with bocOffer := true }, hbu := some (budget (-1)), boc := { base.boc with state := .dip } }, by decide +kernel⟩,
   ⟨{ budget 0 with deadline := true }, { base with sense := { base.sense with bocOffer := true }, hbu := some { budget 0 with deadline := true }, boc := { base.boc with state := .commit }, flb := { base.flb with inflight := some flight } }, by decide +kernel⟩,
   ⟨(budget 1), { base with sense := { base.sense with bocOffer := true }, hbu := some (budget 1), boc := { base.boc with state := .commit }, flb := { base.flb with inflight := some flight } }, by decide +kernel⟩,
   ⟨(budget 1), { base with sense := { base.sense with bocOffer := true }, hbu := some (budget 1), boc := { base.boc with state := .commit }, flb := { base.flb with inflight := some flight } }, by decide +kernel⟩,
   ⟨(budget 1), { base with sense := { base.sense with bocOffer := true }, hbu := some (budget 1), boc := { base.boc with state := .commit } }, by decide +kernel⟩⟩

theorem test_BusCollapseDescends_witness :
    (∃ (s : State),
      s.applied = true ∧ s.sense.collapse = true ∧ ((s.eng.slot = none ↔ s.eng.mode = .idle)) ∧ (s.boc.state =
        .init ∨ s.boc.state = .dark)) ∧
    (∃ (s : State),
      s.applied = true ∧ s.sense.collapse = true ∧ ((s.eng.slot = none ↔ s.eng.mode = .idle)) ∧ s.boc.state =
        .descent) ∧
    (∃ (s : State),
      s.applied = true ∧ s.sense.collapse = true ∧ ((s.eng.slot = none ↔ s.eng.mode = .idle)) ∧ s.boc.state =
        .descent ∧ s.eng.mode = .idle) ∧
    (∃ (s : State),
      s.applied = true ∧ s.sense.collapse = true ∧ ((s.eng.slot = none ↔ s.eng.mode = .idle)) ∧ s.boc.state =
        .descent ∧ s.eng.mode = .running ∧ s.eng.slot = some .trip) ∧
    (∃ (s : State),
      let down := s.eng.board = .down ∧ s.eng.panel = .down
      s.applied = true ∧ s.sense.collapse = true ∧ ((s.eng.slot = none ↔ s.eng.mode = .idle)) ∧ s.boc.state =
        .descent ∧ ¬ down ∧ s.eng.slot ≠ some .trip ∧ (s.plan.slotRange .trip).count ≠ 0) ∧
    (∃ (s : State),
      let acting := s.boc.state = .normal ∨ s.boc.state = .dip ∨ s.boc.state = .recover ∨ s.boc.state = .commit
      s.applied = true ∧ s.sense.collapse = true ∧ ((s.eng.slot = none ↔ s.eng.mode = .idle)) ∧ acting) ∧
    (∃ (s : State),
      let acting := s.boc.state = .normal ∨ s.boc.state = .dip ∨ s.boc.state = .recover ∨ s.boc.state = .commit
      s.applied = true ∧ s.sense.collapse = true ∧ ((s.eng.slot = none ↔ s.eng.mode = .idle)) ∧ acting) ∧
    (∃ (s : State),
      let acting := s.boc.state = .normal ∨ s.boc.state = .dip ∨ s.boc.state = .recover ∨ s.boc.state = .commit
      let down := s.eng.board = .down ∧ s.eng.panel = .down
      s.applied = true ∧ s.sense.collapse = true ∧ ((s.eng.slot = none ↔ s.eng.mode = .idle)) ∧ acting ∧ ¬ down ∧
        s.eng.mode = .running ∧ s.eng.slot = some .trip ∧ s.eng.step = .ready) ∧
    (∃ (s : State),
      let acting := s.boc.state = .normal ∨ s.boc.state = .dip ∨ s.boc.state = .recover ∨ s.boc.state = .commit
      s.applied = true ∧ s.sense.collapse = true ∧ ((s.eng.slot = none ↔ s.eng.mode = .idle)) ∧ acting ∧
        s.flb.inflight ≠ none) ∧
    (∃ (s : State),
      let acting := s.boc.state = .normal ∨ s.boc.state = .dip ∨ s.boc.state = .recover ∨ s.boc.state = .commit
      let down := s.eng.board = .down ∧ s.eng.panel = .down
      s.applied = true ∧ s.sense.collapse = true ∧ ((s.eng.slot = none ↔ s.eng.mode = .idle)) ∧ acting ∧ down) ∧
    (∃ (s : State),
      let acting := s.boc.state = .normal ∨ s.boc.state = .dip ∨ s.boc.state = .recover ∨ s.boc.state = .commit
      let down := s.eng.board = .down ∧ s.eng.panel = .down
      s.applied = true ∧ s.sense.collapse = true ∧ ((s.eng.slot = none ↔ s.eng.mode = .idle)) ∧ acting ∧ ¬ down ∧
        s.eng.slot ≠ some .trip ∧ (s.plan.slotRange .trip).count ≠ 0) ∧
    (∃ (s : State),
      let acting := s.boc.state = .normal ∨ s.boc.state = .dip ∨ s.boc.state = .recover ∨ s.boc.state = .commit
      let down := s.eng.board = .down ∧ s.eng.panel = .down
      s.applied = true ∧ s.sense.collapse = true ∧ ((s.eng.slot = none ↔ s.eng.mode = .idle)) ∧ (acting ∧ ¬ down ∧
        s.eng.slot ≠ some .trip ∧ (s.plan.slotRange .trip).count ≠ 0 ∧ ∀ ch, s.eng.step ≠ .railWait ch)) :=
  ⟨⟨(base.modBoc fun b => { b with state := .init }).modSense fun m => { m with collapse := true }, by decide +kernel⟩,
   ⟨(base.modBoc fun b => { b with state := .descent }).modSense fun m => { m with collapse := true }, by decide +kernel⟩,
   ⟨(base.modBoc fun b => { b with state := .descent }).modSense fun m => { m with collapse := true }, by decide +kernel⟩,
   ⟨underWay .trip .ready ((base.modBoc fun b => { b with state := .descent }).modSense fun m => { m with collapse := true }), by decide +kernel⟩,
   ⟨({ (base.modBoc fun b => { b with state := .descent }).modSense fun m => { m with collapse := true } with plan := panelPlan .nop } : State).modEng fun e => { e with board := .up }, by decide +kernel⟩,
   ⟨(base.modBoc fun b => { b with state := .recover }).modSense fun m => { m with collapse := true }, by decide +kernel⟩,
   ⟨(base.modBoc fun b => { b with state := .dip }).modSense fun m => { m with collapse := true }, by decide +kernel⟩,
   ⟨(underWay .trip .ready ((base.modBoc fun b => { b with state := .normal }).modSense fun m => { m with collapse := true })).modEng fun e => { e with board := .up }, by decide +kernel⟩,
   ⟨((base.modBoc fun b => { b with state := .commit }).modSense fun m => { m with collapse := true }).modFlb fun f => { f with inflight := some flight }, by decide +kernel⟩,
   ⟨(base.modBoc fun b => { b with state := .normal }).modSense fun m => { m with collapse := true }, by decide +kernel⟩,
   ⟨({ (base.modBoc fun b => { b with state := .normal }).modSense fun m => { m with collapse := true } with plan := panelPlan .nop } : State).modEng fun e => { e with board := .up }, by decide +kernel⟩,
   ⟨({ (base.modBoc fun b => { b with state := .normal }).modSense fun m => { m with collapse := true } with plan := panelPlan .nop } : State).modEng fun e => { e with board := .up }, by decide +kernel⟩⟩

theorem test_DipEntryGoesStale_witness :
    (∃ (pos : Fin 16) (e : DipEntry) (s : State),
      let held := s.boc.history[pos.val]? = some e
      held ∧ e.stale = false ∧ 600000 ≤ (s.sense.uptime - e.start).toNat) ∧
    (∃ (pos : Fin 16) (e : DipEntry) (s : State),
      let held := s.boc.history[pos.val]? = some e
      held ∧ (e.stale = true ∨ (s.sense.uptime - e.start).toNat < 600000)) ∧
    (∃ (pos : Fin 16) (s : State),
      s.boc.history[pos.val]? = none) :=
  ⟨⟨0, ⟨0, 1, 1, 0, false⟩, (base.modBoc fun b => { b with history := [⟨0, 1, 1, 0, false⟩] }).modSense fun m => { m with uptime := 600000 }, by decide +kernel⟩,
   ⟨0, ⟨0, 1, 1, 0, false⟩, (base.modBoc fun b => { b with history := [⟨0, 1, 1, 0, false⟩] }).modSense fun m => { m with uptime := 599999 }, by decide +kernel⟩,
   ⟨0, base, by decide +kernel⟩⟩

theorem test_RequestChanges_witness :
    (∃ (pin : RawPin) (s : State),
      let active := pin.high
      s.released = true ∧ s.sense.runReq ≠ active) ∧
    (∃ (pin : RawPin) (s : State),
      let active := pin.high
      s.released = true ∧ s.sense.panelReq ≠ active) ∧
    (∃ (pin : RawPin) (s : State),
      let active := pin.high
      s.released = true ∧ s.sense.runReq = active) ∧
    (∃ (pin : RawPin) (s : State),
      let active := pin.high
      s.released = true ∧ s.sense.panelReq = active) ∧
    (∃ (pin : RawPin) (s : State),
      let active := pin.high
      s.released = true ∧ active = true ∧ s.sense.runReq = false ∧ s.applied = true ∧ s.boc.state = .normal ∧
        s.eng.mode = .idle ∧ s.eng.trip = none ∧ s.eng.descent = false ∧ s.eng.claimBoard = false ∧
        s.eng.claimPanel = false ∧ s.eng.board = .down ∧ s.eng.panel = .down ∧ s.eng.boardLock = false ∧
        s.mainActive = true ∧ (s.plan.slotRange .boardUp).count ≠ 0) :=
  ⟨⟨⟨true, 0⟩, base, by decide +kernel⟩,
   ⟨⟨false, 0⟩, base.modSense fun m => { m with panelReq := true }, by decide +kernel⟩,
   ⟨⟨false, 0⟩, base, by decide +kernel⟩,
   ⟨⟨false, 0⟩, base, by decide +kernel⟩,
   ⟨⟨true, 0⟩, { engine fun e => { e with lines := Vector.replicate 6 true } with plan := panelPlan .nop }, by decide +kernel⟩⟩

theorem test_AuxChanges_witness :
    (∃ (input : Fin 2) (pin : RawPin) (s : State),
      let entry := if input = 0 then s.plan.aux0 else s.plan.aux1
      let active := pin.high != entry.activeLow
      let changes := s.sense.aux[input] ≠ active
      s.applied = true ∧ (changes ∧ ∀ d, s.eng.step ≠ .awaiting input active d)) ∧
    (∃ (input : Fin 2) (pin : RawPin) (n : SlotName) (due : Nat) (s : State),
      let entry := if input = 0 then s.plan.aux0 else s.plan.aux1
      let active := pin.high != entry.activeLow
      let changes := s.sense.aux[input] ≠ active
      s.applied = true ∧ changes ∧ StepUnderWay s n (.awaiting input active due)) ∧
    (∃ (input : Fin 2) (pin : RawPin) (s : State),
      let entry := if input = 0 then s.plan.aux0 else s.plan.aux1
      let active := pin.high != entry.activeLow
      let changes := s.sense.aux[input] ≠ active
      s.applied = true ∧ ¬ changes) :=
  ⟨⟨1, ⟨true, 0⟩, base, by refine ⟨by decide +kernel, by decide +kernel, fun d h => ?_⟩; change StepStatus.idle = _ at h; cases h⟩,
   ⟨1, ⟨true, 0⟩, .trip, 9, underWay .trip (.awaiting 1 true 9) base, by simp only [stepUnderWay_iff]; decide +kernel⟩,
   ⟨1, ⟨false, 0⟩, base, by decide +kernel⟩⟩

theorem test_InputsUnseen_witness :
    (∃ (s : State),
      s.applied = false) ∧
    (∃ (s : State),
      s.released = false) :=
  ⟨⟨State.reset, by decide +kernel⟩,
   ⟨State.reset, by decide +kernel⟩⟩

theorem test_RailUpStep_witness :
    (∃ (ch : Fin 12) (wait : Bool) (n : SlotName) (s : State),
      let c := s.rail ch
      StepReady s n (.railUp ch wait) ∧ (s.rail ch).order = none ∧ c.state = .on) ∧
    (∃ (ch : Fin 12) (wait : Bool) (n : SlotName) (s : State),
      let c := s.rail ch
      StepReady s n (.railUp ch wait) ∧ (s.rail ch).order = none ∧ ((c.state = .rising ∨ c.state = .settling) ∧
        wait = true)) ∧
    (∃ (ch : Fin 12) (wait : Bool) (n : SlotName) (s : State),
      let c := s.rail ch
      StepReady s n (.railUp ch wait) ∧ (s.rail ch).order = none ∧ ((c.state = .rising ∨ c.state = .settling) ∧
        wait = false)) ∧
    (∃ (ch : Fin 12) (wait : Bool) (n : SlotName) (s : State),
      let c := s.rail ch
      let down := c.state = .off ∨ c.state = .falling
      StepReady s n (.railUp ch wait) ∧ (s.rail ch).order = none ∧ down ∧ c.shed = true) ∧
    (∃ (ch : Fin 12) (wait : Bool) (n : SlotName) (s : State),
      let c := s.rail ch
      let e := s.railEntry ch
      let down := c.state = .off ∨ c.state = .falling
      let stays := e.timed = true ∨ c.pgGood = false
      StepReady s n (.railUp ch wait) ∧ (s.rail ch).order = none ∧ down ∧ c.shed = false ∧ stays ∧ wait = true) ∧
    (∃ (ch : Fin 12) (wait : Bool) (n : SlotName) (s : State),
      let c := s.rail ch
      let e := s.railEntry ch
      let down := c.state = .off ∨ c.state = .falling
      let stays := e.timed = true ∨ c.pgGood = false
      StepReady s n (.railUp ch wait) ∧ (s.rail ch).order = none ∧ down ∧ c.shed = false ∧ stays ∧ wait = false) ∧
    (∃ (ch : Fin 12) (wait : Bool) (n : SlotName) (s : State),
      let c := s.rail ch
      let e := s.railEntry ch
      let down := c.state = .off ∨ c.state = .falling
      let stays := e.timed = true ∨ c.pgGood = false
      StepReady s n (.railUp ch wait) ∧ (s.rail ch).order = none ∧ down ∧ c.shed = false ∧ ¬ stays ∧ e.settle ≠ 0
        ∧ wait = true) ∧
    (∃ (ch : Fin 12) (wait : Bool) (n : SlotName) (s : State),
      let c := s.rail ch
      let e := s.railEntry ch
      let down := c.state = .off ∨ c.state = .falling
      let stays := e.timed = true ∨ c.pgGood = false
      StepReady s n (.railUp ch wait) ∧ (s.rail ch).order = none ∧ down ∧ c.shed = false ∧ ¬ stays ∧ e.settle ≠ 0
        ∧ wait = false) ∧
    (∃ (ch : Fin 12) (wait : Bool) (n : SlotName) (s : State),
      let c := s.rail ch
      let e := s.railEntry ch
      let down := c.state = .off ∨ c.state = .falling
      let stays := e.timed = true ∨ c.pgGood = false
      StepReady s n (.railUp ch wait) ∧ (s.rail ch).order = none ∧ down ∧ c.shed = false ∧ ¬ stays ∧ e.settle = 0) :=
  ⟨⟨0, true, .trip, ready (.railUp 0 true) (base.setRail 0 { Channel.reset with state := .on }), by simp only [stepReady_iff]; decide +kernel⟩,
   ⟨0, true, .trip, ready (.railUp 0 true) (base.setRail 0 { Channel.reset with state := .settling }), by simp only [stepReady_iff]; decide +kernel⟩,
   ⟨0, false, .trip, ready (.railUp 0 false) (base.setRail 0 { Channel.reset with state := .rising }), by simp only [stepReady_iff]; decide +kernel⟩,
   ⟨0, true, .trip, ready (.railUp 0 true) (base.setRail 0 { Channel.reset with shed := true }), by simp only [stepReady_iff]; decide +kernel⟩,
   ⟨1, true, .trip, ready (.railUp 1 true) (base.setRail 1 { Channel.reset with state := .falling }), by simp only [stepReady_iff]; decide +kernel⟩,
   ⟨0, false, .trip, ready (.railUp 0 false) (base.setRail 0 { Channel.reset with state := .off }), by simp only [stepReady_iff]; decide +kernel⟩,
   ⟨0, true, .trip, ready (.railUp 0 true) (base.setRail 0 { Channel.reset with pgGood := true }), by simp only [stepReady_iff]; decide +kernel⟩,
   ⟨0, false, .trip, ready (.railUp 0 false) (base.setRail 0 { Channel.reset with pgGood := true }), by simp only [stepReady_iff]; decide +kernel⟩,
   ⟨2, true, .trip, ready (.railUp 2 true) (base.setRail 2 { Channel.reset with pgGood := true }), by simp only [stepReady_iff]; decide +kernel⟩⟩

theorem test_RailDownStep_witness :
    (∃ (ch : Fin 12) (wait : Bool) (n : SlotName) (s : State),
      let c := s.rail ch
      StepReady s n (.railDown ch wait) ∧ (s.rail ch).order = none ∧ c.state = .off) ∧
    (∃ (ch : Fin 12) (wait : Bool) (n : SlotName) (s : State),
      let c := s.rail ch
      StepReady s n (.railDown ch wait) ∧ (s.rail ch).order = none ∧ c.state = .fault) ∧
    (∃ (ch : Fin 12) (wait : Bool) (n : SlotName) (s : State),
      let c := s.rail ch
      StepReady s n (.railDown ch wait) ∧ (s.rail ch).order = none ∧ c.state = .falling ∧ wait = true) ∧
    (∃ (ch : Fin 12) (wait : Bool) (n : SlotName) (s : State),
      let c := s.rail ch
      StepReady s n (.railDown ch wait) ∧ (s.rail ch).order = none ∧ c.state = .falling ∧ wait = false) ∧
    (∃ (ch : Fin 12) (wait : Bool) (n : SlotName) (s : State),
      let c := s.rail ch
      let e := s.railEntry ch
      let up := c.state = .rising ∨ c.state = .settling ∨ c.state = .on
      let stays := e.timed = true ∨ c.pgGood = true
      StepReady s n (.railDown ch wait) ∧ (s.rail ch).order = none ∧ up ∧ stays ∧ wait = true) ∧
    (∃ (ch : Fin 12) (wait : Bool) (n : SlotName) (s : State),
      let c := s.rail ch
      let e := s.railEntry ch
      let up := c.state = .rising ∨ c.state = .settling ∨ c.state = .on
      let stays := e.timed = true ∨ c.pgGood = true
      StepReady s n (.railDown ch wait) ∧ (s.rail ch).order = none ∧ up ∧ stays ∧ wait = false) ∧
    (∃ (ch : Fin 12) (wait : Bool) (n : SlotName) (s : State),
      let c := s.rail ch
      let e := s.railEntry ch
      let up := c.state = .rising ∨ c.state = .settling ∨ c.state = .on
      let stays := e.timed = true ∨ c.pgGood = true
      StepReady s n (.railDown ch wait) ∧ (s.rail ch).order = none ∧ up ∧ ¬ stays) :=
  ⟨⟨0, true, .trip, ready (.railDown 0 true) (base.setRail 0 { Channel.reset with state := .off }), by simp only [stepReady_iff]; decide +kernel⟩,
   ⟨0, true, .trip, ready (.railDown 0 true) (base.setRail 0 { Channel.reset with state := .fault }), by simp only [stepReady_iff]; decide +kernel⟩,
   ⟨0, true, .trip, ready (.railDown 0 true) (base.setRail 0 { Channel.reset with state := .falling }), by simp only [stepReady_iff]; decide +kernel⟩,
   ⟨0, false, .trip, ready (.railDown 0 false) (base.setRail 0 { Channel.reset with state := .falling }), by simp only [stepReady_iff]; decide +kernel⟩,
   ⟨1, true, .trip, ready (.railDown 1 true) (base.setRail 1 { Channel.reset with state := .on }), by simp only [stepReady_iff]; decide +kernel⟩,
   ⟨0, false, .trip, ready (.railDown 0 false) (base.setRail 0 { Channel.reset with state := .on, pgGood := true }), by simp only [stepReady_iff]; decide +kernel⟩,
   ⟨0, true, .trip, ready (.railDown 0 true) (base.setRail 0 { Channel.reset with state := .rising }), by simp only [stepReady_iff]; decide +kernel⟩⟩

theorem test_FailedStep_witness :
    (∃ (ch : Fin 12) (wait : Bool) (kind : FaultKind) (n : SlotName) (st : Step) (s : State),
      s.currentStep = some st ∧ StepReady s n (.railUp ch wait) ∧ (s.rail ch).state = .fault ∧ (s.rail
        ch).faultKind = some kind) ∧
    (∃ (input : Fin 2) (active : Bool) (due : Nat) (n : SlotName) (st : Step) (s : State),
      s.currentStep = some st ∧ StepUnderWay s n (.awaiting input active due) ∧ st.kind.code = 7 ∧ st.kind.target
        = input.val) :=
  ⟨⟨0, true, .dropout, .trip, ⟨.railUp 0 true, true⟩, ready (.railUp 0 true) (base.setRail 0 { Channel.reset with state := .fault, faultKind := some .dropout }), by simp only [stepReady_iff]; decide +kernel⟩,
   ⟨1, true, 9, .trip, ⟨.await 1 true 5, true⟩, underWay .trip (.awaiting 1 true 9) (ready (.await 1 true 5) (base)), by simp only [stepUnderWay_iff]; decide +kernel⟩⟩

theorem test_LineStepDrivesItsLine_witness :
    (∃ (ctl : Fin 6) (active : Bool) (n : SlotName) (s : State),
      let waits := s.eng.board ≠ .down ∧ s.plan.mainLine = some ctl ∧ active = false ∧ s.jnu.work.any (fun w => w.whileQuiet) = true
      StepReady s n (.line ctl active) ∧ ¬ waits) ∧
    (∃ (ctl : Fin 6) (active : Bool) (n : SlotName) (s : State),
      let waits := s.eng.board ≠ .down ∧ s.plan.mainLine = some ctl ∧ active = false ∧ s.jnu.work.any (fun w => w.whileQuiet) = true
      StepReady s n (.line ctl active) ∧ waits) :=
  ⟨⟨0, true, .trip, ready (.line 0 true) ({ base with eng := { base.eng with board := .up }, jnu := { base.jnu with work := some ⟨.record, true⟩ } }), by simp only [stepReady_iff]; decide +kernel⟩,
   ⟨0, false, .trip, ready (.line 0 false) ({ base with eng := { base.eng with board := .up }, jnu := { base.jnu with work := some ⟨.record, true⟩ } }), by simp only [stepReady_iff]; decide +kernel⟩⟩

theorem test_LinePulseRuns_witness :
    (∃ (ctl : Fin 6) (ms : Nat) (n : SlotName) (s : State),
      let ends := s.eng.board ≠ .down ∧ s.plan.mainLine = some ctl
      let waits := ends ∧ s.jnu.work.any (fun w => w.whileQuiet) = true
      StepReady s n (.linePulse ctl ms) ∧ ¬ waits) ∧
    (∃ (ctl : Fin 6) (ms : Nat) (n : SlotName) (s : State),
      let ends := s.eng.board ≠ .down ∧ s.plan.mainLine = some ctl
      let waits := ends ∧ s.jnu.work.any (fun w => w.whileQuiet) = true
      StepReady s n (.linePulse ctl ms) ∧ waits) ∧
    (∃ (ctl : Fin 6) (due : Nat) (n : SlotName) (s : State),
      StepUnderWay s n (.pulsing ctl due)) :=
  ⟨⟨1, 255, .trip, ready (.linePulse 1 255) ({ base with eng := { base.eng with board := .up }, jnu := { base.jnu with work := some ⟨.record, true⟩ } }), by simp only [stepReady_iff]; decide +kernel⟩,
   ⟨0, 1, .trip, ready (.linePulse 0 1) ({ base with eng := { base.eng with board := .up }, jnu := { base.jnu with work := some ⟨.record, true⟩ } }), by simp only [stepReady_iff]; decide +kernel⟩,
   ⟨0, 9, .trip, underWay .trip (.pulsing 0 9) base, by simp only [stepUnderWay_iff]; decide +kernel⟩⟩

theorem test_CapChangesActAtOnce_witness :
    (∃ (s : State),
      let t := min s.eng.cap (match s.boc.shedLevel with
        | 0 => 1000
        | 1 => s.plan.cap1
        | 2 => s.plan.cap2
        | _ => 0)
      s.dpt.applied ≤ 1000 ∧ s.dpt.applied < t) ∧
    (∃ (s : State),
      let t := min s.eng.cap (match s.boc.shedLevel with
        | 0 => 1000
        | 1 => s.plan.cap1
        | 2 => s.plan.cap2
        | _ => 0)
      s.dpt.applied ≤ 1000 ∧ s.dpt.applied = t) ∧
    (∃ (s : State),
      let t := min s.eng.cap (match s.boc.shedLevel with
        | 0 => 1000
        | 1 => s.plan.cap1
        | 2 => s.plan.cap2
        | _ => 0)
      s.dpt.applied ≤ 1000 ∧ t < s.dpt.applied ∧ s.sense.dim.state = .waiting) ∧
    (∃ (s : State),
      let t := min s.eng.cap (match s.boc.shedLevel with
        | 0 => 1000
        | 1 => s.plan.cap1
        | 2 => s.plan.cap2
        | _ => 0)
      s.dpt.applied ≤ 1000 ∧ (t < s.dpt.applied ∧ (s.sense.dim.state = .steadyLow ∨ s.sense.dim.state =
        .steadyHigh))) ∧
    (∃ (s : State),
      let t := min s.eng.cap (match s.boc.shedLevel with
        | 0 => 1000
        | 1 => s.plan.cap1
        | 2 => s.plan.cap2
        | _ => 0)
      let cut := t < s.dpt.applied ∧ s.sense.dim.state = .periodic
      s.dpt.applied ≤ 1000 ∧ cut ∧ s.dpt.outHigh = false) ∧
    (∃ (s : State),
      let t := min s.eng.cap (match s.boc.shedLevel with
        | 0 => 1000
        | 1 => s.plan.cap1
        | 2 => s.plan.cap2
        | _ => 0)
      let duty := min s.sense.dim.duty t
      let until_ := s.sense.dim.start.getD s.clock + duty * s.sense.dim.period.getD 0 / 1000
      let cut := t < s.dpt.applied ∧ s.sense.dim.state = .periodic
      s.dpt.applied ≤ 1000 ∧ cut ∧ s.dpt.outHigh = true ∧ s.clock < until_) ∧
    (∃ (s : State),
      let t := min s.eng.cap (match s.boc.shedLevel with
        | 0 => 1000
        | 1 => s.plan.cap1
        | 2 => s.plan.cap2
        | _ => 0)
      let duty := min s.sense.dim.duty t
      let until_ := s.sense.dim.start.getD s.clock + duty * s.sense.dim.period.getD 0 / 1000
      let cut := t < s.dpt.applied ∧ s.sense.dim.state = .periodic
      s.dpt.applied ≤ 1000 ∧ cut ∧ s.dpt.outHigh = true ∧ until_ ≤ s.clock) :=
  ⟨⟨{ base with eng := { base.eng with cap := 1000 }, dpt := { Dimming.reset with applied := 999 }, sense := { base.sense with dim := { base.sense.dim with duty := 0 } } }, by decide +kernel⟩,
   ⟨{ base with eng := { base.eng with cap := 1000 }, dpt := { Dimming.reset with applied := 1000 }, sense := { base.sense with dim := { base.sense.dim with duty := 0 } } }, by decide +kernel⟩,
   ⟨{ base with eng := { base.eng with cap := 0 }, dpt := { Dimming.reset with applied := 1000 }, sense := { base.sense with dim := { base.sense.dim with state := .waiting } } }, by decide +kernel⟩,
   ⟨{ base with eng := { base.eng with cap := 999 }, dpt := { Dimming.reset with applied := 1000 }, sense := { base.sense with dim := { base.sense.dim with state := .steadyHigh } } }, by decide +kernel⟩,
   ⟨{ base with eng := { base.eng with cap := 500 }, dpt := { Dimming.reset with applied := 1000, duty := 501 }, sense := { base.sense with dim := { base.sense.dim with state := .periodic, start := some 0, period := some 100000, duty := 700 } } }, by decide +kernel⟩,
   ⟨{ base with eng := { base.eng with cap := 500 }, dpt := { Dimming.reset with applied := 1000, duty := 700, outHigh := true }, sense := { base.sense with dim := { base.sense.dim with state := .periodic, start := some 0, period := some 100000, duty := 700 } } }, by decide +kernel⟩,
   ⟨{ base with eng := { base.eng with cap := 10 }, dpt := { Dimming.reset with applied := 1000, duty := 700, outHigh := true }, sense := { base.sense with dim := { base.sense.dim with state := .periodic, start := some 0, period := some 100000, duty := 700 } } }, by decide +kernel⟩⟩

theorem test_DelayAwaitAndDimLimit_witness :
    (∃ (ms : Nat) (n : SlotName) (s : State),
      StepReady s n (.delay ms)) ∧
    (∃ (due : Nat) (n : SlotName) (s : State),
      StepUnderWay s n (.delaying due)) ∧
    (∃ (ms : Nat) (input : Fin 2) (active : Bool) (n : SlotName) (s : State),
      StepReady s n (.await input active ms) ∧ s.sense.aux[input] = active) ∧
    (∃ (ms : Nat) (input : Fin 2) (active : Bool) (n : SlotName) (s : State),
      StepReady s n (.await input active ms) ∧ s.sense.aux[input] ≠ active) ∧
    (∃ (value : Nat) (n : SlotName) (s : State),
      StepReady s n (.dimLimit value)) :=
  ⟨⟨10000, .trip, ready (.delay 10000) (base), by simp only [stepReady_iff]; decide +kernel⟩,
   ⟨9, .trip, underWay .trip (.delaying 9) base, by simp only [stepUnderWay_iff]; decide +kernel⟩,
   ⟨5, 1, false, .trip, ready (.await 1 false 5) (base), by simp only [stepReady_iff]; decide +kernel⟩,
   ⟨5, 1, true, .trip, ready (.await 1 true 5) (base), by simp only [stepReady_iff]; decide +kernel⟩,
   ⟨1000, .trip, ready (.dimLimit 1000) (base), by simp only [stepReady_iff]; decide +kernel⟩⟩

theorem test_QuiesceAndResume_witness :
    (∃ (n : SlotName) (s : State),
      let free := s.flb.inflight = none ∧ s.adu.parked = none ∧ ∀ t, s.flb.tenure = some t → t.owner = .internal
      let descends := n = .panelSwift ∨ n = .boardSwift ∨ n = .trip
      StepReady s n .flashQuiesce ∧ (descends ∨ free)) ∧
    (∃ (n : SlotName) (s : State),
      let free := s.flb.inflight = none ∧ s.adu.parked = none ∧ ∀ t, s.flb.tenure = some t → t.owner = .internal
      let descends := n = .panelSwift ∨ n = .boardSwift ∨ n = .trip
      StepReady s n .flashQuiesce ∧ ¬ descends ∧ ¬ free) ∧
    (∃ (n : SlotName) (s : State),
      StepReady s n .flashResume) ∧
    (∃ (n : SlotName) (s : State),
      StepReady s n .nop) :=
  ⟨⟨.trip, ready (.flashQuiesce) (base), by simp only [stepReady_iff]; decide +kernel⟩,
   ⟨.panelDown, { ready (.flashQuiesce) (base) with flb := { base.flb with inflight := some flight }, eng := { (ready (.flashQuiesce) (base)).eng with slot := some .panelDown }, plan := panelPlan .flashQuiesce }, by simp only [stepReady_iff]; decide +kernel⟩,
   ⟨.trip, ready (.flashResume) (base), by simp only [stepReady_iff]; decide +kernel⟩,
   ⟨.trip, ready (.nop) (base), by simp only [stepReady_iff]; decide +kernel⟩⟩

theorem test_UpSequenceSuspendsOutsideNormal_witness :
    ∃ (k : StepKind) (n : SlotName) (s : State),
      s.applied = true ∧ s.eng.mode = .running ∧ s.eng.slot = some n ∧ n.isUp = true ∧ s.eng.step = .ready ∧
        s.currentStep.map Step.kind = some k ∧ (s.boc.state = .dip ∨ s.boc.state = .recover ∨ (s.boc.state =
        .commit ∧ s.flb.inflight ≠ none)) :=
  ⟨.railUp 0 true, .boardUp, { base with boc := { base.boc with state := .dip }, eng := { base.eng with mode := .running, slot := some .boardUp, step := .ready } }, by decide +kernel⟩

theorem test_DimmingFollowsDimIn_witness :
    (∃ (s : State),
      let m := s.sense.dim
      s.released = true ∧ m.high = false ∧ m.state = .waiting ∧ m.start = none) ∧
    (∃ (start : Nat) (s : State),
      let m := s.sense.dim
      s.released = true ∧ (m.high = false ∧ (m.state = .waiting ∨ m.state = .periodic) ∧ m.start = some start)) ∧
    (∃ (s : State),
      let m := s.sense.dim
      let steady := m.state = .steadyLow ∨ m.state = .steadyHigh
      s.released = true ∧ m.high = false ∧ steady) ∧
    (∃ (s : State),
      let m := s.sense.dim
      let steady := m.state = .steadyLow ∨ m.state = .steadyHigh
      s.released = true ∧ m.high = true ∧ ¬ steady) ∧
    (∃ (s : State),
      let m := s.sense.dim
      let steady := m.state = .steadyLow ∨ m.state = .steadyHigh
      s.released = true ∧ m.high = true ∧ steady) ∧
    (∃ (s : State),
      let m := s.sense.dim
      let steady := m.state = .steadyLow ∨ m.state = .steadyHigh
      s.released = true ∧ ¬ steady) ∧
    (∃ (due : Nat) (s : State),
      s.released = true ∧ s.dpt.outHigh = true ∧ s.dpt.highEnd = some due) ∧
    (∃ (due : Nat) (s : State),
      let m := s.sense.dim
      let steady := m.state = .steadyLow ∨ m.state = .steadyHigh
      s.released = true ∧ s.dpt.ramp = some due ∧ ¬ steady) ∧
    (∃ (due : Nat) (s : State),
      let m := s.sense.dim
      let steady := m.state = .steadyLow ∨ m.state = .steadyHigh
      s.released = true ∧ s.dpt.ramp = some due ∧ steady) :=
  ⟨⟨{ base with sense := { base.sense with dim := { base.sense.dim with high := false } }, dpt := { Dimming.reset with applied := 0 } }, by decide +kernel⟩,
   ⟨100, { base with sense := { base.sense with dim := { base.sense.dim with high := false, start := some 100 } }, dpt := { Dimming.reset with applied := 0 } }, by decide +kernel⟩,
   ⟨{ base with sense := { base.sense with dim := { base.sense.dim with state := .steadyLow } }, dpt := { Dimming.reset with applied := 0 } }, by decide +kernel⟩,
   ⟨{ base with sense := { base.sense with dim := { base.sense.dim with high := true } }, dpt := { Dimming.reset with applied := 0 } }, by decide +kernel⟩,
   ⟨{ base with sense := { base.sense with dim := { base.sense.dim with high := true, state := .steadyHigh } }, dpt := { Dimming.reset with applied := 0 } }, by decide +kernel⟩,
   ⟨{ base with sense := { base.sense with dim := { base.sense.dim with high := true } }, dpt := { Dimming.reset with applied := 0 } }, by decide +kernel⟩,
   ⟨2000, { base with sense := { base.sense with dim := { base.sense.dim with high := true } }, dpt := { Dimming.reset with outHigh := true, highEnd := some 2000 } }, by decide +kernel⟩,
   ⟨2000, { base with sense := { base.sense with dim := { base.sense.dim with high := true } }, dpt := { Dimming.reset with ramp := some 2000 } }, by decide +kernel⟩,
   ⟨2000, { base with sense := { base.sense with dim := { base.sense.dim with state := .steadyHigh } }, dpt := { Dimming.reset with ramp := some 2000 } }, by decide +kernel⟩⟩

theorem test_RelayedTransactions_witness :
    (∃ (cls : FlashClass) (opcode : Byte) (s : State),
      let c := s.plan.classOf opcode
      let passes := c.cls = cls ∧ cls.buffered = false ∧ ¬ (cls = .statusRead ∧ s.flb.failReport ≠ none)
      s.released = true ∧ (s.flb.xfer = none ∨ s.flb.xfer = some (.selected true)) ∧ s.flb.mode = .relay ∧
        s.flb.tenure = none ∧ passes) ∧
    (∃ (cls : FlashClass) (opcode : Byte) (s : State),
      let c := s.plan.classOf opcode
      let passes := c.cls = cls ∧ cls.buffered = false ∧ ¬ (cls = .statusRead ∧ s.flb.failReport ≠ none)
      let fresh := s.flb.xfer = none
      s.released = true ∧ (s.flb.xfer = none ∨ s.flb.xfer = some (.selected true)) ∧ s.flb.mode = .relay ∧
        s.flb.tenure = none ∧ fresh ∧ passes) ∧
    (∃ (opcode : Byte) (bit : Fin 8) (s : State),
      let c := s.plan.classOf opcode
      s.released = true ∧ (s.flb.xfer = none ∨ s.flb.xfer = some (.selected true)) ∧ s.flb.mode = .relay ∧
        s.flb.tenure = none ∧ c.cls = .statusRead ∧ s.flb.failReport = some bit) ∧
    (∃ (opcode : Byte) (bit : Fin 8) (s : State),
      let c := s.plan.classOf opcode
      let fresh := s.flb.xfer = none
      s.released = true ∧ (s.flb.xfer = none ∨ s.flb.xfer = some (.selected true)) ∧ s.flb.mode = .relay ∧
        s.flb.tenure = none ∧ c.cls = .statusRead ∧ s.flb.failReport = some bit ∧ fresh) ∧
    (∃ (cls : FlashClass) (opcode : Byte) (s : State),
      let c := s.plan.classOf opcode
      s.released = true ∧ (s.flb.xfer = none ∨ s.flb.xfer = some (.selected true)) ∧ s.flb.mode = .relay ∧
        s.flb.tenure = none ∧ c.cls ≠ cls) ∧
    (∃ (s : State),
      let fresh := s.flb.xfer = none
      s.released = true ∧ (s.flb.xfer = none ∨ s.flb.xfer = some (.selected true)) ∧ s.flb.mode = .relay ∧
        s.flb.tenure = none ∧ fresh) ∧
    (∃ (s : State),
      let fresh := s.flb.xfer = none
      s.released = true ∧ (s.flb.xfer = none ∨ s.flb.xfer = some (.selected true)) ∧ s.flb.mode = .relay ∧
        s.flb.tenure = none ∧ fresh) ∧
    (∃ (s : State),
      let fresh := s.flb.xfer = none
      s.released = true ∧ (s.flb.xfer = none ∨ s.flb.xfer = some (.selected true)) ∧ s.flb.mode = .relay ∧
        s.flb.tenure = none ∧ ¬ fresh) :=
  ⟨⟨.read, 0x6B, base.modFlb fun f => { f with failReport := some 3 }, by decide +kernel⟩,
   ⟨.otherPass, 0x77, base, by decide +kernel⟩,
   ⟨0x05, 3, base.modFlb fun f => { f with failReport := some 3 }, by decide +kernel⟩,
   ⟨0x05, 3, base.modFlb fun f => { f with failReport := some 3 }, by decide +kernel⟩,
   ⟨.read, 0x02, base, by decide +kernel⟩,
   ⟨base, by decide +kernel⟩,
   ⟨base, by decide +kernel⟩,
   ⟨base.modFlb fun f => { f with xfer := some (.selected true) }, by decide +kernel⟩⟩

theorem test_TransactionsUnderATenure_witness :
    (∃ (cls : FlashClass) (opcode : Byte) (ten : Tenure) (passed : Bool) (s : State),
      let c := s.plan.classOf opcode
      let under := s.flb.mode = .tenure ∧ s.flb.tenure = some ten ∧ s.mainActive = false ∧ c.cls = cls
      s.released = true ∧ (s.flb.xfer = none ∨ s.flb.xfer = some (.selected passed)) ∧ under ∧ cls = .statusRead) ∧
    (∃ (cls : FlashClass) (opcode : Byte) (ten : Tenure) (passed : Bool) (s : State),
      let c := s.plan.classOf opcode
      let under := s.flb.mode = .tenure ∧ s.flb.tenure = some ten ∧ s.mainActive = false ∧ c.cls = cls
      s.released = true ∧ (s.flb.xfer = none ∨ s.flb.xfer = some (.selected passed)) ∧ under ∧ cls ≠ .statusRead) ∧
    (∃ (passed : Bool) (s : State),
      let closed := s.flb.mode = .relay ∧ s.flb.xfer = some (.selected false)
      s.released = true ∧ (s.flb.xfer = none ∨ s.flb.xfer = some (.selected passed)) ∧ (s.flb.mode = .ignore ∨
        (s.flb.mode = .tenure ∧ s.mainActive = true) ∨ closed)) ∧
    (∃ (cls : FlashClass) (opcode : Byte) (ten : Tenure) (passed : Bool) (s : State),
      let c := s.plan.classOf opcode
      let under := s.flb.mode = .tenure ∧ s.flb.tenure = some ten ∧ s.mainActive = false ∧ c.cls = cls
      s.released = true ∧ (s.flb.xfer = none ∨ s.flb.xfer = some (.selected passed)) ∧ under) ∧
    (∃ (passed : Bool) (s : State),
      let off := s.flb.mode = .ignore ∨ s.flb.mode = .tenure
      s.released = true ∧ (s.flb.xfer = none ∨ s.flb.xfer = some (.selected passed)) ∧ off ∧ s.flb.xfer = none) ∧
    (∃ (passed : Bool) (s : State),
      let off := s.flb.mode = .ignore ∨ s.flb.mode = .tenure
      s.released = true ∧ (s.flb.xfer = none ∨ s.flb.xfer = some (.selected passed)) ∧ off ∧ s.flb.xfer = none) ∧
    (∃ (passed : Bool) (s : State),
      let closed := s.flb.mode = .relay ∧ s.flb.xfer = some (.selected false)
      s.released = true ∧ (s.flb.xfer = none ∨ s.flb.xfer = some (.selected passed)) ∧ closed) ∧
    (∃ (cls : FlashClass) (opcode : Byte) (ten : Tenure) (passed : Bool) (s : State),
      let c := s.plan.classOf opcode
      let under := s.flb.mode = .tenure ∧ s.flb.tenure = some ten ∧ s.mainActive = false ∧ c.cls = cls
      s.released = true ∧ (s.flb.xfer = none ∨ s.flb.xfer = some (.selected passed)) ∧ under ∧ cls = .statusRead ∧
        c.dataLanes ∈ [1, 2, 4]) ∧
    (∃ (cls : FlashClass) (opcode : Byte) (ten : Tenure) (passed : Bool) (s : State),
      let c := s.plan.classOf opcode
      let under := s.flb.mode = .tenure ∧ s.flb.tenure = some ten ∧ s.mainActive = false ∧ c.cls = cls
      s.released = true ∧ (s.flb.xfer = none ∨ s.flb.xfer = some (.selected passed)) ∧ under ∧ cls = .read) :=
  ⟨⟨.statusRead, 0x05, ⟨.internal, none, .issuing, 0, false⟩, true, base.modFlb fun f => { f with mode := .tenure, tenure := some ⟨.internal, none, .issuing, 0, false⟩ }, by decide +kernel⟩,
   ⟨.read, 0x03, ⟨.internal, none, .issuing, 0, false⟩, true, base.modFlb fun f => { f with mode := .tenure, tenure := some ⟨.internal, none, .issuing, 0, false⟩ }, by decide +kernel⟩,
   ⟨true, base.modFlb fun f => { f with mode := .ignore }, by decide +kernel⟩,
   ⟨.program, 0x02, ⟨.internal, none, .issuing, 0, false⟩, true, base.modFlb fun f => { f with mode := .tenure, tenure := some ⟨.internal, none, .issuing, 0, false⟩ }, by decide +kernel⟩,
   ⟨false, base.modFlb fun f => { f with mode := .tenure, tenure := some ⟨.internal, none, .issuing, 0, false⟩ }, by decide +kernel⟩,
   ⟨false, base.modFlb fun f => { f with mode := .ignore }, by decide +kernel⟩,
   ⟨false, base.modFlb fun f => { f with xfer := some (.selected false) }, by decide +kernel⟩,
   ⟨.statusRead, 0x05, ⟨.internal, none, .issuing, 0, false⟩, false, base.modFlb fun f => { f with mode := .tenure, tenure := some ⟨.internal, none, .issuing, 0, false⟩ }, by decide +kernel⟩,
   ⟨.read, 0x03, ⟨.internal, none, .issuing, 0, false⟩, false, base.modFlb fun f => { f with mode := .tenure, tenure := some ⟨.internal, none, .issuing, 0, false⟩ }, by decide +kernel⟩⟩

theorem test_BufferedCommandTakesItsFate_witness :
    (∃ (cls : FlashClass) (opcode : Byte) (s : State),
      s.released = true ∧ cls.buffered = true ∧ (s.plan.classOf opcode).cls = cls ∧ s.flb.mode = .relay ∧
        s.flb.tenure = none ∧ s.adu.parked = none ∧ (s.flb.xfer = none ∨ s.flb.xfer = some (.selected true))) ∧
    (∃ (cls : FlashClass) (opcode : Byte) (bytes : List Byte) (begun : Word32) (s : State),
      let c := s.plan.classOf opcode
      let received := s.flb.xfer = some (.intake opcode cls begun)
      let dropped := bytes.length < c.addrBytes ∨ (cls = .program ∧ bytes.length = c.addrBytes)
      s.released = true ∧ cls.buffered = true ∧ (s.plan.classOf opcode).cls = cls ∧ s.flb.mode = .relay ∧
        s.flb.tenure = none ∧ s.adu.parked = none ∧ received ∧ dropped) ∧
    (∃ (cls : FlashClass) (op : OpClass) (opcode : Byte) (bytes : List Byte) (begun : Word32) (s : State),
      let c := s.plan.classOf opcode
      let address := beNat (bytes.take c.addrBytes)
      let range := s.plan.affectedRange cls address
      let policy := s.effectivePolicy cls range
      let fate := decide153 cls policy.1 s.boc.state s.eng.quiesceHold (covered s.adu.latest cls)
      let received := s.flb.xfer = some (.intake opcode cls begun)
      let dropped := bytes.length < c.addrBytes ∨ (cls = .program ∧ bytes.length = c.addrBytes)
      s.released = true ∧ cls.buffered = true ∧ (s.plan.classOf opcode).cls = cls ∧ s.flb.mode = .relay ∧
        s.flb.tenure = none ∧ s.adu.parked = none ∧ received ∧ ¬ dropped ∧ fate = .admitted ∧ cls.op = some op) ∧
    (∃ (cls : FlashClass) (opcode : Byte) (bytes : List Byte) (begun : Word32) (s : State),
      let c := s.plan.classOf opcode
      let address := beNat (bytes.take c.addrBytes)
      let range := s.plan.affectedRange cls address
      let policy := s.effectivePolicy cls range
      let fate := decide153 cls policy.1 s.boc.state s.eng.quiesceHold (covered s.adu.latest cls)
      let received := s.flb.xfer = some (.intake opcode cls begun)
      let dropped := bytes.length < c.addrBytes ∨ (cls = .program ∧ bytes.length = c.addrBytes)
      s.released = true ∧ cls.buffered = true ∧ (s.plan.classOf opcode).cls = cls ∧ s.flb.mode = .relay ∧
        s.flb.tenure = none ∧ s.adu.parked = none ∧ received ∧ ¬ dropped ∧ fate = .park) ∧
    (∃ (cls : FlashClass) (opcode : Byte) (bytes : List Byte) (begun : Word32) (reason : RefusalReason) (s : State),
      let c := s.plan.classOf opcode
      let address := beNat (bytes.take c.addrBytes)
      let range := s.plan.affectedRange cls address
      let policy := s.effectivePolicy cls range
      let fate := decide153 cls policy.1 s.boc.state s.eng.quiesceHold (covered s.adu.latest cls)
      let received := s.flb.xfer = some (.intake opcode cls begun)
      let dropped := bytes.length < c.addrBytes ∨ (cls = .program ∧ bytes.length = c.addrBytes)
      s.released = true ∧ cls.buffered = true ∧ (s.plan.classOf opcode).cls = cls ∧ s.flb.mode = .relay ∧
        s.flb.tenure = none ∧ s.adu.parked = none ∧ received ∧ ¬ dropped ∧ fate = .refuse reason) :=
  ⟨⟨.program, 0x02, base, by decide +kernel⟩,
   ⟨.program, 0x02, [0, 1, 0], 7, base.modFlb fun f => { f with xfer := some (.intake 0x02 .program 7) }, by decide +kernel⟩,
   ⟨.program, .program, 0x02, [0, 1, 0, 9], 7, base.modFlb fun f => { f with xfer := some (.intake 0x02 .program 7) }, by decide +kernel⟩,
   ⟨.eraseSector, 0x20, [0, 1, 0], 7, (base.modFlb fun f => { f with xfer := some (.intake 0x20 .eraseSector 7) }).modBoc fun b => { b with state := .dip }, by decide +kernel⟩,
   ⟨.otherBlock, 0x77, [], 7, .blocked, { (base.modFlb fun f => { f with xfer := some (.intake 0x77 .otherBlock 7) }) with plan := { planT with unknownClass := .otherBlock } }, by decide +kernel⟩⟩

theorem test_ParkedCommandIsLetGoOrRefused_witness :
    (∃ (b : Budget) (s : State),
      let offered := s.sense.aduOffer = true ∧ s.hbu = some b
      offered ∧ s.adu.parked = none) ∧
    (∃ (b : Budget) (p : Parked) (op : OpClass) (ten : Tenure) (s : State),
      let c := p.command
      let offered := s.sense.aduOffer = true ∧ s.hbu = some b
      let parked := p.command.cls.op = some op ∧ s.adu.parked = some p ∧ s.flb.tenure = some ten
      let lets := (s.boc.state = .dip ∨ s.boc.state = .recover) ∧ c.policy = some .guarded ∧ (b.aCost.at op : Int) ≤ b.reserve
      parked ∧ offered ∧ lets) ∧
    (∃ (b : Budget) (p : Parked) (op : OpClass) (ten : Tenure) (s : State),
      let c := p.command
      let offered := s.sense.aduOffer = true ∧ s.hbu = some b
      let parked := p.command.cls.op = some op ∧ s.adu.parked = some p ∧ s.flb.tenure = some ten
      let lets := (s.boc.state = .dip ∨ s.boc.state = .recover) ∧ c.policy = some .guarded ∧ (b.aCost.at op : Int) ≤ b.reserve
      parked ∧ offered ∧ ¬ lets) ∧
    (∃ (p : Parked) (op : OpClass) (ten : Tenure) (due : Nat) (s : State),
      let parked := p.command.cls.op = some op ∧ s.adu.parked = some p ∧ s.flb.tenure = some ten
      parked ∧ s.adu.hold = some due) :=
  ⟨⟨(budget 7), { base with hbu := some (budget 7), sense := { base.sense with aduOffer := true } }, by decide +kernel⟩,
   ⟨(budget 7), ⟨parkedCommand, 5⟩, .program, ⟨.requested, none, .parked, 0, false⟩, { base with hbu := some (budget 7), sense := { base.sense with aduOffer := true }, boc := { base.boc with state := .dip }, adu := ⟨some ⟨parkedCommand, 5⟩, none, none⟩, flb := { base.flb with mode := .tenure, tenure := some ⟨.requested, none, .parked, 0, false⟩ } }, by decide +kernel⟩,
   ⟨(budget 6), ⟨parkedCommand, 5⟩, .program, ⟨.requested, none, .parked, 0, false⟩, { base with hbu := some (budget 6), sense := { base.sense with aduOffer := true }, boc := { base.boc with state := .dip }, adu := ⟨some ⟨parkedCommand, 5⟩, none, none⟩, flb := { base.flb with mode := .tenure, tenure := some ⟨.requested, none, .parked, 0, false⟩ } }, by decide +kernel⟩,
   ⟨⟨parkedCommand, 5⟩, .program, ⟨.requested, none, .parked, 0, false⟩, 2000, { base with hbu := some (budget 6), sense := { base.sense with aduOffer := true }, boc := { base.boc with state := .dip }, adu := ⟨some ⟨parkedCommand, 5⟩, some 2000, none⟩, flb := { base.flb with mode := .tenure, tenure := some ⟨.requested, none, .parked, 0, false⟩ } }, by decide +kernel⟩⟩

theorem test_DecisionTable_witness :
    (∃ (cls : FlashClass),
      cls = .otherBlock) ∧
    (∃ (cls : FlashClass) (p : Policy),
      cls ≠ .otherBlock ∧ p = .locked) ∧
    (∃ (cls : FlashClass) (p : Policy),
      cls ≠ .otherBlock ∧ p = .reserved) ∧
    (∃ (cls : FlashClass) (p : Policy) (boc : BocState),
      let open_ := cls ≠ .otherBlock ∧ p ≠ .locked ∧ p ≠ .reserved
      open_ ∧ (boc = .init ∨ boc.committed = true)) ∧
    (∃ (cls : FlashClass) (p : Policy) (boc : BocState) (quiesce : Bool),
      let open_ := cls ≠ .otherBlock ∧ p ≠ .locked ∧ p ≠ .reserved
      let riding := boc = .dip ∨ boc = .recover
      open_ ∧ (boc = .normal ∨ riding) ∧ quiesce = true) ∧
    (∃ (cls : FlashClass) (p : Policy) (boc : BocState) (quiesce : Bool),
      let open_ := cls ≠ .otherBlock ∧ p ≠ .locked ∧ p ≠ .reserved
      open_ ∧ boc = .normal ∧ quiesce = false) ∧
    (∃ (cls : FlashClass) (p : Policy) (boc : BocState) (quiesce : Bool) (cover : Bool),
      let open_ := cls ≠ .otherBlock ∧ p ≠ .locked ∧ p ≠ .reserved
      let riding := boc = .dip ∨ boc = .recover
      open_ ∧ riding ∧ quiesce = false ∧ (p = .free ∨ (p = .guarded ∧ cover = true))) ∧
    (∃ (cls : FlashClass) (p : Policy) (boc : BocState) (quiesce : Bool) (cover : Bool),
      let open_ := cls ≠ .otherBlock ∧ p ≠ .locked ∧ p ≠ .reserved
      let riding := boc = .dip ∨ boc = .recover
      open_ ∧ riding ∧ quiesce = false ∧ (p = .deferred ∨ (p = .guarded ∧ cover = false))) :=
  ⟨⟨.otherBlock, by decide +kernel⟩,
   ⟨.program, .locked, by decide +kernel⟩,
   ⟨.program, .reserved, by decide +kernel⟩,
   ⟨.program, .free, .dark, by decide +kernel⟩,
   ⟨.program, .free, .recover, true, by decide +kernel⟩,
   ⟨.program, .deferred, .normal, false, by decide +kernel⟩,
   ⟨.program, .guarded, .dip, false, true, by decide +kernel⟩,
   ⟨.program, .guarded, .recover, false, false, by decide +kernel⟩⟩

theorem test_MostRestrictiveRank_witness :
    (∃ (cls : FlashClass) (start : Nat) (len : Nat) (q : Policy) (src : Source) (s : State),
      (cls = .program ∨ cls = .eraseSector ∨ cls = .eraseBlock ∨ cls = .eraseDevice) ∧ s.effectivePolicy cls
        (.span start len) = (some q, src)) ∧
    (∃ (cls : FlashClass) (q : Policy) (src : Source) (s : State),
      (cls = .program ∨ cls = .eraseSector ∨ cls = .eraseBlock ∨ cls = .eraseDevice) ∧ s.effectivePolicy cls
        .device = (some q, src)) :=
  ⟨⟨.program, 0xFC000, 256, .guarded, .planRegion, base, by decide +kernel⟩,
   ⟨.eraseDevice, .guarded, .planRegion, base, by decide +kernel⟩⟩

theorem test_PolicyAndSource_witness :
    (∃ (cls : FlashClass) (len : Nat),
      let ranged := cls = .program ∨ cls = .eraseSector ∨ cls = .eraseBlock
      0 < len ∧ ranged) ∧
    (∃ (cls : FlashClass) (len : Nat),
      0 < len ∧ cls = .eraseDevice) ∧
    (∃ (cls : FlashClass) (len : Nat),
      0 < len ∧ cls = .regWrite) ∧
    (∃ (cls : FlashClass) (len : Nat),
      0 < len ∧ cls = .otherBlock) ∧
    (∃ (len : Nat),
      0 < len) ∧
    (∃ (len : Nat),
      0 < len) :=
  ⟨⟨.program, 256, by decide +kernel⟩,
   ⟨.eraseDevice, 256, by decide +kernel⟩,
   ⟨.regWrite, 256, by decide +kernel⟩,
   ⟨.otherBlock, 256, by decide +kernel⟩,
   ⟨256, by decide +kernel⟩,
   ⟨256, by decide +kernel⟩⟩

theorem test_BridgeRunsItsOperation_witness :
    (∃ (i : Issue) (s : State),
      s.flb.issue = some i) ∧
    (∃ (f : InFlight) (due : Nat) (s : State),
      s.flb.inflight = some f ∧ s.flb.poll = .idle ∧ s.flb.nextPoll = some due) ∧
    (∃ (f : InFlight) (s : State),
      s.flb.inflight = some f ∧ f.overrun = false) ∧
    (∃ (f : InFlight) (s : State),
      s.flb.inflight = some f ∧ f.overrun = true) ∧
    (∃ (ten : Tenure) (bit : Fin 8) (s : State),
      let refusing := s.flb.tenure = some ten ∧ ten.phase = .refusing
      refusing ∧ s.flb.reportless = false ∧ s.plan.failBit = bit.val ∧ s.mainActive = false) ∧
    (∃ (ten : Tenure) (s : State),
      let refusing := s.flb.tenure = some ten ∧ ten.phase = .refusing
      refusing ∧ (s.flb.reportless = true ∨ s.plan.failBit = 8 ∨ s.mainActive = true)) :=
  ⟨⟨issueT, { base with flb := { base.flb with issue := some issueT } }, by decide +kernel⟩,
   ⟨flight, 2000, { base with flb := { base.flb with inflight := some flight, nextPoll := some 2000 } }, by decide +kernel⟩,
   ⟨flight, { base with flb := { base.flb with inflight := some flight } }, by decide +kernel⟩,
   ⟨{ flight with overrun := true }, { base with flb := { base.flb with inflight := some { flight with overrun := true } } }, by decide +kernel⟩,
   ⟨⟨.requested, none, .refusing, 0, false⟩, 7, { base with flb := { base.flb with tenure := some ⟨.requested, none, .refusing, 0, false⟩ }, plan := { planT with failBit := 7 } }, by decide +kernel⟩,
   ⟨⟨.requested, none, .refusing, 0, false⟩, { base with flb := { base.flb with reportless := true, tenure := some ⟨.requested, none, .refusing, 0, false⟩ }, plan := { planT with failBit := 7 } }, by decide +kernel⟩⟩

theorem test_OperationEnds_witness :
    (∃ (s : State),
      s.flb.poll = .stale) ∧
    (∃ (s : State),
      s.flb.poll = .idle) ∧
    (∃ (status : Byte) (f : InFlight) (s : State),
      let flying := s.flb.inflight = some f
      let busy := status.getLsbD 0 = true
      flying ∧ s.flb.poll = .live ∧ busy) ∧
    (∃ (status : Byte) (f : InFlight) (ten : Tenure) (j : Journal) (programs : Nat) (eraseToo : Bool) (quiet : Bool) (s : State),
      let flying := s.flb.inflight = some f
      let busy := status.getLsbD 0 = true
      let ready := flying ∧ s.flb.poll = .live ∧ ¬ busy
      let requested := s.flb.tenure = some ten ∧ ten.owner = .requested
      let working (k : WorkKind) := s.jnu.work = some ⟨k, quiet⟩
      let left : Journal := { s.jnu with queue := s.jnu.queue.tail, work := none }
      let appendAfter := ready ∧ requested ∧
        ((f.origin = .requested ∧ j = s.jnu ∧ programs = s.plan.piggybackLimit ∧ eraseToo = f.op.isErase) ∨
          (f.origin = .internal ∧ programs = ten.programsLeft ∧ eraseToo = ten.eraseLeft ∧
            ((working .record ∧ j = left) ∨ (working .eraseAhead ∧ j = { s.jnu with nextErased := true, work := none }))))
      appendAfter ∧ (s.boc.state ≠ .normal ∨ s.eng.quietHold = true ∨ j.work ≠ none)) ∧
    (∃ (status : Byte) (f : InFlight) (ten : Tenure) (r : Record) (ring : Ring) (j : Journal) (programs : Nat) (eraseToo : Bool) (quiet : Bool) (s : State),
      let flying := s.flb.inflight = some f
      let busy := status.getLsbD 0 = true
      let ready := flying ∧ s.flb.poll = .live ∧ ¬ busy
      let requested := s.flb.tenure = some ten ∧ ten.owner = .requested
      let working (k : WorkKind) := s.jnu.work = some ⟨k, quiet⟩
      let left : Journal := { s.jnu with queue := s.jnu.queue.tail, work := none }
      let appendAfter := ready ∧ requested ∧
        ((f.origin = .requested ∧ j = s.jnu ∧ programs = s.plan.piggybackLimit ∧ eraseToo = f.op.isErase) ∨
          (f.origin = .internal ∧ programs = ten.programsLeft ∧ eraseToo = ten.eraseLeft ∧
            ((working .record ∧ j = left) ∨ (working .eraseAhead ∧ j = { s.jnu with nextErased := true, work := none }))))
      let mayAppend := appendAfter ∧ s.boc.state = .normal ∧ s.eng.quietHold = false ∧ j.work = none
      let heads := j.queue.head? = some r ∧ r.body.slots = 1 ∧ 1 ≤ programs ∧ j.ring = some ring
      mayAppend ∧ heads ∧ 1 ≤ ring.room) ∧
    (∃ (status : Byte) (f : InFlight) (ten : Tenure) (r : Record) (ring : Ring) (j : Journal) (programs : Nat) (eraseToo : Bool) (quiet : Bool) (s : State),
      let flying := s.flb.inflight = some f
      let busy := status.getLsbD 0 = true
      let ready := flying ∧ s.flb.poll = .live ∧ ¬ busy
      let requested := s.flb.tenure = some ten ∧ ten.owner = .requested
      let working (k : WorkKind) := s.jnu.work = some ⟨k, quiet⟩
      let left : Journal := { s.jnu with queue := s.jnu.queue.tail, work := none }
      let appendAfter := ready ∧ requested ∧
        ((f.origin = .requested ∧ j = s.jnu ∧ programs = s.plan.piggybackLimit ∧ eraseToo = f.op.isErase) ∨
          (f.origin = .internal ∧ programs = ten.programsLeft ∧ eraseToo = ten.eraseLeft ∧
            ((working .record ∧ j = left) ∨ (working .eraseAhead ∧ j = { s.jnu with nextErased := true, work := none }))))
      let mayAppend := appendAfter ∧ s.boc.state = .normal ∧ s.eng.quietHold = false ∧ j.work = none
      let heads := j.queue.head? = some r ∧ r.body.slots = 1 ∧ 1 ≤ programs ∧ j.ring = some ring
      mayAppend ∧ heads ∧ ring.room = 0 ∧ j.nextErased = true) ∧
    (∃ (status : Byte) (f : InFlight) (ten : Tenure) (ring : Ring) (j : Journal) (programs : Nat) (eraseToo : Bool) (quiet : Bool) (s : State),
      let flying := s.flb.inflight = some f
      let busy := status.getLsbD 0 = true
      let ready := flying ∧ s.flb.poll = .live ∧ ¬ busy
      let requested := s.flb.tenure = some ten ∧ ten.owner = .requested
      let working (k : WorkKind) := s.jnu.work = some ⟨k, quiet⟩
      let left : Journal := { s.jnu with queue := s.jnu.queue.tail, work := none }
      let appendAfter := ready ∧ requested ∧
        ((f.origin = .requested ∧ j = s.jnu ∧ programs = s.plan.piggybackLimit ∧ eraseToo = f.op.isErase) ∨
          (f.origin = .internal ∧ programs = ten.programsLeft ∧ eraseToo = ten.eraseLeft ∧
            ((working .record ∧ j = left) ∨ (working .eraseAhead ∧ j = { s.jnu with nextErased := true, work := none }))))
      let mayAppend := appendAfter ∧ s.boc.state = .normal ∧ s.eng.quietHold = false ∧ j.work = none
      let noRecord := j.queue = [] ∨ programs = 0 ∨ (ring.room = 0 ∧ j.nextErased = false)
      mayAppend ∧ j.ring = some ring ∧ noRecord ∧ eraseToo = true ∧ j.nextErased = false ∧ s.plan.sectorCount ≠ 0) ∧
    (∃ (status : Byte) (f : InFlight) (ten : Tenure) (ring : Ring) (j : Journal) (programs : Nat) (eraseToo : Bool) (quiet : Bool) (s : State),
      let flying := s.flb.inflight = some f
      let busy := status.getLsbD 0 = true
      let ready := flying ∧ s.flb.poll = .live ∧ ¬ busy
      let requested := s.flb.tenure = some ten ∧ ten.owner = .requested
      let working (k : WorkKind) := s.jnu.work = some ⟨k, quiet⟩
      let left : Journal := { s.jnu with queue := s.jnu.queue.tail, work := none }
      let appendAfter := ready ∧ requested ∧
        ((f.origin = .requested ∧ j = s.jnu ∧ programs = s.plan.piggybackLimit ∧ eraseToo = f.op.isErase) ∨
          (f.origin = .internal ∧ programs = ten.programsLeft ∧ eraseToo = ten.eraseLeft ∧
            ((working .record ∧ j = left) ∨ (working .eraseAhead ∧ j = { s.jnu with nextErased := true, work := none }))))
      let mayAppend := appendAfter ∧ s.boc.state = .normal ∧ s.eng.quietHold = false ∧ j.work = none
      let noRecord := j.queue = [] ∨ programs = 0 ∨ (ring.room = 0 ∧ j.nextErased = false)
      mayAppend ∧ (j.ring = none ∨ (j.ring = some ring ∧ noRecord ∧ (eraseToo = false ∨ j.nextErased = true)))) ∧
    (∃ (status : Byte) (f : InFlight) (quiet : Bool) (s : State),
      let flying := s.flb.inflight = some f
      let busy := status.getLsbD 0 = true
      let ready := flying ∧ s.flb.poll = .live ∧ ¬ busy
      let working (k : WorkKind) := s.jnu.work = some ⟨k, quiet⟩
      let internal := f.origin = .internal ∧ ∀ t, s.flb.tenure = some t → t.owner = .internal
      internal ∧ ready ∧ working .record) ∧
    (∃ (status : Byte) (f : InFlight) (quiet : Bool) (s : State),
      let flying := s.flb.inflight = some f
      let busy := status.getLsbD 0 = true
      let ready := flying ∧ s.flb.poll = .live ∧ ¬ busy
      let working (k : WorkKind) := s.jnu.work = some ⟨k, quiet⟩
      let internal := f.origin = .internal ∧ ∀ t, s.flb.tenure = some t → t.owner = .internal
      internal ∧ ready ∧ working .eraseAhead) ∧
    (∃ (status : Byte) (f : InFlight) (i : Issue) (quiet : Bool) (s : State),
      let flying := s.flb.inflight = some f
      let busy := status.getLsbD 0 = true
      let ready := flying ∧ s.flb.poll = .live ∧ ¬ busy
      let working (k : WorkKind) := s.jnu.work = some ⟨k, quiet⟩
      let internal := f.origin = .internal ∧ ∀ t, s.flb.tenure = some t → t.owner = .internal
      internal ∧ ready ∧ working (.survival (some i))) ∧
    (∃ (status : Byte) (f : InFlight) (quiet : Bool) (s : State),
      let flying := s.flb.inflight = some f
      let busy := status.getLsbD 0 = true
      let ready := flying ∧ s.flb.poll = .live ∧ ¬ busy
      let working (k : WorkKind) := s.jnu.work = some ⟨k, quiet⟩
      let internal := f.origin = .internal ∧ ∀ t, s.flb.tenure = some t → t.owner = .internal
      internal ∧ ready ∧ working (.survival none)) ∧
    (∃ (status : Byte) (f : InFlight) (quiet : Bool) (s : State),
      let flying := s.flb.inflight = some f
      let busy := status.getLsbD 0 = true
      let ready := flying ∧ s.flb.poll = .live ∧ ¬ busy
      let working (k : WorkKind) := s.jnu.work = some ⟨k, quiet⟩
      let internal := f.origin = .internal ∧ ∀ t, s.flb.tenure = some t → t.owner = .internal
      internal ∧ ready ∧ working .pad) ∧
    (∃ (f : InFlight) (ten : Tenure) (bit : Fin 8) (s : State),
      let flying := s.flb.inflight = some f
      let requested := s.flb.tenure = some ten ∧ ten.owner = .requested
      flying ∧ f.origin = .requested ∧ requested ∧ s.plan.failBit = bit.val ∧ s.mainActive = false) ∧
    (∃ (f : InFlight) (ten : Tenure) (s : State),
      let flying := s.flb.inflight = some f
      let requested := s.flb.tenure = some ten ∧ ten.owner = .requested
      flying ∧ f.origin = .requested ∧ requested ∧ (s.plan.failBit = 8 ∨ s.mainActive = true)) ∧
    (∃ (f : InFlight) (quiet : Bool) (s : State),
      let flying := s.flb.inflight = some f
      let working (k : WorkKind) := s.jnu.work = some ⟨k, quiet⟩
      let toldOf := flying ∧ f.origin = .internal
      toldOf ∧ working .record) ∧
    (∃ (f : InFlight) (quiet : Bool) (s : State),
      let flying := s.flb.inflight = some f
      let working (k : WorkKind) := s.jnu.work = some ⟨k, quiet⟩
      let toldOf := flying ∧ f.origin = .internal
      toldOf ∧ working .eraseAhead) ∧
    (∃ (f : InFlight) (quiet : Bool) (s : State),
      let flying := s.flb.inflight = some f
      let working (k : WorkKind) := s.jnu.work = some ⟨k, quiet⟩
      let toldOf := flying ∧ f.origin = .internal
      toldOf ∧ working .pad) ∧
    (∃ (f : InFlight) (i : Issue) (quiet : Bool) (s : State),
      let flying := s.flb.inflight = some f
      let working (k : WorkKind) := s.jnu.work = some ⟨k, quiet⟩
      let toldOf := flying ∧ f.origin = .internal
      toldOf ∧ working (.survival (some i))) ∧
    (∃ (f : InFlight) (quiet : Bool) (s : State),
      let flying := s.flb.inflight = some f
      let working (k : WorkKind) := s.jnu.work = some ⟨k, quiet⟩
      let toldOf := flying ∧ f.origin = .internal
      toldOf ∧ working (.survival none)) :=
  ⟨⟨{ base with flb := { base.flb with inflight := some flight, tenure := some ⟨.requested, none, .operating, 0, false⟩, poll := .stale }, jnu := base.jnu }, by decide +kernel⟩,
   ⟨{ base with flb := { base.flb with inflight := some flight, tenure := some ⟨.requested, none, .operating, 0, false⟩, poll := .idle }, jnu := base.jnu }, by decide +kernel⟩,
   ⟨1, flight, { base with flb := { base.flb with inflight := some flight, tenure := some ⟨.requested, none, .operating, 0, false⟩, poll := .live }, jnu := base.jnu }, by decide +kernel⟩,
   ⟨0, flight, ⟨.requested, none, .operating, 0, false⟩, base.jnu, 7, false, true, { base with flb := { base.flb with inflight := some flight, tenure := some ⟨.requested, none, .operating, 0, false⟩, poll := .live }, jnu := base.jnu, boc := { base.boc with state := .dip }, plan := { planT with piggybackLimit := 7 } }, by decide +kernel⟩,
   ⟨0, flight, ⟨.requested, none, .operating, 0, false⟩, ⟨.pad, .normal, 0⟩, ⟨1, 0, 63, 1⟩, { base.jnu with queue := [⟨.pad, .normal, 0⟩], ring := some ⟨1, 0, 63, 1⟩, nextErased := false, work := none }, 1, false, true, { base with flb := { base.flb with inflight := some flight, tenure := some ⟨.requested, none, .operating, 0, false⟩, poll := .live }, jnu := { base.jnu with queue := [⟨.pad, .normal, 0⟩], ring := some ⟨1, 0, 63, 1⟩, nextErased := false, work := none }, plan := { planT with piggybackLimit := 1, sectorCount := 2 } }, by decide +kernel⟩,
   ⟨0, { flight with origin := .internal }, ⟨.requested, none, .operating, 1, true⟩, ⟨.pad, .normal, 0⟩, ⟨1, 0, 64, 0⟩, { base.jnu with queue := [⟨.pad, .normal, 0⟩], ring := some ⟨1, 0, 64, 0⟩, nextErased := true, work := none }, 1, true, true, { base with flb := { base.flb with inflight := some { flight with origin := .internal }, tenure := some ⟨.requested, none, .operating, 1, true⟩, poll := .live }, jnu := { base.jnu with queue := [⟨.pad, .normal, 0⟩, ⟨.pad, .normal, 0⟩], ring := some ⟨1, 0, 64, 0⟩, nextErased := true, work := some ⟨.record, true⟩ }, plan := { planT with piggybackLimit := 1, sectorCount := 2 } }, by decide +kernel⟩,
   ⟨0, { flight with origin := .internal }, ⟨.requested, none, .operating, 1, true⟩, ⟨1, 0, 64, 0⟩, { base.jnu with queue := [], ring := some ⟨1, 0, 64, 0⟩, nextErased := false, work := none }, 1, true, true, { base with flb := { base.flb with inflight := some { flight with origin := .internal }, tenure := some ⟨.requested, none, .operating, 1, true⟩, poll := .live }, jnu := { base.jnu with queue := [⟨.pad, .normal, 0⟩], ring := some ⟨1, 0, 64, 0⟩, nextErased := false, work := some ⟨.record, true⟩ }, plan := { planT with piggybackLimit := 1, sectorCount := 2 } }, by decide +kernel⟩,
   ⟨0, { flight with origin := .internal }, ⟨.requested, none, .operating, 1, true⟩, ⟨1, 0, 64, 0⟩, { base.jnu with queue := [], ring := some ⟨1, 0, 64, 0⟩, nextErased := true, work := none }, 1, true, true, { base with flb := { base.flb with inflight := some { flight with origin := .internal }, tenure := some ⟨.requested, none, .operating, 1, true⟩, poll := .live }, jnu := { base.jnu with queue := [], ring := some ⟨1, 0, 64, 0⟩, nextErased := false, work := some ⟨.eraseAhead, true⟩ }, plan := { planT with piggybackLimit := 1, sectorCount := 2 } }, by decide +kernel⟩,
   ⟨0, { flight with origin := .internal }, true, { base with flb := { base.flb with inflight := some { flight with origin := .internal }, tenure := none, poll := .live }, jnu := { base.jnu with work := some ⟨.record, true⟩ } }, by decide +kernel⟩,
   ⟨0, { flight with origin := .internal }, true, { base with flb := { base.flb with inflight := some { flight with origin := .internal }, tenure := none, poll := .live }, jnu := { base.jnu with work := some ⟨.eraseAhead, true⟩ } }, by decide +kernel⟩,
   ⟨0, { flight with origin := .internal }, issueT, true, { base with flb := { base.flb with inflight := some { flight with origin := .internal }, tenure := none, poll := .live }, jnu := { base.jnu with work := some ⟨.survival (some issueT), true⟩ } }, by decide +kernel⟩,
   ⟨0, { flight with origin := .internal }, true, { base with flb := { base.flb with inflight := some { flight with origin := .internal }, tenure := none, poll := .live }, jnu := { base.jnu with work := some ⟨.survival none, true⟩ } }, by decide +kernel⟩,
   ⟨0, { flight with origin := .internal }, true, { base with flb := { base.flb with inflight := some { flight with origin := .internal }, tenure := none, poll := .live }, jnu := { base.jnu with work := some ⟨.pad, true⟩ } }, by decide +kernel⟩,
   ⟨flight, ⟨.requested, none, .operating, 0, false⟩, 7, { base with flb := { base.flb with inflight := some flight, tenure := some ⟨.requested, none, .operating, 0, false⟩, poll := .live }, jnu := base.jnu, plan := { planT with failBit := 7 } }, by decide +kernel⟩,
   ⟨flight, ⟨.requested, none, .operating, 0, false⟩, { base with flb := { base.flb with inflight := some flight, tenure := some ⟨.requested, none, .operating, 0, false⟩, poll := .live }, jnu := base.jnu }, by decide +kernel⟩,
   ⟨{ flight with origin := .internal }, true, { base with flb := { base.flb with inflight := some { flight with origin := .internal }, tenure := none, poll := .live }, jnu := { base.jnu with work := some ⟨.record, true⟩ } }, by decide +kernel⟩,
   ⟨{ flight with origin := .internal }, true, { base with flb := { base.flb with inflight := some { flight with origin := .internal }, tenure := none, poll := .idle }, jnu := { base.jnu with work := some ⟨.eraseAhead, true⟩ } }, by decide +kernel⟩,
   ⟨{ flight with origin := .internal }, true, { base with flb := { base.flb with inflight := some { flight with origin := .internal }, tenure := none, poll := .live }, jnu := { base.jnu with work := some ⟨.pad, true⟩ } }, by decide +kernel⟩,
   ⟨{ flight with origin := .internal }, issueT, true, { base with flb := { base.flb with inflight := some { flight with origin := .internal }, tenure := none, poll := .live }, jnu := { base.jnu with work := some ⟨.survival (some issueT), true⟩ } }, by decide +kernel⟩,
   ⟨{ flight with origin := .internal }, true, { base with flb := { base.flb with inflight := some { flight with origin := .internal }, tenure := none, poll := .live }, jnu := { base.jnu with work := some ⟨.survival none, true⟩ } }, by decide +kernel⟩⟩

theorem test_OutputPinsFollowTheState_witness :
    (∃ (s : State),
      s.applied = false) ∧
    (∃ (s : State),
      s.applied = true) ∧
    (∃ (s : State),
      s.applied = true) ∧
    (∃ (s : State),
      s.applied = true) :=
  ⟨⟨State.reset, by decide +kernel⟩,
   ⟨base, by decide +kernel⟩,
   ⟨base, by decide +kernel⟩,
   ⟨base, by decide +kernel⟩⟩

theorem test_DLinkCarriesThePartsOwnTransactions_witness :
    (∃ (s : State),
      let loading (p : LoadPhase) := s.load.phase = some p
      loading .flashWait ∧ s.load.statusDue ≤ s.clock) ∧
    (∃ (s : State),
      let loading (p : LoadPhase) := s.load.phase = some p
      loading .read ∧ s.load.image = []) ∧
    (∃ (s : State),
      let loading (p : LoadPhase) := s.load.phase = some p
      loading .read ∧ s.load.image ≠ []) ∧
    (∃ (e : ClassEntry) (s : State),
      let loading (p : LoadPhase) := s.load.phase = some p
      loading .scan ∧ s.plan.firstEntry .read = some e) ∧
    (∃ (s : State),
      let loading (p : LoadPhase) := s.load.phase = some p
      s.load.phase = none ∨ loading .oscWait ∨ (loading .flashWait ∧ s.clock < s.load.statusDue)) ∧
    (∃ (cls : FlashClass) (e : ClassEntry) (i : Issue) (s : State),
      let sends := s.applied = true ∧ s.plan.firstEntry cls = some e
      sends ∧ cls = .writeEnable ∧ s.flb.issue = some i) ∧
    (∃ (cls : FlashClass) (e : ClassEntry) (s : State),
      let sends := s.applied = true ∧ s.plan.firstEntry cls = some e
      sends ∧ cls = .writeDisable ∧ s.flb.issue = none ∧ s.inPhase .refusing = true) ∧
    (∃ (cls : FlashClass) (e : ClassEntry) (s : State),
      let sends := s.applied = true ∧ s.plan.firstEntry cls = some e
      let still := s.applied = true ∧ s.flb.issue = none ∧ s.inPhase .refusing = false
      sends ∧ cls = .statusRead ∧ still ∧ s.flb.poll ≠ .idle) ∧
    (∃ (s : State),
      let still := s.applied = true ∧ s.flb.issue = none ∧ s.inPhase .refusing = false
      still ∧ s.flb.poll = .idle) ∧
    (∃ (clock : Nat),
      clock < 8) ∧
    (∃ (clock : Nat),
      clock < 4) ∧
    (∃ (clock : Nat),
      clock < 2) ∧
    (∃ (lanes : Nat),
      lanes ∈ [1, 2, 4]) :=
  ⟨⟨loading .flashWait, by decide +kernel⟩,
   ⟨loading .read, by decide +kernel⟩,
   ⟨{ loading .read with load := { (loading .read).load with image := header } }, by decide +kernel⟩,
   ⟨((planT.firstEntry .read).getD ⟨0, 0, none, 0, 1, 1⟩), { loading .scan with plan := planT }, by decide +kernel⟩,
   ⟨{ loading .flashWait with load := { (loading .flashWait).load with statusDue := 1 } }, by decide +kernel⟩,
   ⟨.writeEnable, ((planT.firstEntry .writeEnable).getD ⟨0, 0, none, 0, 1, 1⟩), issueT, base.modFlb fun f => { f with issue := some issueT }, by decide +kernel⟩,
   ⟨.writeDisable, ((planT.firstEntry .writeDisable).getD ⟨0, 0, none, 0, 1, 1⟩), base.modFlb fun f => { f with tenure := some ⟨.requested, none, .refusing, 0, false⟩ }, by decide +kernel⟩,
   ⟨.statusRead, ((planT.firstEntry .statusRead).getD ⟨0, 0, none, 0, 1, 1⟩), base.modFlb fun f => { f with poll := .live }, by decide +kernel⟩,
   ⟨base, by decide +kernel⟩,
   ⟨7, by decide +kernel⟩,
   ⟨3, by decide +kernel⟩,
   ⟨1, by decide +kernel⟩,
   ⟨4, by decide +kernel⟩⟩

theorem test_EngineChoosesItsWork_witness :
    (∃ (s : State),
      let e := s.eng
      s.applied = true ∧ s.eng.mode = .idle ∧ e.trip = some .rail) ∧
    (∃ (s : State),
      let e := s.eng
      s.applied = true ∧ s.eng.mode = .idle ∧ e.trip = some .boc) ∧
    (∃ (s : State),
      let e := s.eng
      s.applied = true ∧ s.eng.mode = .idle ∧ e.trip = none ∧ e.descent = true ∧ e.panel ≠ .down) ∧
    (∃ (s : State),
      let e := s.eng
      s.applied = true ∧ s.eng.mode = .idle ∧ e.trip = none ∧ e.descent = true ∧ e.panel = .down ∧ e.board ≠ .down) ∧
    (∃ (s : State),
      let e := s.eng
      s.applied = true ∧ s.eng.mode = .idle ∧ e.trip = none ∧ e.descent = true ∧ e.panel = .down ∧ e.board = .down) ∧
    (∃ (s : State),
      let e := s.eng
      let claimed := e.claimBoard = true ∨ e.claimPanel = true
      s.applied = true ∧ s.eng.mode = .idle ∧ e.trip = none ∧ e.descent = false ∧ claimed) ∧
    (∃ (s : State),
      let e := s.eng
      let panelWanted := s.sense.runReq = true ∧ s.sense.panelReq = true ∧ e.board = .up ∧ e.panelLock = false
      let claimed := e.claimBoard = true ∨ e.claimPanel = true
      let free := e.trip = none ∧ e.descent = false ∧ ¬ claimed
      s.applied = true ∧ s.eng.mode = .idle ∧ free ∧ e.panel ≠ .down ∧ ¬ panelWanted) ∧
    (∃ (s : State),
      let e := s.eng
      let boardWanted := s.sense.runReq = true ∧ e.boardLock = false
      let claimed := e.claimBoard = true ∨ e.claimPanel = true
      let free := e.trip = none ∧ e.descent = false ∧ ¬ claimed
      s.applied = true ∧ s.eng.mode = .idle ∧ free ∧ e.panel ≠ .down ∧ e.board ≠ .down ∧ ¬ boardWanted) ∧
    (∃ (s : State),
      let e := s.eng
      let boardWanted := s.sense.runReq = true ∧ e.boardLock = false
      let claimed := e.claimBoard = true ∨ e.claimPanel = true
      let free := e.trip = none ∧ e.descent = false ∧ ¬ claimed
      s.applied = true ∧ s.eng.mode = .idle ∧ free ∧ e.panel = .down ∧ e.board ≠ .down ∧ ¬ boardWanted) ∧
    (∃ (s : State),
      let e := s.eng
      let boardWanted := s.sense.runReq = true ∧ e.boardLock = false
      let panelWanted := s.sense.runReq = true ∧ s.sense.panelReq = true ∧ e.board = .up ∧ e.panelLock = false
      let claimed := e.claimBoard = true ∨ e.claimPanel = true
      let free := e.trip = none ∧ e.descent = false ∧ ¬ claimed
      let settled := free ∧ (e.panel ≠ .down → panelWanted) ∧ (e.board ≠ .down → boardWanted)
      let boardUp := settled ∧ s.boc.state = .normal ∧ e.board = .down ∧ boardWanted
      s.applied = true ∧ s.eng.mode = .idle ∧ boardUp ∧ s.mainActive = true) ∧
    (∃ (s : State),
      let e := s.eng
      let boardWanted := s.sense.runReq = true ∧ e.boardLock = false
      let panelWanted := s.sense.runReq = true ∧ s.sense.panelReq = true ∧ e.board = .up ∧ e.panelLock = false
      let claimed := e.claimBoard = true ∨ e.claimPanel = true
      let free := e.trip = none ∧ e.descent = false ∧ ¬ claimed
      let settled := free ∧ (e.panel ≠ .down → panelWanted) ∧ (e.board ≠ .down → boardWanted)
      let boardUp := settled ∧ s.boc.state = .normal ∧ e.board = .down ∧ boardWanted
      s.applied = true ∧ s.eng.mode = .idle ∧ boardUp ∧ s.mainActive = false ∧ s.internalWork = false) ∧
    (∃ (s : State),
      let e := s.eng
      let boardWanted := s.sense.runReq = true ∧ e.boardLock = false
      let panelWanted := s.sense.runReq = true ∧ s.sense.panelReq = true ∧ e.board = .up ∧ e.panelLock = false
      let claimed := e.claimBoard = true ∨ e.claimPanel = true
      let free := e.trip = none ∧ e.descent = false ∧ ¬ claimed
      let settled := free ∧ (e.panel ≠ .down → panelWanted) ∧ (e.board ≠ .down → boardWanted)
      let boardUp := settled ∧ s.boc.state = .normal ∧ e.board = .down ∧ boardWanted
      s.applied = true ∧ s.eng.mode = .idle ∧ boardUp ∧ s.mainActive = false ∧ s.internalWork = true) ∧
    (∃ (s : State),
      let e := s.eng
      let boardWanted := s.sense.runReq = true ∧ e.boardLock = false
      let panelWanted := s.sense.runReq = true ∧ s.sense.panelReq = true ∧ e.board = .up ∧ e.panelLock = false
      let claimed := e.claimBoard = true ∨ e.claimPanel = true
      let free := e.trip = none ∧ e.descent = false ∧ ¬ claimed
      let settled := free ∧ (e.panel ≠ .down → panelWanted) ∧ (e.board ≠ .down → boardWanted)
      s.applied = true ∧ s.eng.mode = .idle ∧ settled ∧ s.boc.state = .normal ∧ e.board ≠ .down ∧ e.panel = .down
        ∧ panelWanted) ∧
    (∃ (s : State),
      let e := s.eng
      let boardWanted := s.sense.runReq = true ∧ e.boardLock = false
      let panelWanted := s.sense.runReq = true ∧ s.sense.panelReq = true ∧ e.board = .up ∧ e.panelLock = false
      let claimed := e.claimBoard = true ∨ e.claimPanel = true
      let free := e.trip = none ∧ e.descent = false ∧ ¬ claimed
      let settled := free ∧ (e.panel ≠ .down → panelWanted) ∧ (e.board ≠ .down → boardWanted)
      s.applied = true ∧ s.eng.mode = .idle ∧ (settled ∧ (s.boc.state ≠ .normal ∨ ((e.board = .down → ¬
        boardWanted) ∧ (e.panel = .down → ¬ panelWanted))))) :=
  ⟨⟨engine fun e => { e with trip := some .rail }, by decide +kernel⟩,
   ⟨engine fun e => { e with trip := some .boc }, by decide +kernel⟩,
   ⟨engine fun e => { e with descent := true, panel := .up }, by decide +kernel⟩,
   ⟨engine fun e => { e with descent := true, board := .up }, by decide +kernel⟩,
   ⟨engine fun e => { e with descent := true }, by decide +kernel⟩,
   ⟨engine fun e => { e with claimBoard := true }, by decide +kernel⟩,
   ⟨engine fun e => { e with panel := .up }, by decide +kernel⟩,
   ⟨engine fun e => { e with panel := .up, board := .up }, by decide +kernel⟩,
   ⟨engine fun e => { e with board := .up }, by decide +kernel⟩,
   ⟨wanted fun e => { e with lines := Vector.replicate 6 true }, by decide +kernel⟩,
   ⟨wanted fun e => { e with index := 0 }, by decide +kernel⟩,
   ⟨{ wanted fun e => { e with index := 0 } with jnu := { base.jnu with work := some ⟨.record, true⟩ } }, by decide +kernel⟩,
   ⟨wanted fun e => { e with board := .up }, by decide +kernel⟩,
   ⟨base, by decide +kernel⟩⟩

theorem test_EngineEndsItsWaits_witness :
    (∃ (ctl : Fin 6) (active : Bool) (n : SlotName) (s : State),
      let working := s.jnu.work.any (fun w => w.whileQuiet) = true
      let kind (k : StepKind) := s.currentStep.map Step.kind = some k
      s.applied = true ∧ StepUnderWay s n .lineWait ∧ ¬ working ∧ kind (.line ctl active)) ∧
    (∃ (ctl : Fin 6) (ms : Nat) (n : SlotName) (s : State),
      let working := s.jnu.work.any (fun w => w.whileQuiet) = true
      let kind (k : StepKind) := s.currentStep.map Step.kind = some k
      s.applied = true ∧ StepUnderWay s n .lineWait ∧ ¬ working ∧ kind (.linePulse ctl ms)) ∧
    (∃ (s : State),
      let e := s.eng
      let working := s.jnu.work.any (fun w => w.whileQuiet) = true
      s.applied = true ∧ (e.mode = .running ∧ (e.step = .lineWait ∨ e.step = .beginWait) ∧ working)) ∧
    (∃ (s : State),
      let e := s.eng
      let working := s.jnu.work.any (fun w => w.whileQuiet) = true
      let beginning := e.mode = .running ∧ e.slot = some .boardUp ∧ e.step = .beginWait
      s.applied = true ∧ beginning ∧ ¬ working ∧ s.boc.state = .normal) ∧
    (∃ (s : State),
      let e := s.eng
      let working := s.jnu.work.any (fun w => w.whileQuiet) = true
      let beginning := e.mode = .running ∧ e.slot = some .boardUp ∧ e.step = .beginWait
      s.applied = true ∧ beginning ∧ ¬ working ∧ s.boc.state ≠ .normal) ∧
    (∃ (n : SlotName) (s : State),
      let free := s.flb.inflight = none ∧ s.adu.parked = none ∧ ∀ t, s.flb.tenure = some t → t.owner = .internal
      s.applied = true ∧ StepUnderWay s n .linkWait ∧ free) ∧
    (∃ (s : State),
      let e := s.eng
      let free := s.flb.inflight = none ∧ s.adu.parked = none ∧ ∀ t, s.flb.tenure = some t → t.owner = .internal
      s.applied = true ∧ e.mode = .running ∧ e.step = .linkWait ∧ ¬ free) ∧
    (∃ (s : State),
      let e := s.eng
      s.applied = true ∧ e.mode = .running ∧ e.step ≠ .lineWait ∧ e.step ≠ .beginWait ∧ e.step ≠ .linkWait) :=
  ⟨⟨1, false, .trip, underWay .trip .lineWait { base with plan := panelPlan (.line 1 false) }, by simp only [stepUnderWay_iff]; decide +kernel⟩,
   ⟨1, 5, .trip, underWay .trip .lineWait { base with plan := panelPlan (.linePulse 1 5) }, by simp only [stepUnderWay_iff]; decide +kernel⟩,
   ⟨{ (underWay .boardUp .beginWait base) with jnu := { base.jnu with work := some ⟨.record, true⟩ } }, by decide +kernel⟩,
   ⟨underWay .boardUp .beginWait base, by decide +kernel⟩,
   ⟨(underWay .boardUp .beginWait base).modBoc fun b => { b with state := .dip }, by decide +kernel⟩,
   ⟨.trip, underWay .trip .linkWait { base with plan := panelPlan (.flashQuiesce) }, by simp only [stepUnderWay_iff]; decide +kernel⟩,
   ⟨(underWay .trip .linkWait { base with plan := panelPlan (.flashQuiesce) }).modFlb fun f => { f with inflight := some flight }, by decide +kernel⟩,
   ⟨underWay .trip .ready { base with plan := panelPlan (.flashQuiesce) }, by decide +kernel⟩⟩

theorem test_BoundariesJudgeTheSequence_witness :
    (∃ (n : SlotName) (due : Nat) (s : State),
      let ends := s.eng.mode = .running ∧ s.eng.step = .delaying due
      s.eng.slot = some n ∧ ends ∧ n.isUp = false) ∧
    (∃ (n : SlotName) (due : Nat) (s : State),
      let ends := s.eng.mode = .running ∧ s.eng.step = .delaying due
      let normal := s.boc.state = .normal
      s.eng.slot = some n ∧ ends ∧ n.isUp = true ∧ ¬ normal) ∧
    (∃ (n : SlotName) (due : Nat) (s : State),
      let ends := s.eng.mode = .running ∧ s.eng.step = .delaying due
      let g : Engine := s.claimsTaken
      let desired :=
        match n with
        | .boardUp => s.sense.runReq && !g.boardLock
        | .panelUp => s.sense.runReq && s.sense.panelReq && g.board == .up && !g.panelLock
        | _ => true
      let normal := s.boc.state = .normal
      s.eng.slot = some n ∧ ends ∧ n.isUp = true ∧ normal ∧ desired = false) ∧
    (∃ (n : SlotName) (due : Nat) (s : State),
      let ends := s.eng.mode = .running ∧ s.eng.step = .delaying due
      let g : Engine := s.claimsTaken
      let desired :=
        match n with
        | .boardUp => s.sense.runReq && !g.boardLock
        | .panelUp => s.sense.runReq && s.sense.panelReq && g.board == .up && !g.panelLock
        | _ => true
      let normal := s.boc.state = .normal
      s.eng.slot = some n ∧ ends ∧ n.isUp = true ∧ normal ∧ desired = true) ∧
    (∃ (n : SlotName) (due : Nat) (s : State),
      let ends := s.eng.mode = .running ∧ s.eng.step = .delaying due
      s.eng.slot = some n ∧ ends) ∧
    (∃ (n : SlotName) (s : State),
      let g : Engine := s.claimsTaken
      let desired :=
        match n with
        | .boardUp => s.sense.runReq && !g.boardLock
        | .panelUp => s.sense.runReq && s.sense.panelReq && g.board == .up && !g.panelLock
        | _ => true
      let normal := s.boc.state = .normal
      let count := (s.plan.slotRange n).count
      let judged := s.applied = true ∧ s.eng.mode = .suspended ∧ n.isUp = true ∧ normal ∧ s.eng.step = .idle
      s.eng.slot = some n ∧ judged ∧ desired = true ∧ s.eng.index < count) ∧
    (∃ (n : SlotName) (s : State),
      let g : Engine := s.claimsTaken
      let desired :=
        match n with
        | .boardUp => s.sense.runReq && !g.boardLock
        | .panelUp => s.sense.runReq && s.sense.panelReq && g.board == .up && !g.panelLock
        | _ => true
      let normal := s.boc.state = .normal
      let count := (s.plan.slotRange n).count
      let judged := s.applied = true ∧ s.eng.mode = .suspended ∧ n.isUp = true ∧ normal ∧ s.eng.step = .idle
      s.eng.slot = some n ∧ judged ∧ desired = true ∧ count ≤ s.eng.index) ∧
    (∃ (n : SlotName) (s : State),
      let g : Engine := s.claimsTaken
      let desired :=
        match n with
        | .boardUp => s.sense.runReq && !g.boardLock
        | .panelUp => s.sense.runReq && s.sense.panelReq && g.board == .up && !g.panelLock
        | _ => true
      let normal := s.boc.state = .normal
      let judged := s.applied = true ∧ s.eng.mode = .suspended ∧ n.isUp = true ∧ normal ∧ s.eng.step = .idle
      s.eng.slot = some n ∧ judged ∧ desired = false) :=
  ⟨⟨.trip, 9, underWay .trip (.delaying 9) base, by decide +kernel⟩,
   ⟨.boardUp, 9, (underWay .boardUp (.delaying 9) base).modBoc fun b => { b with state := .dip }, by decide +kernel⟩,
   ⟨.boardUp, 9, underWay .boardUp (.delaying 9) base, by decide +kernel⟩,
   ⟨.boardUp, 9, underWay .boardUp (.delaying 9) (wanted fun e => { e with index := 0 }), by decide +kernel⟩,
   ⟨.trip, 9, underWay .trip (.delaying 9) base, by decide +kernel⟩,
   ⟨.boardUp, { wanted fun e => { e with mode := .suspended, slot := some .boardUp, step := .idle, index := 1 } with plan := panelPlan .nop }, by decide +kernel⟩,
   ⟨.boardUp, { wanted fun e => { e with mode := .suspended, slot := some .boardUp, step := .idle, index := 2 } with plan := panelPlan .nop }, by decide +kernel⟩,
   ⟨.boardUp, { engine fun e => { e with mode := .suspended, slot := some .boardUp, step := .idle, index := 2 } with plan := panelPlan .nop }, by decide +kernel⟩⟩

theorem test_SettleFollowsToTheEnd_witness :
    (∃ (s : State),
      s.react = none) ∧
    (∃ (t : State) (s : State),
      s.react = some t) ∧
    (∃ (t : State) (s : State),
      s.linkReact = some t ∨ (s.linkReact = none ∧ s.bocReact = some t)) ∧
    (∃ (t : State) (s : State),
      s.linkReact = none ∧ s.bocReact = none ∧ s.engineReact = some t) ∧
    (∃ (s : State),
      s.linkReact = none ∧ s.bocReact = none ∧ s.engineReact = none) ∧
    (∃ (s : State),
      EngineSafe s) :=
  ⟨⟨base, by decide +kernel⟩,
   ⟨(base.modFlb fun f => { f with mode := .ignore }).settleFor 1, (base.modFlb fun f => { f with mode := .ignore }), by decide +kernel⟩,
   ⟨(base.modFlb fun f => { f with mode := .ignore }).settleFor 1, (base.modFlb fun f => { f with mode := .ignore }), by decide +kernel⟩,
   ⟨(engine fun e => { e with trip := some .boc }).settleFor 1, (engine fun e => { e with trip := some .boc }), by decide +kernel⟩,
   ⟨base, by decide +kernel⟩,
   ⟨base, by constructor <;> decide +kernel⟩⟩

theorem test_LinkModeFollowsTheMainResetLine_witness :
    (∃ (s : State),
      let still := s.flb.xfer = none
      s.flb.mode = .relay ∧ s.mainActive = true ∧ still) ∧
    (∃ (s : State),
      let still := s.flb.xfer = none
      s.flb.mode = .relay ∧ (s.mainActive = false ∨ ¬ still)) ∧
    (∃ (s : State),
      let still := s.flb.xfer = none
      let idle := s.flb.inflight = none ∧ s.flb.issue = none ∧ s.flb.tenure = none
      s.flb.mode = .ignore ∧ s.applied = true ∧ s.mainActive = false ∧ still ∧ idle) ∧
    (∃ (s : State),
      let still := s.flb.xfer = none
      let idle := s.flb.inflight = none ∧ s.flb.issue = none ∧ s.flb.tenure = none
      s.flb.mode = .ignore ∧ (s.applied = false ∨ s.mainActive = true ∨ ¬ still ∨ ¬ idle)) ∧
    (∃ (s : State),
      s.flb.mode = .tenure) ∧
    (∃ (i : Issue) (s : State),
      let idle := s.flb.inflight = none ∧ s.flb.issue = none ∧ s.flb.tenure = none
      let offered := s.flb.offer = some i ∧ s.applied = true ∧ idle
      offered ∧ s.flb.mode = .ignore ∧ s.flb.barred = false) ∧
    (∃ (i : Issue) (s : State),
      let still := s.flb.xfer = none
      let idle := s.flb.inflight = none ∧ s.flb.issue = none ∧ s.flb.tenure = none
      let offered := s.flb.offer = some i ∧ s.applied = true ∧ idle
      offered ∧ s.flb.mode = .relay ∧ s.mainActive = false ∧ still) ∧
    (∃ (i : Issue) (s : State),
      let still := s.flb.xfer = none
      let idle := s.flb.inflight = none ∧ s.flb.issue = none ∧ s.flb.tenure = none
      let offered := s.flb.offer = some i ∧ s.applied = true ∧ idle
      offered ∧ (s.flb.mode = .ignore ∧ s.flb.barred = true ∨ s.flb.mode = .relay ∧ (s.mainActive = true ∨ ¬
        still))) ∧
    (∃ (s : State),
      let idle := s.flb.inflight = none ∧ s.flb.issue = none ∧ s.flb.tenure = none
      s.flb.offer = none ∨ s.applied = false ∨ ¬ idle) :=
  ⟨⟨(engine fun e => { e with lines := Vector.replicate 6 true }).modFlb fun f => { f with mode := .relay }, by decide +kernel⟩,
   ⟨(engine fun e => { e with lines := Vector.replicate 6 false }).modFlb fun f => { f with mode := .relay }, by decide +kernel⟩,
   ⟨(engine fun e => { e with lines := Vector.replicate 6 false }).modFlb fun f => { f with mode := .ignore }, by decide +kernel⟩,
   ⟨(engine fun e => { e with lines := Vector.replicate 6 true }).modFlb fun f => { f with mode := .ignore }, by decide +kernel⟩,
   ⟨(engine fun e => { e with lines := Vector.replicate 6 false }).modFlb fun f => { f with mode := .tenure, tenure := some ⟨.internal, none, .issuing, 0, false⟩ }, by decide +kernel⟩,
   ⟨issueT, (engine fun e => { e with lines := Vector.replicate 6 false }).modFlb fun f => { f with mode := .ignore, offer := some issueT }, by decide +kernel⟩,
   ⟨issueT, (engine fun e => { e with lines := Vector.replicate 6 false }).modFlb fun f => { f with offer := some issueT }, by decide +kernel⟩,
   ⟨issueT, (engine fun e => { e with lines := Vector.replicate 6 false }).modFlb fun f => { f with mode := .ignore, offer := some issueT, barred := true }, by decide +kernel⟩,
   ⟨(engine fun e => { e with lines := Vector.replicate 6 false }).modFlb fun f => { f with mode := .relay }, by decide +kernel⟩⟩

theorem test_QuietWorkWritesOrErasesAhead_witness :
    (∃ (r : Record) (rest : List Record) (ring : Ring) (s : State),
      let allowed := s.applied = true ∧ s.plan.sectorCount ≠ 0 ∧ (s.mainActive = true ∨ s.eng.board = .down) ∧
        s.eng.quietHold = false ∧ s.jnu.work = none ∧
        (s.boc.state = .init ∨ s.boc.state = .normal ∨ (s.boc.state = .dark ∧ s.boc.survival = .ended))
      let head := allowed ∧ s.jnu.ring = some ring ∧ s.jnu.queue = r :: rest ∧ r.body.slots = 1
      head ∧ 1 ≤ ring.room) ∧
    (∃ (r : Record) (rest : List Record) (ring : Ring) (s : State),
      let allowed := s.applied = true ∧ s.plan.sectorCount ≠ 0 ∧ (s.mainActive = true ∨ s.eng.board = .down) ∧
        s.eng.quietHold = false ∧ s.jnu.work = none ∧
        (s.boc.state = .init ∨ s.boc.state = .normal ∨ (s.boc.state = .dark ∧ s.boc.survival = .ended))
      let head := allowed ∧ s.jnu.ring = some ring ∧ s.jnu.queue = r :: rest ∧ r.body.slots = 1
      head ∧ ring.room = 0 ∧ s.jnu.nextErased = true) ∧
    (∃ (ring : Ring) (s : State),
      let allowed := s.applied = true ∧ s.plan.sectorCount ≠ 0 ∧ (s.mainActive = true ∨ s.eng.board = .down) ∧
        s.eng.quietHold = false ∧ s.jnu.work = none ∧
        (s.boc.state = .init ∨ s.boc.state = .normal ∨ (s.boc.state = .dark ∧ s.boc.survival = .ended))
      allowed ∧ s.jnu.ring = some ring ∧ s.jnu.nextErased = false ∧ (s.jnu.queue = [] ∨ ring.room = 0)) ∧
    (∃ (s : State),
      s.jnu.queue = [] ∧ s.jnu.nextErased = true) ∧
    (∃ (s : State),
      let allowed := s.applied = true ∧ s.plan.sectorCount ≠ 0 ∧ (s.mainActive = true ∨ s.eng.board = .down) ∧
        s.eng.quietHold = false ∧ s.jnu.work = none ∧
        (s.boc.state = .init ∨ s.boc.state = .normal ∨ (s.boc.state = .dark ∧ s.boc.survival = .ended))
      ¬ allowed) :=
  ⟨⟨⟨.pad, .normal, 0⟩, [], ⟨1, 0, 63, 1⟩, { base with plan := { planT with sectorCount := 2 }, jnu := { base.jnu with queue := [⟨.pad, .normal, 0⟩], ring := some ⟨1, 0, 63, 1⟩, nextErased := false } }, by decide +kernel⟩,
   ⟨⟨.pad, .normal, 0⟩, [], ⟨1, 0, 64, 0⟩, { base with plan := { planT with sectorCount := 2 }, jnu := { base.jnu with queue := [⟨.pad, .normal, 0⟩], ring := some ⟨1, 0, 64, 0⟩, nextErased := true } }, by decide +kernel⟩,
   ⟨⟨1, 0, 63, 1⟩, { base with plan := { planT with sectorCount := 2 }, jnu := { base.jnu with queue := [], ring := some ⟨1, 0, 63, 1⟩, nextErased := false } }, by decide +kernel⟩,
   ⟨{ base with plan := { planT with sectorCount := 2 }, jnu := { base.jnu with queue := [], ring := some ⟨1, 0, 63, 1⟩, nextErased := true } }, by decide +kernel⟩,
   ⟨base, by decide +kernel⟩⟩

theorem test_SurvivalWorkWritesOrLosesTheRecord_witness :
    (∃ (s : State),
      let down := s.eng.board = .down ∧ s.eng.panel = .down
      let descending := s.applied = true ∧ s.boc.state = .descent
      descending ∧ down ∧ s.adu.parked = none) ∧
    (∃ (s : State),
      let down := s.eng.board = .down ∧ s.eng.panel = .down
      let descending := s.applied = true ∧ s.boc.state = .descent
      descending ∧ ¬ down) ∧
    (∃ (s : State),
      s.plan.sectorCount = 0) ∧
    (∃ (s : State),
      s.plan.sectorCount ≠ 0) ∧
    (∃ (r : Record) (f : InFlight) (since : Nat) (s : State),
      let waits := s.jnu.survival = .waiting r since
      waits ∧ s.flb.inflight = some f ∧ f.overrun = false) ∧
    (∃ (r : Record) (since : Nat) (s : State),
      let waits := s.jnu.survival = .waiting r since
      waits ∧ s.flb.inflight = none ∧ s.flb.tenure ≠ none) ∧
    (∃ (r : Record) (f : InFlight) (since : Nat) (s : State),
      let waits := s.jnu.survival = .waiting r since
      waits ∧ s.flb.inflight = some f ∧ f.overrun = true ∧ s.plan.sectorCount ≠ 0) ∧
    (∃ (r : Record) (ring : Ring) (since : Nat) (s : State),
      let waits := s.jnu.survival = .waiting r since
      let freed := waits ∧ s.flb.inflight = none ∧ s.flb.tenure = none
      let space := s.jnu.nextErased = true ∨ 2 ≤ ring.room
      freed ∧ s.jnu.ring = some ring ∧ ¬ space) ∧
    (∃ (r : Record) (ring : Ring) (since : Nat) (s : State),
      let waits := s.jnu.survival = .waiting r since
      let freed := waits ∧ s.flb.inflight = none ∧ s.flb.tenure = none
      let space := s.jnu.nextErased = true ∨ 2 ≤ ring.room
      freed ∧ s.jnu.ring = some ring ∧ space) ∧
    (∃ (r : Record) (s : State),
      s.jnu.survival = .ready r ∧ s.jnu.work ≠ none) ∧
    (∃ (r : Record) (ring : Ring) (s : State),
      let ready := s.jnu.survival = .ready r ∧ s.jnu.work = none ∧ s.jnu.ring = some ring ∧ r.body.slots = 2
      ready ∧ 2 ≤ ring.room) ∧
    (∃ (r : Record) (ring : Ring) (s : State),
      let ready := s.jnu.survival = .ready r ∧ s.jnu.work = none ∧ s.jnu.ring = some ring ∧ r.body.slots = 2
      ready ∧ ring.room = 0) ∧
    (∃ (r : Record) (ring : Ring) (s : State),
      let ready := s.jnu.survival = .ready r ∧ s.jnu.work = none ∧ s.jnu.ring = some ring ∧ r.body.slots = 2
      ready ∧ ring.room = 1) ∧
    (∃ (r : Record) (ring : Ring) (quiet : Bool) (s : State),
      let ending (k : WorkKind) := s.jnu.work = some ⟨k, quiet⟩
      ending .pad ∧ s.jnu.survival = .padding r ∧ s.jnu.ring = some ring ∧ r.body.slots = 2) ∧
    (∃ (i : Issue) (quiet : Bool) (s : State),
      let ending (k : WorkKind) := s.jnu.work = some ⟨k, quiet⟩
      ending (.survival (some i))) ∧
    (∃ (quiet : Bool) (s : State),
      let ending (k : WorkKind) := s.jnu.work = some ⟨k, quiet⟩
      ending (.survival none)) ∧
    (∃ (s : State),
      s.applied = true ∧ s.boc.state = .dark ∧ s.boc.mainsMet = true ∧ s.boc.survival = .ended) ∧
    (∃ (s : State),
      s.applied = true ∧ s.boc.state = .dark ∧ s.boc.mainsMet = true ∧ s.boc.survival ≠ .ended) :=
  ⟨⟨base.modBoc fun b => { b with state := .descent }, by decide +kernel⟩,
   ⟨(base.modBoc fun b => { b with state := .descent }).modEng fun e => { e with panel := .goingDown }, by decide +kernel⟩,
   ⟨base, by decide +kernel⟩,
   ⟨darkT ⟨1, 0, 63, 1⟩ false (.none) none, by decide +kernel⟩,
   ⟨survivalT, flight, 0, (darkT ⟨1, 0, 63, 1⟩ false (.waiting survivalT 0) none).modFlb fun f => { f with inflight := some flight }, by decide +kernel⟩,
   ⟨survivalT, 0, (darkT ⟨1, 0, 63, 1⟩ false (.waiting survivalT 0) none).modFlb fun f => { f with mode := .tenure, tenure := some ⟨.internal, none, .issuing, 0, false⟩ }, by decide +kernel⟩,
   ⟨survivalT, { flight with overrun := true }, 0, (darkT ⟨1, 0, 63, 1⟩ false (.waiting survivalT 0) none).modFlb fun f => { f with inflight := some { flight with overrun := true } }, by decide +kernel⟩,
   ⟨survivalT, ⟨1, 0, 63, 1⟩, 0, darkT ⟨1, 0, 63, 1⟩ false (.waiting survivalT 0) none, by decide +kernel⟩,
   ⟨survivalT, ⟨1, 0, 62, 2⟩, 0, darkT ⟨1, 0, 62, 2⟩ false (.waiting survivalT 0) none, by decide +kernel⟩,
   ⟨survivalT, darkT ⟨1, 0, 63, 1⟩ true (.ready survivalT) (some ⟨.record, true⟩), by decide +kernel⟩,
   ⟨survivalT, ⟨1, 0, 62, 2⟩, darkT ⟨1, 0, 62, 2⟩ false (.ready survivalT) none, by decide +kernel⟩,
   ⟨survivalT, ⟨1, 0, 64, 0⟩, darkT ⟨1, 0, 64, 0⟩ true (.ready survivalT) none, by decide +kernel⟩,
   ⟨survivalT, ⟨1, 0, 63, 1⟩, darkT ⟨1, 0, 63, 1⟩ true (.ready survivalT) none, by decide +kernel⟩,
   ⟨survivalT, ⟨2, 1, 0, 64⟩, true, darkT ⟨2, 1, 0, 64⟩ false (.padding survivalT) (some ⟨.pad, true⟩), by decide +kernel⟩,
   ⟨issueT, true, darkT ⟨1, 0, 63, 1⟩ false (.writing) (some ⟨.survival (some issueT), true⟩), by decide +kernel⟩,
   ⟨true, darkT ⟨1, 0, 63, 1⟩ false (.writing) (some ⟨.survival none, true⟩), by decide +kernel⟩,
   ⟨base.modBoc fun b => { b with state := .dark, mainsMet := true, survival := .ended }, by decide +kernel⟩,
   ⟨base.modBoc fun b => { b with state := .dark, mainsMet := true, survival := .underWay }, by decide +kernel⟩⟩

/-! ### The invariants and the whole-machine statements have states that meet their hypotheses -/

def ticking : State := { base with pending := [.uptimeTick] }

theorem test_EveryStepKeepsBounded_witness : ∃ s t, Bounded s ∧ step s = .next t :=
  ⟨ticking, _, by constructor <;> decide +kernel, rfl⟩

theorem test_channels_of_ticking : ∀ ch : Fin 12,
    (ticking.rail ch) = Channel.reset ∧ (ticking.railEntry ch).shedAt 0 = false := by decide +kernel

theorem test_EveryStepKeepsRailsSafe_witness : ∃ s t, RailsSafe s ∧ step s = .next t := by
  refine ⟨ticking, _, ⟨fun _ ch => ?_, fun _ ch h => ?_⟩, rfl⟩
  · obtain ⟨hc, hs⟩ := test_channels_of_ticking ch
    rw [hc]
    exact
      { rise := rfl, settle := rfl, fall := rfl, kind := rfl, prior := rfl, mark := hs.symm
        shed := nofun, enable := nofun, disable := nofun
        good := fun _ h => by rcases h with h | h | h <;> cases h
        notGood := nofun, timed := fun _ => ⟨nofun, nofun, rfl⟩ }
  · rw [(test_channels_of_ticking ch).1] at h
    cases h

theorem test_EveryStepKeepsDimSafe_witness : ∃ s t, DimSafe s ∧ step s = .next t :=
  ⟨ticking, _, by constructor <;> decide +kernel, rfl⟩

theorem test_EveryStepKeepsControllerSafe_witness : ∃ s t, ControllerSafe s ∧ step s = .next t :=
  ⟨ticking, _, by constructor <;> decide +kernel, rfl⟩

theorem test_EveryStepKeepsEngineSafe_witness : ∃ s t, EngineSafe s ∧ step s = .next t :=
  ⟨ticking, _, by constructor <;> decide +kernel, rfl⟩

theorem test_EveryStepKeepsHeldUntilApplied_witness : ∃ s t, HeldUntilApplied s ∧ step s = .next t :=
  ⟨{ State.reset with pending := [.uptimeTick] }, _, by constructor <;> decide +kernel, rfl⟩

theorem test_EveryStepKeepsLinkSafe_witness : ∃ s t, LinkSafe s ∧ step s = .next t :=
  ⟨ticking, _,
    { tenure := by decide +kernel, relay := by decide +kernel, intake := by decide +kernel, passed := by decide +kernel, reportless := by decide +kernel, barred := by decide +kernel, loading := by decide +kernel
      one := by decide +kernel, issuing := by decide +kernel, operating := by decide +kernel
      waiting := by decide +kernel, passing := by decide +kernel, parked := by decide +kernel
      hold := by decide +kernel, command := nofun, dip := by decide +kernel }, rfl⟩

theorem test_fallback_plan_in_range : fallbackPlan.InRange :=
  { unknownClass := by decide +kernel, failBit := by decide +kernel, scales := by decide +kernel
    trims := by decide +kernel, busFloor := by decide +kernel, supply := by decide +kernel
    filters := by decide +kernel, caps := by decide +kernel, rails := by decide +kernel
    slots := by decide +kernel, pool := by decide +kernel, classes := by decide +kernel
    windows := by decide +kernel, energy := by decide +kernel, loads := by decide +kernel
    levels := by decide +kernel, ride := by decide +kernel, storm := by decide +kernel
    link := by decide +kernel, geometry := by decide +kernel, times := by intro op; cases op <;> decide +kernel
    journal := by decide +kernel, descent := by decide +kernel }

theorem test_EveryStepKeepsThePlanInRange_witness : ∃ s t : State, s.plan.InRange ∧ step s = .next t :=
  ⟨{ ticking with plan := fallbackPlan }, _, test_fallback_plan_in_range, rfl⟩

theorem test_PlanIsFixedAfterApplication_witness :
    ∃ c s t, s.applied = true ∧ (∀ cause, c ≠ Instr.partReset cause) ∧ exec c s = .next t :=
  ⟨.uptimeTick, base, _, by decide +kernel, nofun, rfl⟩

theorem test_TimeGoesForward_witness :
    ∃ c s t, s.released = true ∧ t.released = true ∧ exec c s = .next t ∧ c ≠ .uptimeTick :=
  ⟨.dipEntryStale 0, base, _, by decide +kernel, by decide +kernel, rfl, nofun⟩

/-- The part committed, going down or waiting in the dark: in a state that meets ControllerSafe. -/
def committedT (b : BocState) : State :=
  { base with
    boc := { base.boc with state := b, shedLevel := 3, notes := some ⟨0, 0, 0, 0⟩, reason := .storm }
    eng := { base.eng with descent := b == .descent, board := if b == .dark then .down else .up }
    flb := { base.flb with inflight := if b == .commit then some flight else none } }

/-- The part in a dip, its ride timer running, with a command parked. -/
def dippingT : State :=
  { base with
    boc := { base.boc with state := .dip, shedLevel := 1, ride := some 2000, dip := some ⟨0, 1, 0⟩ }
    adu := ⟨some ⟨parkedCommand, 0⟩, some 5000, none⟩
    flb := { base.flb with mode := .tenure, tenure := some ⟨.requested, none, .parked, 0, false⟩ } }

theorem linkSafe_dippingT : LinkSafe dippingT :=
  { tenure := by decide +kernel, relay := by decide +kernel, intake := by decide +kernel, passed := by decide +kernel, reportless := by decide +kernel, barred := by decide +kernel, loading := by decide +kernel
    one := by decide +kernel, issuing := by decide +kernel, operating := by decide +kernel
    waiting := by decide +kernel, passing := by decide +kernel, parked := by decide +kernel
    hold := by decide +kernel, command := by rintro p h; cases h; decide +kernel, dip := by decide +kernel }

theorem test_ControllerKeepsItsPromises_witness :
    (∀ b : BocState, b = .commit ∨ b = .descent ∨ b = .dark → ∃ c s t, s.applied = true ∧ ControllerSafe s ∧
      (∀ cause, c ≠ Instr.partReset cause) ∧ exec c s = .next t ∧ s.boc.state = b) ∧
    (∃ c s t, s.applied = true ∧ ControllerSafe s ∧ (∀ cause, c ≠ Instr.partReset cause) ∧ exec c s = .next t ∧
      s.boc.state = .dip ∧ t.boc.state = .dip) ∧
    (∃ c s t, s.applied = true ∧ ControllerSafe s ∧ (∀ cause, c ≠ Instr.partReset cause) ∧ exec c s = .next t ∧
      LinkSafe s ∧ s.adu.parked ≠ none ∧ t.boc.state.committed = true) := by
  refine ⟨?_, ?_, ?_⟩
  · rintro b (rfl | rfl | rfl)
    · exact ⟨.uptimeTick, committedT .commit, _, by decide +kernel, by constructor <;> decide +kernel, nofun, rfl, rfl⟩
    · exact ⟨.uptimeTick, committedT .descent, _, by decide +kernel, by constructor <;> decide +kernel, nofun, rfl, rfl⟩
    · exact ⟨.uptimeTick, committedT .dark, _, by decide +kernel, by constructor <;> decide +kernel, nofun, rfl, rfl⟩
  · exact ⟨.uptimeTick, dippingT, _, by decide +kernel, by constructor <;> decide +kernel, nofun, rfl, rfl, by decide +kernel⟩
  · exact ⟨.rideTimerExpiry, dippingT, _, by decide +kernel, by constructor <;> decide +kernel, nofun, rfl,
      linkSafe_dippingT, by decide +kernel, by decide +kernel⟩

/-- The inputs of the worked case of chapter 4, with this bulk voltage and this operation in flight. -/
def inputsT (vb : Nat) (flight : Option (OpClass × Nat)) : Inputs := ⟨vb, 23982, 5206, 61600, 700, false, false, flight⟩

theorem test_budget_witness : ∃ (p : Plan) (i : Inputs),
    p.InRange ∧ i.InRange ∧ p.eff ≤ 1000 ∧ 500 ≤ p.eff :=
  ⟨fallbackPlan, inputsT 360 none, test_fallback_plan_in_range,
    { vbulk := by decide, vbus := by decide, ibus := by decide, rails := by decide, duty := by decide },
    by decide, by decide⟩

/-! ### WellFormed refuses, check by check -/

theorem test_wf_delay : (Instr.delay 0).wellFormed = false ∧ (Instr.delay 10001).wellFormed = false ∧
    (Instr.delay 10000).wellFormed = true := by decide
theorem test_wf_line_pulse : (Instr.linePulse 0 0).wellFormed = false ∧ (Instr.linePulse 0 256).wellFormed = false ∧
    (Instr.linePulse 0 255).wellFormed = true := by decide
theorem test_wf_dim_limit : (Instr.dimLimit 1001).wellFormed = false ∧ (Instr.dimLimit 1000).wellFormed = true := by decide
theorem test_wf_await : (Instr.await 0 true 0).wellFormed = false ∧ (Instr.await 1 true 10001).wellFormed = false ∧
    (Instr.await 1 false 1).wellFormed = true := by decide
theorem test_wf_header : (Instr.planHeaderReadEnd (List.replicate 11 0)).wellFormed = false ∧
    (Instr.planHeaderReadEnd (List.replicate 13 0)).wellFormed = false ∧ (Instr.planHeaderReadEnd header).wellFormed = true := by
  decide
theorem test_wf_body (z : Byte) : (Instr.planBodyReadEnd (List.replicate 960 z) 0).wellFormed = false ∧
    (Instr.planBodyReadEnd (List.replicate 16373 z) 0).wellFormed = false ∧
    (Instr.planBodyReadEnd (List.replicate 961 z) 0).wellFormed = true := by
  simp only [Instr.wellFormed, List.length_replicate]; decide
theorem test_wf_sector (z : Byte) : (Instr.journalScanSectorRead (List.replicate 4032 z) 0).wellFormed = false ∧
    (Instr.journalScanSectorRead (List.replicate 65600 z) 0).wellFormed = false ∧
    (Instr.journalScanSectorRead (List.replicate 4097 z) 0).wellFormed = false ∧
    (Instr.journalScanSectorRead (List.replicate 4096 z) 0).wellFormed = true := by
  simp only [Instr.wellFormed, List.length_replicate]; decide

/-! ### The CRCs: the characters 1 to 9 give the figures of chapter 11.1 -/

def digits : List Byte := [0x31, 0x32, 0x33, 0x34, 0x35, 0x36, 0x37, 0x38, 0x39]

theorem test_crc16 : crc16 digits = 0x29B1 := by decide +kernel
theorem test_crc32 : crc32 digits = 0xFC891918 := by decide +kernel

/-! ### Chapter 2: the derived descent times of the example after R51 -/

def descentRails : Vector RailEntry 12 :=
  Vector.ofFn fun i =>
    { fallbackRail 0 with
      fallMs := if i = 0 then 8 else if i = 1 then 10 else if i = 5 then 30 else if i = 6 then 6 else if i = 7 then 4 else 5 }

def descentPool : List Step :=
  [.dimLimit 0, .railDown 8 true, .railDown 7 true, .delay 3, .railDown 6 false, .line 0 true, .railDown 1 false,
    .railDown 5 false, .railDown 0 true].map fun k => ⟨k, true⟩

theorem test_derived_times :
    derivedTime descentRails descentPool ⟨0, 5⟩ = 12 ∧ derivedTime descentRails descentPool ⟨5, 4⟩ = 8 := by decide +kernel

/-! ### Chapter 3: the figures of the worked case, and the high times of the shed example -/

def ringT : List Nat := [1060, 1071, 1064, 1069, 1062, 1070, 1066, 1067]

theorem test_vbulk_value : trimCode 3279 (-3) = 3276 ∧ toUnits 3276 450 = 360 := by decide
theorem test_trim_clamps_at_zero : trimCode 2 (-5) = 0 ∧ trimCode 4094 7 = 4095 := by decide
theorem test_vbus_value : toUnits (trimCode 2976 0) 33000 = 23982 := by decide
theorem test_ibus_value : averageCode ringT = 1066 ∧ toUnits 1066 20000 = 5206 := by decide
theorem test_ibus_next_value :
    averageCode (pushCode ringT 900) = 1046 ∧ toUnits 1046 20000 = 5108 ∧ (pushCode ringT 900).length = 8 := by decide
theorem test_high_times : highTime 700 480000 = 336000 ∧ highTime 400 480000 = 192000 ∧ highTime 450 480000 = 216000 := by
  decide

/-! ### Chapter 4: the worked case and the budget at its limits -/

def caseT : Plan :=
  { fallbackPlan with
    capUf := 220, dropoutV := 180, eff := 880, margin := 500, recordCost := 50, baseMw := 1200, flashActiveMw := 400
    blFullMw := 80000, tPanelSwift := 12, tBoardSwift := 8, maxTime := ⟨30, 4000, 20000, 800000, 150⟩
    s1 := 8000, s2 := 5000, s3 := 2000 }

theorem test_worked_case : caseT.compute (inputsT 360 none) =
    ⟨10692, 9408, 124851, 118800, 124851, 20, 2498, 0, 3048, 6360, 6360, false, 75,
      ⟨375, 49941, 249702, 1000000, 1873⟩⟩ := by decide +kernel

theorem test_program_in_flight :
    ([0, 1, 2, 6].map fun e => ((caseT.compute (inputsT 360 (some (.program, e)))).fCost,
      (caseT.compute (inputsT 360 (some (.program, e)))).reserve)) = [(375, 5985), (363, 5997), (350, 6010), (300, 6060)] := by
  decide +kernel

theorem test_erase_in_flight :
    (caseT.compute (inputsT 360 (some (.eraseSector, 0)))).reserve = -43581 ∧
      (caseT.compute (inputsT 253 (some (.eraseSector, 0)))).flashFree = 10 ∧
      (caseT.compute (inputsT 252 (some (.eraseSector, 0)))).flashFree = -38 ∧
      (caseT.compute (inputsT 252 (some (.eraseSector, 0)))).deadline = true := by decide +kernel

theorem test_bulk_below_dropout :
    (caseT.compute (inputsT 175 none)).reserve = -3048 ∧ (caseT.compute (inputsT 175 none)).tDd = 0 := by decide +kernel

theorem test_no_load : ({ caseT with baseMw := 0 } : Plan).compute ⟨360, 23982, 0, 0, 0, false, false, none⟩ =
    ⟨10692, 9408, 0, 0, 0, 20, 0, 0, 550, 8858, 8858, false, 65535, ⟨0, 0, 0, 0, 0⟩⟩ := by decide +kernel

theorem test_reserve_beyond_the_field :
    (caseT.compute (inputsT 360 (some (.eraseDevice, 0)))).reserve = -993640 ∧
      signed16 (clamp16 (-993640)) = [0x00, 0x80] := by decide +kernel

/-! ### Chapter 5: a storm test across the uptime wrap -/

def stormT : List DipEntry := [1000, 4294962296, 4294960000, 4294950000].map fun a => ⟨a, 0, 0, 0, false⟩

theorem test_storm_across_the_wrap : stormEntries 2500 10000 stormT = 3 ∧ stormEntries 2800 10000 stormT = 2 := by
  decide +kernel

/-! ### Chapter 7: effective policies on one board -/

def boardT (unlock : Bool) : State :=
  { base with
    plan :=
      { fallbackPlan with
        lockFlag := true, regWritePolicy := .locked, journalBase := 0x7E0000, sectorCount := 8
        windows :=
          [⟨0, 20, some .locked⟩, ⟨0x400000, 21, some .guarded⟩, ⟨0x600000, 16, some .deferred⟩,
            ⟨0x200000, 21, some .free⟩, ⟨0x200000, 12, some .guarded⟩, unusedWindow, unusedWindow, unusedWindow] }
    load := { base.load with source := some .flash, strap := 3, unlockHeld := unlock } }

/-- The policy and deciding source of a command on the board of the example. -/
def policyT (unlock : Bool) (cls : FlashClass) (address : Nat) : Option Policy × Source :=
  (boardT unlock).effectivePolicy cls ((boardT unlock).plan.affectedRange cls address)

theorem test_plan_region : planRegionBase 3 = 0x7FC000 := by decide
theorem test_policy_windows :
    policyT false .program 0x410010 = (some .guarded, .window 1) ∧
      policyT false .eraseBlock 0x5F8000 = (some .guarded, .window 1) ∧
      policyT false .eraseBlock 0x601234 = (some .deferred, .window 2) ∧
      policyT false .eraseSector 0x201000 = (some .free, .window 3) ∧
      policyT false .eraseBlock 0x205000 = (some .guarded, .window 4) := by decide +kernel
theorem test_policy_regions :
    policyT false .eraseSector 0x700000 = (some .guarded, .default) ∧
      policyT false .eraseBlock 0x7E0000 = (some .reserved, .journalRegion) ∧
      policyT false .eraseBlock 0x7F0000 = (some .locked, .planRegion) ∧
      policyT false .program 0x7FC040 = (some .locked, .planRegion) := by decide +kernel
theorem test_policy_of_all_the_flash :
    policyT false .eraseDevice 0 = (some .locked, .planRegion) ∧
      policyT false .regWrite 0 = (some .locked, .regWritePolicy) ∧
      policyT true .eraseBlock 0x7F0000 = (some .guarded, .planRegion) ∧
      policyT true .eraseDevice 0 = (some .locked, .window 0) := by decide +kernel

/-! ### Chapter 8: the start-up scan of the example -/

def scannedT : List (List SlotClass) :=
  [(List.range 64).map fun i => .begins (BitVec.ofNat 32 (101 + i)) 1,
    ((List.range 41).map fun i => .begins (BitVec.ofNat 32 (165 + i)) 1) ++ [.used] ++ List.replicate 22 .erased]

theorem test_startup_scan :
    Plan.findRing { fallbackPlan with sectorCount := 2 } scannedT = ⟨206, 1, 42, 22⟩ := by decide +kernel

theorem test_empty_ring_scan :
    Plan.findRing { fallbackPlan with sectorCount := 2 } (List.replicate 2 (List.replicate 64 .erased)) =
      ⟨1, 0, 0, 64⟩ := by decide +kernel

end Sys2Proof.Machine
end

/-! ## Rail shedding

How a rail channel falls and takes the setting of its shed mark (R10 to R12, R16, R17). -/

namespace Sys2Proof.Machine

/-! ### The answer to a pending order -/

/-- No other order than `o` is answered by an event that answers `o`. -/
theorem Channel.answerIf_of_ne {c : Channel} {o : Order} (a : Answer) (h : c.order ≠ some o) :
    c.answerIf o a = (c, none) := if_neg h

/-- Where a pending order can only be an enable order, none is left pending. -/
theorem Channel.answerIf_enable {c : Channel} (a : Answer) (h : c.order ≠ some .disable) :
    c.answerIf .enable a =
      ({ c with order := none }, if c.order = some .enable then some a else none) := by
  obtain ⟨_, _, _, _, _, _, _, _, _, order⟩ := c
  match order with
  | none => rfl
  | some .enable => rfl
  | some .disable => exact absurd rfl h

/-! ### Entry to OFF and to FALLING -/

/-- Entry to OFF gives no answer where no disable order is pending. -/
theorem Channel.enterOff_of_ne_disable {c : Channel} (h : c.order ≠ some .disable) :
    c.enterOff = .same { c with state := .off, rise := none, settle := none, fall := none } := by
  simp [Channel.enterOff, Channel.answerIf_of_ne, h, ChanStep.same]

/-- A timed channel, or one whose filtered PG is good, stays in FALLING with its fall timer running (R10, R12). -/
theorem Channel.enterFalling_of_stays {e : RailEntry} {c : Channel} (now : Nat) (h : e.timed = true ∨ c.pgGood = true) :
    c.enterFalling e now =
      .same { c with state := .falling, rise := none, settle := none, fall := some (now + msCounts e.fallMs) } := by
  have holds : (!e.timed && !c.pgGood) = false := by
    cases h with
    | inl timed => simp [timed]
    | inr good => simp [good]
  simp [Channel.enterFalling, holds]

/-- A monitored channel whose filtered PG is not-good passes through FALLING to OFF at once (R12). -/
theorem Channel.enterFalling_of_passes {e : RailEntry} {c : Channel} (now : Nat)
    (h : ¬ (e.timed = true ∨ c.pgGood = true)) (hdisable : c.order ≠ some .disable) :
    c.enterFalling e now = .same { c with state := .off, rise := none, settle := none, fall := none } := by
  obtain ⟨monitored, notGood⟩ := not_or.mp h
  simp [Channel.enterFalling, monitored, notGood, Channel.enterOff_of_ne_disable, hdisable]

/-! ### The shed mark becomes set -/

/-- A shed level that sets a clear mark is taken as R17 states. -/
theorem Channel.takeShed_of_becomes_set {e : RailEntry} {level : Nat} {c : Channel} (now : Nat)
    (hclear : c.shed = false) (hset : e.shedAt level = true) : c.takeShed e now level = c.shedSet e now := by
  simp [Channel.takeShed, hclear, hset]

/-- An energised channel falls as its entry to FALLING gives it, and its enable order is answered DEFERRED (R17). -/
theorem Channel.shedSet_of_energised {e : RailEntry} {now : Nat} {c d : Channel}
    (henergised : c.state = .rising ∨ c.state = .settling ∨ c.state = .on) (hdisable : c.order ≠ some .disable)
    (hfalls : ({ c with shed := true, order := none } : Channel).enterFalling e now = .same d) :
    c.shedSet e now = ⟨d, if c.order = some .enable then some .deferred else none, none⟩ := by
  have answered : ({ c with shed := true } : Channel).answerIf .enable .deferred =
      ({ c with shed := true, order := none }, if c.order = some .enable then some .deferred else none) :=
    Channel.answerIf_enable .deferred hdisable
  have falls : c.shedSet e now =
      let r := ({ c with shed := true } : Channel).answerIf .enable .deferred
      { r.1.enterFalling e now with answer := r.2.or (r.1.enterFalling e now).answer } := by
    obtain state | state | state := henergised
    all_goals simp only [Channel.shedSet, state]
  simp only [falls, answered, hfalls, ChanStep.same, Option.or_none]

/-- A channel that is OFF, FALLING or in FAULT changes in its shed mark alone (R17). -/
theorem Channel.shedSet_of_not_energised {e : RailEntry} {c : Channel} (now : Nat)
    (h : ¬ (c.state = .rising ∨ c.state = .settling ∨ c.state = .on)) :
    c.shedSet e now = .same { c with shed := true } := by
  cases state : c.state with
  | rising => exact absurd (.inl state) h
  | settling => exact absurd (.inr (.inl state)) h
  | on => exact absurd (.inr (.inr state)) h
  | off => simp only [Channel.shedSet, state]
  | falling => simp only [Channel.shedSet, state]
  | fault => simp only [Channel.shedSet, state]

/-- Settles O28, by the two ways in which an energised channel enters FALLING and by the frame of every other. -/
theorem shedSetTakesARailDown : Obligations.ShedSetTakesARailDown := by
  intro e now level c hclear hset energised stays
  rw [Channel.takeShed_of_becomes_set now hclear hset]
  refine ⟨?falls, ?passes, Channel.shedSet_of_not_energised now⟩
  case falls =>
    rintro ⟨henergised, hdisable, hstays⟩
    exact Channel.shedSet_of_energised henergised hdisable (Channel.enterFalling_of_stays now hstays)
  case passes =>
    rintro ⟨henergised, hdisable, hpasses⟩
    exact Channel.shedSet_of_energised henergised hdisable (Channel.enterFalling_of_passes now hpasses nofun)

end Sys2Proof.Machine

/-! ## The holdup budget

The energies and the costs of a computation of the Holdup Budget Unit: E_st and E_us (R76, R77), and the four costs of
which E_cm is the sum (R81 to R83). -/

namespace Sys2Proof.Machine

/-! ### The stored and the usable energy -/

/-- No plan stores more than the largest capacity does at the largest bulk voltage (R54, R76). -/
theorem Plan.storedEnergy_le {p : Plan} {vb : Nat} (hcap : p.capUf ≤ 2000) (hvb : vb ≤ 511) :
    p.storedEnergy vb ≤ 261121 := by
  have squares : vb ^ 2 - p.dropoutV ^ 2 ≤ 511 ^ 2 := (Nat.sub_le _ _).trans (Nat.pow_le_pow_left hvb 2)
  exact Nat.div_le_of_le_mul (Nat.mul_le_mul hcap squares)

/-- An efficiency of at most 1,000 per mille gives no more than is stored (R77). -/
theorem Plan.usableEnergy_le {p : Plan} (heff : p.eff ≤ 1000) (eSt : Nat) : p.usableEnergy eSt ≤ eSt :=
  Nat.div_le_of_le_mul (Nat.mul_comm 1000 eSt ▸ Nat.mul_le_mul_left eSt heff)

/-- An efficiency of at least 500 per mille gives at least half of what is stored (R77). -/
theorem Plan.half_le_usableEnergy {p : Plan} (heff : 500 ≤ p.eff) (eSt : Nat) : eSt / 2 ≤ p.usableEnergy eSt :=
  calc eSt / 2 = eSt * 500 / 1000 := (Nat.mul_div_mul_right eSt 2 (by decide : 0 < 500)).symm
    _ ≤ p.usableEnergy eSt := Nat.div_le_div_right (Nat.mul_le_mul_left eSt heff)

/-- A computation's E_st is the energy stored at the bulk voltage (R76). -/
theorem Plan.compute_eSt (p : Plan) (i : Inputs) : (p.compute i).eSt = p.storedEnergy i.vbulkV := rfl

/-- A computation's E_us is the usable part of its E_st (R77). -/
theorem Plan.compute_eUs (p : Plan) (i : Inputs) : (p.compute i).eUs = p.usableEnergy (p.compute i).eSt := rfl

/-- Settles O25, by the two bounds that the efficiency sets to the usable energy and the bound of the stored one. -/
theorem usableEnergyOfTheStored : Obligations.UsableEnergyOfTheStored := by
  intro p i b
  have usable : b.eUs = p.usableEnergy b.eSt := p.compute_eUs i
  refine ⟨usable, ?atMost, ?atLeast, ?inRange⟩
  case atMost => exact fun heff => usable ▸ Plan.usableEnergy_le heff b.eSt
  case atLeast => exact fun heff => usable ▸ Plan.half_le_usableEnergy heff b.eSt
  case inRange =>
    intro plan inputs
    obtain ⟨⟨-, hcap⟩, -, ⟨-, heff⟩, -, -⟩ := plan.energy
    exact ⟨p.compute_eSt i ▸ Plan.storedEnergy_le hcap inputs.vbulk, usable ▸ Plan.usableEnergy_le heff b.eSt⟩

/-! ### The costs -/

/-- D_cost saturates (R81). -/
theorem descentCost_le (load tDesc : Nat) : descentCost load tDesc ≤ 1000000 := Nat.min_le_left _ _

/-- A load over a time saturates as a cost (R82, R87). -/
theorem flashEnergy_le (load tenths : Nat) : flashEnergy load tenths ≤ 1000000 := Nat.min_le_left _ _

/-- F_cost saturates, and without an operation in flight there is none (R82). -/
theorem Plan.flashCost_le (p : Plan) (load : Nat) (flight : Option (OpClass × Nat)) :
    p.flashCost load flight ≤ 1000000 := by
  cases flight with
  | none => exact Nat.zero_le _
  | some operation => exact flashEnergy_le load _

/-- A computation's D_cost is that of its load over its T_desc (R81). -/
theorem Plan.compute_dCost (p : Plan) (i : Inputs) :
    (p.compute i).dCost = descentCost (p.compute i).pLoad (p.compute i).tDesc := rfl

/-- A computation's F_cost is that of its load and the operation in flight (R82). -/
theorem Plan.compute_fCost (p : Plan) (i : Inputs) :
    (p.compute i).fCost = p.flashCost (p.compute i).pLoad i.flight := rfl

/-- A computation's E_cm is the sum of the four costs (R83). -/
theorem Plan.compute_eCm (p : Plan) (i : Inputs) :
    (p.compute i).eCm = (p.compute i).dCost + (p.compute i).fCost + p.recordCost + p.margin := rfl

/-- Settles O26, by the saturation of the two costs that are computed and the plan's ranges for the two it gives. -/
theorem committedEnergyIsTheSum : Obligations.CommittedEnergyIsTheSum := by
  intro p i b
  have sum : b.eCm = b.dCost + b.fCost + p.recordCost + p.margin := p.compute_eCm i
  have descent : b.dCost ≤ 1000000 := p.compute_dCost i ▸ descentCost_le b.pLoad b.tDesc
  have flash : b.fCost ≤ 1000000 := p.compute_fCost i ▸ p.flashCost_le b.pLoad i.flight
  refine ⟨sum, descent, flash, p.compute_dCost i, ?flight, ?inRange⟩
  case flight =>
    refine (p.compute_fCost i).trans ?_
    cases i.flight with
    | none => rfl
    | some operation => rfl
  case inRange =>
    intro plan
    obtain ⟨-, -, -, hmargin, hrecord⟩ := plan.energy
    omega

end Sys2Proof.Machine

/-! ## Commands and steps

What a command answers, and how a property that every command keeps is kept by every step. -/

namespace Sys2Proof.Machine

/-! ### A step -/

/-- The part's own clock writes the clock, the queue and the count of draws alone. -/
theorem State.tick_frame (s : State) : ∃ n d q, s.tick = { s with clock := n, draws := d, pending := q } := by
  unfold State.tick
  split
  · exact ⟨s.clock, s.draws, s.pending, rfl⟩
  · split
    · exact ⟨s.clock + 1, s.draws, s.pending, rfl⟩
    · exact ⟨s.clock, s.draws, _, rfl⟩
    · exact ⟨s.clock, _, _, rfl⟩

/-- What every command keeps, and what does not depend on the clock, the draws and the queue, every step keeps. -/
theorem step_keeps {P : State → Prop} (own : ∀ s n d q, P s → P { s with clock := n, draws := d, pending := q })
    (command : ∀ c s t, P s → exec c s = .next t → P t) {s t : State} (h : P s) (hstep : step s = .next t) : P t := by
  unfold step at hstep
  split at hstep
  · obtain ⟨n, d, q, e⟩ := s.tick_frame
    cases hstep
    exact e ▸ own s n d q h
  · exact command _ _ t (own s s.clock s.draws _ h) hstep

/-- Settles O1, by the definition of a step. -/
theorem stepTakesTheFrontCommand : Obligations.StepTakesTheFrontCommand := by
  intro c rest s hpending
  simp [step, hpending]

/-- Settles O3, by the three cases of the part's own clock: part reset held, nothing due, and one or more events due. -/
theorem idleStepKeepsTheTime : Obligations.IdleStepKeepsTheTime := by
  intro s hpending
  have idle : step s = .next s.tick := by simp [step, hpending]
  rw [idle]
  refine ⟨fun held => by simp [State.tick, held], fun ⟨run, hnone⟩ => by simp [State.tick, run, hnone, State.setClock], ?_⟩
  rintro ⟨run, hdue⟩
  simp only [State.tick, run]
  cases due : s.due with
  | nil => exact absurd due hdue
  | cons c cs =>
    cases cs with
    | nil => exact ⟨c, List.mem_cons_self, s.draws, rfl⟩
    | cons d ds =>
      refine ⟨_, ?_, s.draws + 1, rfl⟩
      have place : Config.tieOrder s.draws % ((d :: ds).length + 1) < (c :: d :: ds).length := Nat.mod_lt _ (Nat.succ_pos _)
      rw [List.getD_eq_getElem _ _ place]
      exact List.getElem_mem place

end Sys2Proof.Machine

namespace Sys2Proof.Machine

/-! ### What the operations of the commands leave as it was -/

@[simp] theorem State.relayOpen_frame (s : State) (o : Byte) (c : Classed) :
    (s.relayOpen o c).clock = s.clock ∧ (s.relayOpen o c).load = s.load ∧ (s.relayOpen o c).plan = s.plan ∧
      (s.relayOpen o c).rails = s.rails ∧ (s.relayOpen o c).eng = s.eng ∧ (s.relayOpen o c).sense = s.sense ∧
      (s.relayOpen o c).dpt = s.dpt ∧ (s.relayOpen o c).hbu = s.hbu ∧ (s.relayOpen o c).boc = s.boc ∧
      (s.relayOpen o c).adu = s.adu ∧ (s.relayOpen o c).jnu = s.jnu ∧ (s.relayOpen o c).draws = s.draws ∧
      (s.relayOpen o c).pending = s.pending := by
  unfold State.relayOpen; split <;> simp

@[simp] theorem State.relayOpcode_frame (s : State) (o : Byte) (c : Classed) :
    (s.relayOpcode o c).clock = s.clock ∧ (s.relayOpcode o c).load = s.load ∧ (s.relayOpcode o c).plan = s.plan ∧
      (s.relayOpcode o c).rails = s.rails ∧ (s.relayOpcode o c).eng = s.eng ∧ (s.relayOpcode o c).sense = s.sense ∧
      (s.relayOpcode o c).dpt = s.dpt ∧ (s.relayOpcode o c).hbu = s.hbu ∧ (s.relayOpcode o c).boc = s.boc ∧
      (s.relayOpcode o c).adu = s.adu ∧ (s.relayOpcode o c).jnu = s.jnu ∧ (s.relayOpcode o c).draws = s.draws ∧
      (s.relayOpcode o c).pending = s.pending := by
  unfold State.relayOpcode
  split
  · simp
  · split <;> simp

@[simp] theorem State.tenureOpcode_frame (s : State) (o : Byte) (c : Classed) (t : Tenure) :
    (s.tenureOpcode o c t).clock = s.clock ∧ (s.tenureOpcode o c t).load = s.load ∧
      (s.tenureOpcode o c t).plan = s.plan ∧ (s.tenureOpcode o c t).sense = s.sense ∧
      (s.tenureOpcode o c t).hbu = s.hbu ∧ (s.tenureOpcode o c t).draws = s.draws ∧
      (s.tenureOpcode o c t).pending = s.pending := by
  unfold State.tenureOpcode; split <;> simp

@[simp] theorem State.openXfer_frame (s : State) (k : FlashClass) (o : Byte) :
    (s.openXfer k o).clock = s.clock ∧ (s.openXfer k o).load = s.load ∧ (s.openXfer k o).plan = s.plan ∧
      (s.openXfer k o).sense = s.sense ∧ (s.openXfer k o).hbu = s.hbu ∧ (s.openXfer k o).draws = s.draws ∧
      (s.openXfer k o).pending = s.pending := by
  simp only [State.openXfer]; (repeat' split) <;> simp

@[simp] theorem State.reportClipped_frame (s : State) (c : Command) :
    (s.reportClipped c).clock = s.clock ∧ (s.reportClipped c).load = s.load ∧ (s.reportClipped c).plan = s.plan ∧
      (s.reportClipped c).rails = s.rails ∧ (s.reportClipped c).eng = s.eng ∧ (s.reportClipped c).sense = s.sense ∧
      (s.reportClipped c).dpt = s.dpt ∧ (s.reportClipped c).hbu = s.hbu ∧ (s.reportClipped c).boc = s.boc ∧
      (s.reportClipped c).flb = s.flb ∧ (s.reportClipped c).adu = s.adu ∧ (s.reportClipped c).draws = s.draws ∧
      (s.reportClipped c).pending = s.pending := by
  unfold State.reportClipped; split <;> simp

@[simp] theorem State.openTenure_frame (s : State) (c : Command) :
    (s.openTenure c).clock = s.clock ∧ (s.openTenure c).load = s.load ∧ (s.openTenure c).plan = s.plan ∧
      (s.openTenure c).rails = s.rails ∧ (s.openTenure c).eng = s.eng ∧ (s.openTenure c).sense = s.sense ∧
      (s.openTenure c).dpt = s.dpt ∧ (s.openTenure c).hbu = s.hbu ∧ (s.openTenure c).boc = s.boc ∧
      (s.openTenure c).draws = s.draws ∧ (s.openTenure c).pending = s.pending := by
  simp [State.openTenure]

@[simp] theorem State.endIntake_frame (s : State) (o : Byte) (k : FlashClass) (u : Word32) (b : List Byte) :
    (s.endIntake o k u b).clock = s.clock ∧ (s.endIntake o k u b).load = s.load ∧
      (s.endIntake o k u b).plan = s.plan ∧ (s.endIntake o k u b).rails = s.rails ∧
      (s.endIntake o k u b).eng = s.eng ∧ (s.endIntake o k u b).sense = s.sense ∧ (s.endIntake o k u b).dpt = s.dpt ∧
      (s.endIntake o k u b).hbu = s.hbu ∧ (s.endIntake o k u b).boc = s.boc ∧ (s.endIntake o k u b).draws = s.draws ∧
      (s.endIntake o k u b).pending = s.pending := by
  simp only [State.endIntake]; split <;> simp

@[simp] theorem State.endXfer_frame (s : State) (x : Xfer) (b : List Byte) :
    (s.endXfer x b).clock = s.clock ∧ (s.endXfer x b).load = s.load ∧ (s.endXfer x b).plan = s.plan ∧
      (s.endXfer x b).rails = s.rails ∧ (s.endXfer x b).eng = s.eng ∧ (s.endXfer x b).sense = s.sense ∧
      (s.endXfer x b).dpt = s.dpt ∧ (s.endXfer x b).hbu = s.hbu ∧ (s.endXfer x b).boc = s.boc ∧
      (s.endXfer x b).draws = s.draws ∧ (s.endXfer x b).pending = s.pending := by
  cases x <;> simp [State.endXfer]

@[simp] theorem State.closeXfer_frame (s : State) (o : Option Byte) (b : List Byte) :
    (s.closeXfer o b).clock = s.clock ∧ (s.closeXfer o b).load = s.load ∧ (s.closeXfer o b).plan = s.plan ∧
      (s.closeXfer o b).sense = s.sense ∧ (s.closeXfer o b).hbu = s.hbu ∧ (s.closeXfer o b).draws = s.draws ∧
      (s.closeXfer o b).pending = s.pending := by
  unfold State.closeXfer; (repeat' split) <;> simp

@[simp] theorem State.linkEvent_frame (s : State) (k : FlashClass) (p : Span) (o : Byte) (b : List Byte) :
    (s.linkEvent k p o b).clock = s.clock ∧ (s.linkEvent k p o b).load = s.load ∧
      (s.linkEvent k p o b).plan = s.plan ∧ (s.linkEvent k p o b).sense = s.sense ∧
      (s.linkEvent k p o b).hbu = s.hbu ∧ (s.linkEvent k p o b).draws = s.draws ∧
      (s.linkEvent k p o b).pending = s.pending := by
  cases p <;> simp only [State.linkEvent]
  · split <;> simp
  all_goals simp

@[simp] theorem State.opEnd_frame' (s : State) (f : InFlight) (b : Bool) :
    (s.opEnd f b).clock = s.clock ∧ (s.opEnd f b).load = s.load ∧ (s.opEnd f b).plan = s.plan ∧
      (s.opEnd f b).rails = s.rails ∧ (s.opEnd f b).eng = s.eng ∧ (s.opEnd f b).sense = s.sense ∧
      (s.opEnd f b).dpt = s.dpt ∧ (s.opEnd f b).hbu = s.hbu ∧ (s.opEnd f b).adu = s.adu ∧
      (s.opEnd f b).draws = s.draws ∧ (s.opEnd f b).pending = s.pending := by
  obtain ⟨j, g, v, e⟩ := s.opEnd_frame f b
  simp [e]

@[simp] theorem State.startOperation_frame (s : State) (i : Issue) :
    (s.startOperation i).clock = s.clock ∧ (s.startOperation i).load = s.load ∧ (s.startOperation i).plan = s.plan ∧
      (s.startOperation i).rails = s.rails ∧ (s.startOperation i).eng = s.eng ∧ (s.startOperation i).sense = s.sense ∧
      (s.startOperation i).dpt = s.dpt ∧ (s.startOperation i).hbu = s.hbu ∧ (s.startOperation i).boc = s.boc ∧
      (s.startOperation i).adu = s.adu ∧ (s.startOperation i).jnu = s.jnu ∧ (s.startOperation i).draws = s.draws ∧
      (s.startOperation i).pending = s.pending := by
  simp [State.startOperation]

@[simp] theorem State.startPoll_frame (s : State) :
    s.startPoll.clock = s.clock ∧ s.startPoll.load = s.load ∧ s.startPoll.plan = s.plan ∧
      s.startPoll.rails = s.rails ∧ s.startPoll.eng = s.eng ∧ s.startPoll.sense = s.sense ∧ s.startPoll.dpt = s.dpt ∧
      s.startPoll.hbu = s.hbu ∧ s.startPoll.boc = s.boc ∧ s.startPoll.adu = s.adu ∧ s.startPoll.jnu = s.jnu ∧
      s.startPoll.draws = s.draws ∧ s.startPoll.pending = s.pending := by
  simp [State.startPoll]

@[simp] theorem State.pollByte_frame (s : State) (b : Byte) :
    (s.pollByte b).clock = s.clock ∧ (s.pollByte b).load = s.load ∧ (s.pollByte b).plan = s.plan ∧
      (s.pollByte b).rails = s.rails ∧ (s.pollByte b).eng = s.eng ∧ (s.pollByte b).sense = s.sense ∧
      (s.pollByte b).dpt = s.dpt ∧ (s.pollByte b).hbu = s.hbu ∧ (s.pollByte b).boc = s.boc ∧
      (s.pollByte b).adu = s.adu ∧ (s.pollByte b).jnu = s.jnu ∧ (s.pollByte b).draws = s.draws ∧
      (s.pollByte b).pending = s.pending := by
  simp [State.pollByte]

@[simp] theorem State.pollActs_frame (s : State) (b : Byte) :
    (s.pollActs b).clock = s.clock ∧ (s.pollActs b).load = s.load ∧ (s.pollActs b).plan = s.plan ∧
      (s.pollActs b).rails = s.rails ∧ (s.pollActs b).eng = s.eng ∧ (s.pollActs b).sense = s.sense ∧
      (s.pollActs b).dpt = s.dpt ∧ (s.pollActs b).hbu = s.hbu ∧ (s.pollActs b).adu = s.adu ∧
      (s.pollActs b).draws = s.draws ∧ (s.pollActs b).pending = s.pending := by
  unfold State.pollActs; (repeat' split) <;> simp

@[simp] theorem State.stuckRecord_frame (s : State) (f : InFlight) :
    (s.stuckRecord f).clock = s.clock ∧ (s.stuckRecord f).load = s.load ∧ (s.stuckRecord f).plan = s.plan ∧
      (s.stuckRecord f).rails = s.rails ∧ (s.stuckRecord f).eng = s.eng ∧ (s.stuckRecord f).sense = s.sense ∧
      (s.stuckRecord f).dpt = s.dpt ∧ (s.stuckRecord f).hbu = s.hbu ∧ (s.stuckRecord f).boc = s.boc ∧
      (s.stuckRecord f).flb = s.flb ∧ (s.stuckRecord f).adu = s.adu ∧ (s.stuckRecord f).draws = s.draws ∧
      (s.stuckRecord f).pending = s.pending := by
  simp [State.stuckRecord]

@[simp] theorem State.stepEvent_frame (s : State) (k : StepKind) :
    (s.stepEvent k).clock = s.clock ∧ (s.stepEvent k).load = s.load ∧ (s.stepEvent k).plan = s.plan ∧
      (s.stepEvent k).sense = s.sense ∧ (s.stepEvent k).hbu = s.hbu ∧ (s.stepEvent k).draws = s.draws ∧
      (s.stepEvent k).pending = s.pending := by
  unfold State.stepEvent; split <;> simp

@[simp] theorem State.auxSeen_frame (s : State) (i : Fin 2) (a : Bool) :
    (s.auxSeen i a).clock = s.clock ∧ (s.auxSeen i a).load = s.load ∧ (s.auxSeen i a).plan = s.plan ∧
      (s.auxSeen i a).rails = s.rails ∧ (s.auxSeen i a).sense = s.sense ∧ (s.auxSeen i a).dpt = s.dpt ∧
      (s.auxSeen i a).hbu = s.hbu ∧ (s.auxSeen i a).boc = s.boc ∧ (s.auxSeen i a).flb = s.flb ∧
      (s.auxSeen i a).adu = s.adu ∧ (s.auxSeen i a).jnu = s.jnu ∧ (s.auxSeen i a).draws = s.draws ∧
      (s.auxSeen i a).pending = s.pending := by
  unfold State.auxSeen; (repeat' split) <;> simp

@[simp] theorem State.requestTaken_frame (s : State) (r : Request) (a : Bool) :
    (s.requestTaken r a).clock = s.clock ∧ (s.requestTaken r a).load = s.load ∧ (s.requestTaken r a).plan = s.plan ∧
      (s.requestTaken r a).rails = s.rails ∧ (s.requestTaken r a).dpt = s.dpt ∧ (s.requestTaken r a).hbu = s.hbu ∧
      (s.requestTaken r a).boc = s.boc ∧ (s.requestTaken r a).flb = s.flb ∧ (s.requestTaken r a).adu = s.adu ∧
      (s.requestTaken r a).jnu = s.jnu ∧ (s.requestTaken r a).draws = s.draws ∧
      (s.requestTaken r a).pending = s.pending := by
  cases r <;> simp [State.requestTaken]

@[simp] theorem State.acOkLost_frame (s : State) :
    s.acOkLost.clock = s.clock ∧ s.acOkLost.load = s.load ∧ s.acOkLost.plan = s.plan ∧ s.acOkLost.hbu = s.hbu ∧
      s.acOkLost.draws = s.draws ∧ s.acOkLost.pending = s.pending := by
  simp [State.acOkLost]

@[simp] theorem State.acOkBack_frame (s : State) :
    s.acOkBack.clock = s.clock ∧ s.acOkBack.load = s.load ∧ s.acOkBack.plan = s.plan ∧ s.acOkBack.hbu = s.hbu ∧
      s.acOkBack.draws = s.draws ∧ s.acOkBack.pending = s.pending := by
  simp [State.acOkBack]

@[simp] theorem State.reachScan_frame (s : State) :
    s.reachScan.load = s.load ∧ s.reachScan.plan = s.plan ∧ s.reachScan.rails = s.rails ∧ s.reachScan.eng = s.eng ∧
      s.reachScan.dpt = s.dpt ∧ s.reachScan.hbu = s.hbu ∧ s.reachScan.boc = s.boc ∧ s.reachScan.flb = s.flb ∧
      s.reachScan.adu = s.adu ∧ s.reachScan.jnu = s.jnu ∧ s.reachScan.draws = s.draws ∧
      s.reachScan.pending = s.pending := by
  simp [State.reachScan]

@[simp] theorem State.takeCodes_frame (s : State) (a : BitVec 12) (b : BitVec 12) (c : BitVec 12) (d : BitVec 12) :
    (s.takeCodes a b c d).clock = s.clock ∧ (s.takeCodes a b c d).load = s.load ∧
      (s.takeCodes a b c d).plan = s.plan ∧ (s.takeCodes a b c d).rails = s.rails ∧
      (s.takeCodes a b c d).eng = s.eng ∧ (s.takeCodes a b c d).dpt = s.dpt ∧ (s.takeCodes a b c d).hbu = s.hbu ∧
      (s.takeCodes a b c d).boc = s.boc ∧ (s.takeCodes a b c d).flb = s.flb ∧ (s.takeCodes a b c d).adu = s.adu ∧
      (s.takeCodes a b c d).jnu = s.jnu ∧ (s.takeCodes a b c d).draws = s.draws ∧
      (s.takeCodes a b c d).pending = s.pending := by
  simp [State.takeCodes]

@[simp] theorem State.scanOffers_frame (s : State) :
    s.scanOffers.clock = s.clock ∧ s.scanOffers.load = s.load ∧ s.scanOffers.plan = s.plan ∧
      s.scanOffers.rails = s.rails ∧ s.scanOffers.eng = s.eng ∧ s.scanOffers.dpt = s.dpt ∧ s.scanOffers.boc = s.boc ∧
      s.scanOffers.flb = s.flb ∧ s.scanOffers.adu = s.adu ∧ s.scanOffers.jnu = s.jnu ∧ s.scanOffers.draws = s.draws ∧
      s.scanOffers.pending = s.pending := by
  simp [State.scanOffers]

@[simp] theorem State.endMs_frame (s : State) :
    s.endMs.load = s.load ∧ s.endMs.plan = s.plan ∧ s.endMs.rails = s.rails ∧ s.endMs.eng = s.eng ∧
      s.endMs.dpt = s.dpt ∧ s.endMs.hbu = s.hbu ∧ s.endMs.boc = s.boc ∧ s.endMs.flb = s.flb ∧ s.endMs.adu = s.adu ∧
      s.endMs.jnu = s.jnu ∧ s.endMs.draws = s.draws ∧ s.endMs.pending = s.pending := by
  simp [State.endMs]

@[simp] theorem State.causeEnds_frame (s : State) (e : ResetInput) :
    (s.causeEnds e).load = s.load ∧ (s.causeEnds e).plan = s.plan ∧ (s.causeEnds e).rails = s.rails ∧
      (s.causeEnds e).eng = s.eng ∧ (s.causeEnds e).dpt = s.dpt ∧ (s.causeEnds e).hbu = s.hbu ∧
      (s.causeEnds e).boc = s.boc ∧ (s.causeEnds e).flb = s.flb ∧ (s.causeEnds e).adu = s.adu ∧
      (s.causeEnds e).jnu = s.jnu ∧ (s.causeEnds e).draws = s.draws ∧ (s.causeEnds e).pending = s.pending := by
  cases e <;> simp only [State.causeEnds] <;> split <;> simp

@[simp] theorem State.reachTimer_frame (s : State) (t : Timer) :
    (s.reachTimer t).load = s.load ∧ (s.reachTimer t).plan = s.plan ∧ (s.reachTimer t).rails = s.rails ∧
      (s.reachTimer t).eng = s.eng ∧ (s.reachTimer t).sense = s.sense ∧ (s.reachTimer t).dpt = s.dpt ∧
      (s.reachTimer t).hbu = s.hbu ∧ (s.reachTimer t).boc = s.boc ∧ (s.reachTimer t).flb = s.flb ∧
      (s.reachTimer t).adu = s.adu ∧ (s.reachTimer t).jnu = s.jnu ∧ (s.reachTimer t).draws = s.draws ∧
      (s.reachTimer t).pending = s.pending := by
  cases t <;> simp [State.reachTimer]

@[simp] theorem State.resetBlocks_frame (s : State) :
    s.resetBlocks.clock = s.clock ∧ s.resetBlocks.draws = s.draws ∧ s.resetBlocks.pending = s.pending := by
  exact ⟨rfl, rfl, rfl⟩

@[simp] theorem State.supplyFails_frame (s : State) :
    s.supplyFails.clock = s.clock ∧ s.supplyFails.draws = s.draws ∧ s.supplyFails.pending = s.pending := by
  exact ⟨rfl, rfl, rfl⟩

@[simp] theorem State.applyPlan_frame (s : State) (j : Journal) (v : Nat) :
    (s.applyPlan j v).draws = s.draws ∧ (s.applyPlan j v).pending = s.pending := by
  simp only [State.applyPlan]
  split
  · exact ⟨rfl, rfl⟩
  · simp [State.applyBlocks]

@[simp] theorem State.fallBack_frame (s : State) (v : Nat) :
    (s.fallBack v).draws = s.draws ∧ (s.fallBack v).pending = s.pending := by
  simp [State.fallBack]

@[simp] theorem State.prepareImage_frame (s : State) (v : Nat) :
    (s.prepareImage v).draws = s.draws ∧ (s.prepareImage v).pending = s.pending := by
  simp only [State.prepareImage]; split <;> simp

/-- Settles O2: every command has one arm, whose value is a next state, and the operations of the arms leave the queue
as it is. -/
theorem everyCommandAnswersNext : Obligations.EveryCommandAnswersNext := by
  intro c s
  cases c
  all_goals refine ⟨_, rfl, ?_⟩
  case partReset cause => cases cause <;> simp only <;> split <;> rfl
  case partResetRelease =>
    simp only
    (repeat' split) <;> simp [State.release]
  case flashWaitStatusRead | planHeaderReadEnd | planBodyReadEnd | journalScanSectorRead | scanCompletion =>
    simp only
    (repeat' split) <;> simp
  all_goals (repeat' split) <;> simp

/-- Settles O14: before plan application alone there is a release, a wait or a read of the load; no other command writes
the plan or the load. -/
theorem planIsFixedAfterApplication : Obligations.PlanIsFixedAfterApplication := by
  intro c s t happlied noReset h
  have phase : s.load.phase = some .applied := by simpa [State.applied] using happlied
  cases c
  case partReset cause => exact absurd rfl (noReset cause)
  all_goals cases h
  case partResetRelease => simp [State.released, phase]
  case scanCompletion =>
    simp only
    (repeat' split) <;> simp
  all_goals (repeat' split) <;> simp_all

/-- Where part reset is released after the plan is applied or not, it was released by it at no earlier count. -/
theorem State.applyPlan_time (s : State) (j : Journal) (v : Nat) (h : (s.applyPlan j v).released = true) :
    (s.applyPlan j v).clock = s.clock ∧ (s.applyPlan j v).sense.uptime = s.sense.uptime := by
  revert h
  simp only [State.applyPlan]
  split
  · exact nofun
  · simp [State.applyBlocks, Sense.atApplication]

theorem State.fallBack_time (s : State) (v : Nat) (h : (s.fallBack v).released = true) :
    (s.fallBack v).clock = s.clock ∧ (s.fallBack v).sense.uptime = s.sense.uptime :=
  State.applyPlan_time _ _ _ h

theorem State.prepareImage_time (s : State) (v : Nat) (h : (s.prepareImage v).released = true) :
    (s.prepareImage v).clock = s.clock ∧ (s.prepareImage v).sense.uptime = s.sense.uptime := by
  revert h
  simp only [State.prepareImage]
  split
  · simp
  · exact State.applyPlan_time _ _ _

theorem le_nextMoment (clock due : Nat) : clock ≤ nextMoment clock due Config.countsPerScan := by
  unfold nextMoment Config.countsPerScan
  split <;> omega

/-- Where the filter of an input changes, the clock has reached the end of its filter time, and uptime is as it was. -/
@[simp] theorem State.pgFiltered_time (s : State) (ch : Fin 12) (p : RawPin) :
    s.clock ≤ (s.pgFiltered ch p).clock ∧ (s.pgFiltered ch p).sense.uptime = s.sense.uptime := by
  simp [State.pgFiltered, State.modFilters]

@[simp] theorem State.auxFiltered_time (s : State) (i : Fin 2) (p : RawPin) (a : Bool) :
    s.clock ≤ (s.auxFiltered i p a).clock ∧ (s.auxFiltered i p a).sense.uptime = s.sense.uptime := by
  simp [State.auxFiltered]

@[simp] theorem State.requestFiltered_time (s : State) (r : Request) (p : RawPin) :
    s.clock ≤ (s.requestFiltered r p).clock ∧ (s.requestFiltered r p).sense.uptime = s.sense.uptime := by
  cases r <;> simp [State.requestFiltered, State.modFilters]

@[simp] theorem State.acOkFiltered_time (s : State) (p : RawPin) :
    s.clock ≤ (s.acOkFiltered p).clock ∧ (s.acOkFiltered p).sense.uptime = s.sense.uptime := by
  simp [State.acOkFiltered, State.modFilters]

@[simp] theorem State.reachTimer_time (s : State) (t : Timer) : s.clock ≤ (s.reachTimer t).clock := by
  cases t <;> simp [State.reachTimer]

/-- The bus-floor check writes its state, its count and the collapse it delivers alone (R61). -/
@[simp] theorem Sense.busFloor_frame (m : Sense) (floor vbus : Nat) :
    (m.busFloor floor vbus).uptime = m.uptime ∧ (m.busFloor floor vbus).dim = m.dim ∧
      (m.busFloor floor vbus).ibusRing = m.ibusRing ∧ (m.busFloor floor vbus).dipHeld = m.dipHeld := by
  unfold Sense.busFloor
  (repeat' split) <;> simp

@[simp] theorem State.scanOffers_time (s : State) : s.scanOffers.sense.uptime = s.sense.uptime := by
  simp [State.scanOffers]

@[simp] theorem State.takeCodes_time (s : State) (a b c d : BitVec 12) :
    (s.takeCodes a b c d).sense.uptime = s.sense.uptime := rfl

@[simp] theorem State.reachScan_time (s : State) :
    s.clock ≤ s.reachScan.clock ∧ s.reachScan.sense.uptime = s.sense.uptime :=
  ⟨le_nextMoment _ _, rfl⟩

@[simp] theorem State.requestTaken_uptime (s : State) (r : Request) (a : Bool) :
    (s.requestTaken r a).sense.uptime = s.sense.uptime := by
  cases r <;> simp [State.requestTaken]

/-- What the loss and the return of AC_OK write of the measurements (R59, R60). -/
@[simp] theorem State.acOkLost_sense (s : State) :
    s.acOkLost.sense = { s.sense with acOk := false, dipSince := some s.clock, dipHeld := 0 } := by
  simp [State.acOkLost]

@[simp] theorem State.acOkBack_sense (s : State) :
    s.acOkBack.sense = { s.sense with acOk := true, dipSince := none, dipHeld := s.dipCount } := by
  simp [State.acOkBack]

/-- The edges and steady levels of DIM_IN write the measurement of DIM_IN alone (R63 to R65). -/
theorem State.dimRising_sense (s : State) : ∃ d, s.dimRising.sense = { s.sense with dim := d } := by
  simp only [State.dimRising]
  split
  · exact ⟨_, rfl⟩
  · exact ⟨_, by simp; rfl⟩
  · exact ⟨_, by simp; rfl⟩
  all_goals exact ⟨_, rfl⟩

theorem State.dimFalling_sense (s : State) : ∃ d, s.dimFalling.sense = { s.sense with dim := d } := by
  simp only [State.dimFalling]
  split <;> exact ⟨_, rfl⟩

theorem State.dimBecomesSteady_sense (s : State) : ∃ d, s.dimBecomesSteady.sense = { s.sense with dim := d } :=
  ⟨_, by simp [State.dimBecomesSteady]; rfl⟩

/-- Settles O15: part reset aside, a command brings the clock to a time it has not reached or leaves it, and uptime is
written by UPTIME_TICK alone. -/
theorem timeGoesForward : Obligations.TimeGoesForward := by
  intro c s t running after h
  have same {u : State} (h : u.clock = s.clock ∧ u.sense.uptime = s.sense.uptime) {p : Prop} :
      s.clock ≤ u.clock ∧ (p → u.sense.uptime = s.sense.uptime) := ⟨h.1.ge, fun _ => h.2⟩
  cases c
  all_goals cases h
  case partReset cause =>
    revert after
    cases cause <;> simp only <;> split
    · exact fun after => (Bool.false_ne_true after).elim
    · exact fun _ => same ⟨rfl, rfl⟩
    · exact fun after => (Bool.false_ne_true after).elim
    · exact fun _ => same ⟨rfl, rfl⟩
  case partResetRelease => simp [running]
  case planHeaderReadEnd =>
    revert after
    simp only
    split
    · split
      · exact fun _ => same ⟨rfl, rfl⟩
      · intro after
        have time := State.fallBack_time _ _ after
        exact same time
    · exact fun _ => same ⟨rfl, rfl⟩
  case planBodyReadEnd =>
    revert after
    simp only
    split
    · split
      · intro after
        have time := State.prepareImage_time _ _ after
        exact same time
      · intro after
        have time := State.fallBack_time _ _ after
        exact same time
    · exact fun _ => same ⟨rfl, rfl⟩
  case journalScanSectorRead =>
    revert after
    simp only
    split
    · split
      · exact fun _ => same ⟨rfl, rfl⟩
      · intro after
        have time := State.applyPlan_time _ _ _ after
        exact same time
    · exact fun _ => same ⟨rfl, rfl⟩
  case flashWaitStatusRead =>
    simp only
    (repeat' split) <;> simp <;> omega
  case scanCompletion =>
    simp only
    (repeat' split) <;> simp
  case uptimeTick =>
    refine ⟨?_, fun other => absurd rfl other⟩
    split <;> simp [State.endMs]
  case dimInRisingEdge n =>
    obtain ⟨d, edge⟩ := (s.reach n).dimRising_sense
    split <;> simp [edge]
  case dimInFallingEdge n =>
    obtain ⟨d, edge⟩ := (s.reach n).dimFalling_sense
    split <;> simp [edge]
  case dimInSteady =>
    obtain ⟨d, steady⟩ := (s.reach (s.sense.dim.lastEdge + steadyCounts)).dimBecomesSteady_sense
    split <;> simp [steady]
  all_goals (repeat' split) <;> simp

end Sys2Proof.Machine

namespace Sys2Proof.Machine

/-! ## The sizes of the blocks and the rules of DIM_OUT -/

/-! ### The cap and the descent claim through the engine's operations -/

@[simp] theorem State.driveLine_eng (s : State) (l : Fin 6) (a : Bool) :
    (s.driveLine l a).eng.cap = s.eng.cap ∧ (s.driveLine l a).eng.descent = s.eng.descent := by
  unfold State.driveLine; (repeat' split) <;> simp

@[simp] theorem State.lockBoard_eng (s : State) :
    s.lockBoard.eng.cap = s.eng.cap ∧ s.lockBoard.eng.descent = s.eng.descent := by
  simp [State.lockBoard]

@[simp] theorem State.lockPanel_eng (s : State) :
    s.lockPanel.eng.cap = s.eng.cap ∧ s.lockPanel.eng.descent = s.eng.descent := by
  simp [State.lockPanel]

@[simp] theorem State.lockBoth_eng (s : State) :
    s.lockBoth.eng.cap = s.eng.cap ∧ s.lockBoth.eng.descent = s.eng.descent := by
  simp [State.lockBoth]

@[simp] theorem State.takeClaims_eng (s : State) :
    s.takeClaims.eng.cap = s.eng.cap ∧ s.takeClaims.eng.descent = s.eng.descent := by
  unfold State.takeClaims; (repeat' split) <;> simp

@[simp] theorem State.seqEnd_eng (s : State) :
    s.seqEnd.eng.cap = s.eng.cap ∧ s.seqEnd.eng.descent = s.eng.descent := by
  simp [State.seqEnd, Engine.idled]

@[simp] theorem State.seqComplete_eng (s : State) (n : SlotName) :
    (s.seqComplete n).eng.cap = s.eng.cap ∧ (s.seqComplete n).eng.descent = s.eng.descent := by
  cases n <;> simp [State.seqComplete, Engine.domainsComplete, Engine.idled]

@[simp] theorem State.suspend_eng (s : State) :
    s.suspend.eng.cap = s.eng.cap ∧ s.suspend.eng.descent = s.eng.descent := by
  simp [State.suspend]

@[simp] theorem State.nextStep_eng (s : State) (n : SlotName) :
    (s.nextStep n).eng.cap = s.eng.cap ∧ (s.nextStep n).eng.descent = s.eng.descent := by
  unfold State.nextStep; (repeat' split) <;> simp

@[simp] theorem State.boundary_eng (s : State) :
    s.boundary.eng.cap = s.eng.cap ∧ s.boundary.eng.descent = s.eng.descent := by
  simp only [State.boundary]; (repeat' split) <;> simp

@[simp] theorem State.stepDone_eng (s : State) :
    s.stepDone.eng.cap = s.eng.cap ∧ s.stepDone.eng.descent = s.eng.descent := by
  simp [State.stepDone]

@[simp] theorem State.lockForFailure_eng (s : State) (n : SlotName) :
    (s.lockForFailure n).eng.cap = s.eng.cap ∧ (s.lockForFailure n).eng.descent = s.eng.descent := by
  cases n <;> simp [State.lockForFailure]

@[simp] theorem State.stepFail_eng (s : State) (c : FailCause) :
    (s.stepFail c).eng.cap = s.eng.cap ∧ (s.stepFail c).eng.descent = s.eng.descent := by
  simp only [State.stepFail]; (repeat' split) <;> simp

@[simp] theorem State.endOnAnswer_eng (s : State) (ch : Fin 12) (a : Answer) :
    (s.endOnAnswer ch a).eng.cap = s.eng.cap ∧ (s.endOnAnswer ch a).eng.descent = s.eng.descent := by
  cases a <;> simp [State.endOnAnswer]

@[simp] theorem State.answerFrom_eng (s : State) (ch : Fin 12) (a : Answer) :
    (s.answerFrom ch a).eng.cap = s.eng.cap ∧ (s.answerFrom ch a).eng.descent = s.eng.descent := by
  unfold State.answerFrom; (repeat' split) <;> simp

@[simp] theorem State.seqStart_eng (s : State) (n : SlotName) :
    (s.seqStart n).eng.cap = s.eng.cap ∧ (s.seqStart n).eng.descent = s.eng.descent := by
  cases n <;> simp only [State.seqStart, Engine.domainsBegin] <;> split <;> simp

@[simp] theorem State.seqBegin_eng (s : State) (n : SlotName) :
    (s.seqBegin n).eng.cap = s.eng.cap ∧ (s.seqBegin n).eng.descent = s.eng.descent := by
  cases n <;> simp only [State.seqBegin] <;> (repeat' split) <;> simp

@[simp] theorem State.dropStep_eng (s : State) :
    s.dropStep.eng.cap = s.eng.cap ∧ s.dropStep.eng.descent = s.eng.descent := by
  unfold State.dropStep; (repeat' split) <;> simp

@[simp] theorem State.preempt_eng (s : State) :
    s.preempt.eng.cap = s.eng.cap ∧ s.preempt.eng.descent = s.eng.descent := by
  simp [State.preempt]

@[simp] theorem State.placeTrip_eng (s : State) (o : ClaimOrigin) :
    (s.placeTrip o).eng.cap = s.eng.cap ∧ (s.placeTrip o).eng.descent = s.eng.descent := by
  unfold State.placeTrip; (repeat' split) <;> simp

@[simp] theorem State.markClaim_eng (s : State) (d : Domain) :
    (s.markClaim d).eng.cap = s.eng.cap ∧ (s.markClaim d).eng.descent = s.eng.descent := by
  cases d <;> simp [State.markClaim]

@[simp] theorem State.performLine_eng (s : State) :
    s.performLine.eng.cap = s.eng.cap ∧ s.performLine.eng.descent = s.eng.descent := by
  unfold State.performLine; (repeat' split) <;> simp

@[simp] theorem State.lineStep_eng (s : State) (k : StepKind) :
    (s.lineStep k).eng.cap = s.eng.cap ∧ (s.lineStep k).eng.descent = s.eng.descent := by
  simp only [State.lineStep]; (repeat' split) <;> simp

@[simp] theorem State.orderTaken_eng (s : State) (ch : Fin 12) (st : ChanStep) :
    (s.orderTaken ch st).eng.cap = s.eng.cap ∧ (s.orderTaken ch st).eng.descent = s.eng.descent := by
  simp only [State.orderTaken]; (repeat' split) <;> simp

@[simp] theorem State.awaitStep_eng (s : State) (i : Fin 2) (a : Bool) (ms : Nat) :
    (s.awaitStep i a ms).eng.cap = s.eng.cap ∧ (s.awaitStep i a ms).eng.descent = s.eng.descent := by
  unfold State.awaitStep; (repeat' split) <;> simp

@[simp] theorem State.quiesceStep_eng (s : State) :
    s.quiesceStep.eng.cap = s.eng.cap ∧ s.quiesceStep.eng.descent = s.eng.descent := by
  simp only [State.quiesceStep]; (repeat' split) <;> simp

@[simp] theorem State.rejudge_eng (s : State) :
    s.rejudge.eng.cap = s.eng.cap ∧ s.rejudge.eng.descent = s.eng.descent := by
  unfold State.rejudge; (repeat' split) <;> simp

@[simp] theorem State.releaseHold_eng (s : State) :
    s.releaseHold.eng.cap = s.eng.cap ∧ s.releaseHold.eng.descent = s.eng.descent := by
  simp [State.releaseHold]

@[simp] theorem State.auxSeen_eng (s : State) (i : Fin 2) (a : Bool) :
    (s.auxSeen i a).eng.cap = s.eng.cap ∧ (s.auxSeen i a).eng.descent = s.eng.descent := by
  unfold State.auxSeen; (repeat' split) <;> simp

@[simp] theorem State.engineFault_eng (s : State) (e : RailEntry) :
    (s.engineFault e).eng.cap = s.eng.cap ∧ (s.engineFault e).eng.descent = s.eng.descent := by
  unfold State.engineFault; (repeat' split) <;> simp

end Sys2Proof.Machine

namespace Sys2Proof.Machine

/-! ### What the shared operations carry over -/

/-- The journal's queue and its lost count stay within their sizes (R167). -/
def Journal.Fits (j : Journal) : Prop := j.queue.length ≤ 8 ∧ j.lost ≤ 255

/-- The history, the storm count and the shed level stay within their sizes (R93 to R95). -/
def BrownOut.Fits (b : BrownOut) : Prop := b.history.length ≤ 16 ∧ b.stormFound ≤ 16 ∧ b.shedLevel ≤ 3

/-- What every operation that the blocks share carries over from one state to another: the sizes of the journal's and
the controller's lists and counters, and the rules of DIM_OUT. -/
structure Carries (s t : State) : Prop where
  queue : s.jnu.Fits → t.jnu.Fits
  figures : s.boc.Fits → t.boc.Fits
  dim : DimSafe s → DimSafe t

theorem Carries.refl (s : State) : Carries s s := ⟨id, id, id⟩

theorem Carries.trans {s t u : State} (h : Carries s t) (g : Carries t u) : Carries s u :=
  ⟨g.queue ∘ h.queue, g.figures ∘ h.figures, g.dim ∘ h.dim⟩

/-- DIM_OUT's rules speak of the load phase, the shed caps, the applied cap and duty, the sequence cap, the shed level and
the measurement alone. -/
theorem DimSafe.of_same {s t : State} (load : t.load = s.load) (plan : t.plan = s.plan) (dpt : t.dpt = s.dpt)
    (cap : t.eng.cap = s.eng.cap) (level : t.boc.shedLevel = s.boc.shedLevel) (dim : t.sense.dim = s.sense.dim)
    (h : DimSafe s) : DimSafe t := by
  have applied : t.applied = s.applied := by simp [State.applied, load]
  have target : t.dimTarget = s.dimTarget := by simp [State.dimTarget, plan, cap, level]
  constructor
  · rw [applied, dpt, cap]; exact h.dark
  · rw [applied, dpt, target]; exact h.target
  · rw [dpt]; exact h.cap
  · rw [dpt, dim]; exact h.measured
  · rw [dpt, dim]; exact h.waiting
  · rw [dim]; exact h.high

/-- An operation that leaves the measurements, DIM_OUT, the sequence cap and the shed level as they are. -/
theorem Carries.of_frame {s t : State}
    (frame : t.load = s.load ∧ t.plan = s.plan ∧ t.sense = s.sense ∧ t.dpt = s.dpt ∧ t.eng.cap = s.eng.cap)
    (queue : s.jnu.Fits → t.jnu.Fits) (level : t.boc.shedLevel = s.boc.shedLevel) (figures : s.boc.Fits → t.boc.Fits) :
    Carries s t := by
  obtain ⟨load, plan, sense, dpt, cap⟩ := frame
  exact ⟨queue, figures, .of_same load plan dpt cap level (by rw [sense])⟩

/-- An operation that leaves the journal and the controller as they are as well. -/
theorem Carries.of_same {s t : State}
    (frame : t.load = s.load ∧ t.plan = s.plan ∧ t.sense = s.sense ∧ t.dpt = s.dpt ∧ t.eng.cap = s.eng.cap ∧ t.jnu = s.jnu ∧
      t.boc = s.boc) : Carries s t := by
  obtain ⟨load, plan, sense, dpt, cap, jnu, boc⟩ := frame
  exact .of_frame ⟨load, plan, sense, dpt, cap⟩ (by rw [jnu]; exact id) (by rw [boc]) (by rw [boc]; exact id)

/-- A write of the journal. -/
theorem Carries.modJnu (s : State) (f : Journal → Journal) (h : s.jnu.Fits → (f s.jnu).Fits) : Carries s (s.modJnu f) :=
  .of_frame (by simp) h rfl id

/-- A write of the controller that keeps the shed level. -/
theorem Carries.modBoc (s : State) (f : BrownOut → BrownOut) (level : (f s.boc).shedLevel = s.boc.shedLevel)
    (h : s.boc.Fits → (f s.boc).Fits) : Carries s (s.modBoc f) :=
  .of_frame (by simp) id level h

/-- A write of the bridge. -/
theorem Carries.modFlb (s : State) (f : Bridge → Bridge) : Carries s (s.modFlb f) := .of_same (by simp)

/-- A write of the engine that keeps the sequence cap. -/
theorem Carries.modEng (s : State) (f : Engine → Engine) (h : (f s.eng).cap = s.eng.cap) : Carries s (s.modEng f) :=
  .of_same (by simp [h])

theorem State.addLost_carries (s : State) : Carries s s.addLost :=
  .modJnu s _ fun h => ⟨h.1, Nat.min_le_left _ _⟩

theorem State.offerRecord_carries (s : State) (b : RecordBody) : Carries s (s.offerRecord b) := by
  unfold State.offerRecord
  split
  · exact .refl s
  · split
    · rename_i room
      exact .modJnu s _ fun h => ⟨by simpa [Config.queueSlots] using room, h.2⟩
    · exact s.addLost_carries

theorem State.handed_carries (s : State) (r : Ring) (e : Bool) (k : WorkKind) : Carries s (s.handed r e k) :=
  .modJnu s _ fun h => ⟨h.1, Nat.zero_le _⟩

theorem State.survivalEnd_carries (s : State) : Carries s s.survivalEnd :=
  (Carries.modJnu s _ id).trans (.modBoc _ _ rfl id)

theorem State.survivalBegin_carries (s : State) : Carries s s.survivalBegin := by
  unfold State.survivalBegin
  split
  · exact (Carries.modJnu s _ id).trans (.modBoc _ _ rfl id)
  · exact s.survivalEnd_carries

theorem State.writeSurvival_carries (s : State) (r : Record) (g : Ring) (e : Bool) : Carries s (s.writeSurvival r g e) := by
  unfold State.writeSurvival
  exact ((s.handed_carries _ _ _).trans (.modJnu _ _ id)).trans (.modFlb _ _)

theorem State.survivalNoSpace_carries (s : State) : Carries s s.survivalNoSpace :=
  s.addLost_carries.trans (State.survivalEnd_carries _)

theorem State.survivalOverrun_carries (s : State) (f : InFlight) : Carries s (s.survivalOverrun f) :=
  (s.addLost_carries.trans (State.offerRecord_carries _ _)).trans (State.survivalEnd_carries _)

theorem State.survivalJudge_carries (s : State) (r : Record) : Carries s (s.survivalJudge r) := by
  unfold State.survivalJudge
  split
  · exact .modJnu s _ id
  · exact s.survivalNoSpace_carries

/-- A hand-over of the Journal Unit. -/
theorem State.handRecord_carries {s t : State} {r : Record} {k : WorkKind} {i : Issue} (h : s.handRecord r k = some (i, t)) :
    Carries s t := by
  unfold State.handRecord at h
  split at h
  · cases h
  · cases h; exact s.handed_carries _ _ _

theorem State.handHead_carries {s t : State} {i : Issue} (h : s.handHead = some (i, t)) : Carries s t := by
  unfold State.handHead at h
  split at h
  · cases h
  · exact State.handRecord_carries h

theorem State.handErase_carries {s t : State} {i : Issue} (h : s.handErase = some (i, t)) : Carries s t := by
  unfold State.handErase at h
  split at h
  · split at h
    · cases h; exact .modJnu s _ id
    · cases h
  · cases h

theorem State.survivalHand_carries (s : State) (r : Record) : Carries s (s.survivalHand r) := by
  unfold State.survivalHand
  split
  · exact s.survivalNoSpace_carries
  · split
    · exact s.writeSurvival_carries _ _ _
    · split
      · split
        · rename_i handed
          exact ((State.handRecord_carries handed).trans (.modJnu _ _ id)).trans (.modFlb _ _)
        · exact s.survivalNoSpace_carries
      · exact s.writeSurvival_carries _ _ _

theorem State.workEnd_carries (s : State) (b : Bool) : Carries s (s.workEnd b) := by
  unfold State.workEnd
  split
  · exact .refl s
  · exact .modJnu s _ fun h => ⟨(List.tail_sublist s.jnu.queue).length_le.trans h.1, h.2⟩
  · exact .modJnu s _ id
  · simp only
    split
    · exact (Carries.modJnu s _ id).trans (State.writeSurvival_carries _ _ _ _)
    · exact .modJnu s _ id
  · exact (Carries.modJnu s _ id).trans (.modFlb _ _)
  · exact (Carries.modJnu s _ id).trans (State.survivalEnd_carries _)

theorem State.takePiggyback_carries (s : State) (i : Issue) (b : Bool) : Carries s (s.takePiggyback i b) :=
  .of_same (by simp)

theorem State.closeTenure_carries (s : State) : Carries s s.closeTenure :=
  .of_same (by simp)

theorem State.setFailReport_carries (s : State) : Carries s s.setFailReport :=
  .of_same (by simp)

theorem State.offerPiggyback_carries (s : State) (n : Nat) (e : Bool) : Carries s (s.offerPiggyback n e) := by
  unfold State.offerPiggyback
  simp only
  split
  · exact (Carries.modFlb s _).trans (State.closeTenure_carries _)
  · split
    · rename_i handed
      split at handed
      · exact ((Carries.modFlb s _).trans (State.handHead_carries handed)).trans (State.takePiggyback_carries _ _ _)
      · cases handed
    · split
      · rename_i handed
        split at handed
        · exact ((Carries.modFlb s _).trans (State.handErase_carries handed)).trans (State.takePiggyback_carries _ _ _)
        · cases handed
      · exact (Carries.modFlb s _).trans (State.closeTenure_carries _)

theorem State.tenureAtEnd_carries (s : State) (f : InFlight) (b : Bool) : Carries s (s.tenureAtEnd f b) := by
  unfold State.tenureAtEnd
  split
  · exact .refl s
  · split
    · exact s.closeTenure_carries
    · exact s.setFailReport_carries.trans (State.closeTenure_carries _)
    · split
      · exact s.offerPiggyback_carries _ _
      · exact s.closeTenure_carries
    · exact s.closeTenure_carries
    · split
      · exact s.offerPiggyback_carries _ _
      · exact s.closeTenure_carries

theorem State.opEnd_carries (s : State) (f : InFlight) (b : Bool) : Carries s (s.opEnd f b) := by
  unfold State.opEnd
  simp only
  split
  · exact ((Carries.modFlb s _).trans (State.workEnd_carries _ b)).trans (State.tenureAtEnd_carries _ f b)
  · exact (Carries.modFlb s _).trans (State.tenureAtEnd_carries _ f b)

theorem State.fateAdmitted_carries (s : State) (c : Command) : Carries s (s.fateAdmitted c) :=
  .of_same (by simp)

theorem State.fateRefuse_carries (s : State) (b : Bool) : Carries s (s.fateRefuse b) :=
  .of_same (by simp)

theorem State.emptySlot_carries (s : State) : Carries s s.emptySlot :=
  .of_same (by simp)

theorem State.admitParked_carries (s : State) (c : Command) : Carries s (s.admitParked c) :=
  s.emptySlot_carries.trans (State.fateAdmitted_carries _ c)

theorem State.parkCommand_carries (s : State) (c : Command) : Carries s (s.parkCommand c) :=
  .of_same (by simp)

theorem State.refuseCommand_carries (s : State) (c : Command) (r : RefusalReason) : Carries s (s.refuseCommand c r) :=
  ((s.offerRecord_carries _).trans (State.emptySlot_carries _)).trans (State.fateRefuse_carries _ _)

theorem State.takeCommand_carries (s : State) (c : Command) : Carries s (s.takeCommand c) := by
  unfold State.takeCommand
  split
  · exact s.fateAdmitted_carries c
  · exact s.parkCommand_carries c
  · exact s.refuseCommand_carries c _

theorem State.parkedAtState_carries (s : State) : Carries s s.parkedAtState := by
  unfold State.parkedAtState
  split
  · exact .refl s
  · split
    · exact s.admitParked_carries _
    · exact s.refuseCommand_carries _ _
    · exact s.refuseCommand_carries _ _
    · exact s.refuseCommand_carries _ _
    all_goals exact .refl s

theorem State.aduTakes_carries (s : State) (b : Budget) : Carries s (s.aduTakes b) := by
  simp only [State.aduTakes]
  split
  · exact .of_same (by simp)
  · split
    · exact (Carries.of_same (by simp)).trans (State.admitParked_carries (s.modAdu fun a => { a with latest := _ }) _)
    · exact .of_same (by simp)

theorem State.stepDone_carries (s : State) : Carries s s.stepDone :=
  .of_same (by simp)

theorem State.seqEnd_carries (s : State) : Carries s s.seqEnd :=
  .of_same (by simp)

theorem State.lockForFailure_carries (s : State) (n : SlotName) : Carries s (s.lockForFailure n) :=
  .of_same (by simp)

theorem State.stepFail_carries (s : State) (c : FailCause) : Carries s (s.stepFail c) := by
  unfold State.stepFail
  split
  · simp only
    split
    · exact ((s.offerRecord_carries _).trans (State.lockForFailure_carries _ _)).trans (State.seqEnd_carries _)
    · exact (s.offerRecord_carries _).trans (State.stepDone_carries _)
  · exact .refl s

theorem State.endOnAnswer_carries (s : State) (ch : Fin 12) (a : Answer) : Carries s (s.endOnAnswer ch a) := by
  cases a with
  | done => exact s.stepDone_carries
  | deferred => exact s.stepDone_carries
  | failed => exact s.stepFail_carries _

theorem State.answerFrom_carries (s : State) (ch : Fin 12) (a : Answer) : Carries s (s.answerFrom ch a) := by
  unfold State.answerFrom
  split
  · split
    · exact s.endOnAnswer_carries ch a
    · exact .refl s
  · exact .refl s

theorem State.orderTaken_carries (s : State) (ch : Fin 12) (st : ChanStep) : Carries s (s.orderTaken ch st) := by
  simp only [State.orderTaken]
  split
  · exact (Carries.of_same (by simp)).trans (State.endOnAnswer_carries (s.setRail ch st.chan) ch _)
  · exact .of_same (by simp)

end Sys2Proof.Machine

namespace Sys2Proof.Machine

/-! ### DIM_OUT and the shed level -/

/-- A steady high level follows the applied cap, and every other duty of a steady state is 0 (R68). -/
theorem State.dimSteadyOut_dpt (s : State) :
    s.dimSteadyOut.dpt.applied = s.dpt.applied ∧ s.dimSteadyOut.dpt.ramp = s.dpt.ramp ∧
      (s.dimSteadyOut.dpt.duty = s.dpt.duty ∧ s.sense.dim.state.steady = false ∨ s.dimSteadyOut.dpt.duty = 0 ∨
        s.dimSteadyOut.dpt.duty = 1000 ∧ s.dpt.applied = 1000 ∧ s.sense.dim.state = .steadyHigh) := by
  unfold State.dimSteadyOut
  split
  · rename_i state; simp [state, DimState.steady]
  · rename_i state; simp [state, DimState.steady]
  · simp
  · rename_i state
    split <;> simp_all

/-- Within a period the duty in force becomes the smaller of the measured duty and the applied cap (R67). -/
@[simp] theorem State.cutPeriod_dpt (s : State) :
    s.cutPeriod.dpt.applied = s.dpt.applied ∧ s.cutPeriod.dpt.ramp = s.dpt.ramp ∧
      s.cutPeriod.dpt.duty = min s.sense.dim.duty s.dpt.applied := by
  simp only [State.cutPeriod, State.modDpt_dpt]
  split
  · simp
  · split <;> simp

/-- At a period start as well. -/
@[simp] theorem State.fixDuty_dpt (s : State) :
    s.fixDuty.dpt.applied = s.dpt.applied ∧ s.fixDuty.dpt.ramp = s.dpt.ramp ∧
      s.fixDuty.dpt.duty = min s.sense.dim.duty s.dpt.applied := by
  simp only [State.fixDuty, State.modDpt_dpt]
  split
  · rename_i duty; simp [duty]
  · split
    · rename_i duty; simp [duty]
    · simp

/-- The rules of DIM_OUT but for the target: those that a change of the target leaves as they are. -/
structure State.DimHolds (s : State) : Prop where
  dark : s.applied = false → s.dpt.applied = 0 ∧ s.dpt.ramp = none ∧ s.eng.cap = 0
  cap : s.dpt.duty ≤ s.dpt.applied
  measured : s.dpt.duty ≤ s.sense.dim.duty
  waiting : s.sense.dim.state = .waiting → s.dpt.duty = 0
  high : s.sense.dim.state = .steadyHigh → s.sense.dim.duty = 1000

theorem DimSafe.holds {s : State} (h : DimSafe s) : s.DimHolds := ⟨h.dark, h.cap, h.measured, h.waiting, h.high⟩

/-- DIM_OUT acts at once on an applied cap that has fallen: the duty in force meets it again, with or without light. -/
theorem State.dimFall_dpt (s : State) (waiting : s.sense.dim.state = .waiting → s.dpt.duty = 0)
    (high : s.sense.dim.state = .steadyHigh → s.sense.dim.duty = 1000) :
    s.dimFall.dpt.applied = s.dpt.applied ∧ s.dimFall.dpt.ramp = s.dpt.ramp ∧ s.dimFall.dpt.duty ≤ s.dpt.applied ∧
      s.dimFall.dpt.duty ≤ s.sense.dim.duty ∧ (s.sense.dim.state = .waiting → s.dimFall.dpt.duty = 0) := by
  obtain ⟨applied, ramp, duty⟩ := s.dimSteadyOut_dpt
  unfold State.dimFall
  split
  · rename_i state; simp [waiting state]
  · rename_i state; simp [state]
  · rename_i state
    simp only [state, DimState.steady] at duty high ⊢
    refine ⟨applied, ramp, ?_, ?_, nofun⟩ <;> simp_all
  · rename_i state
    simp only [state, DimState.steady] at duty high ⊢
    refine ⟨applied, ramp, ?_, ?_, nofun⟩ <;> rcases duty with duty | duty | duty <;> simp_all

/-- The target formed afresh meets the rules (R66). -/
theorem State.DimHolds.retarget {s : State} (h : s.DimHolds) : DimSafe s.retarget := by
  have target : s.retarget.dimTarget = s.dimTarget := by simp [State.dimTarget]
  have phase : s.retarget.applied = s.applied := by simp [State.applied]
  have unlit : s.applied = false → s.dimTarget = 0 := fun dark => by simp [State.dimTarget, (h.dark dark).2.2]
  have dpt : s.retarget.dpt.applied ≤ s.dimTarget ∧ s.retarget.dpt.duty ≤ s.retarget.dpt.applied ∧
      s.retarget.dpt.duty ≤ s.sense.dim.duty ∧ (s.sense.dim.state = .waiting → s.retarget.dpt.duty = 0) ∧
      (s.applied = false → s.retarget.dpt.applied = 0 ∧ s.retarget.dpt.ramp = none) := by
    simp only [State.retarget]
    split
    · obtain ⟨applied, ramp, cap, measured, dark⟩ :=
        (s.modDpt fun d => { d with applied := s.dimTarget, ramp := none }).dimFall_dpt h.waiting h.high
      exact ⟨applied.le, applied ▸ cap, measured, dark, fun off => ⟨applied.trans (unlit off), ramp⟩⟩
    · split
      · rename_i below
        refine ⟨below.le, h.cap, h.measured, h.waiting, fun off => absurd below ?_⟩
        rw [unlit off]; omega
      · rename_i below above
        exact ⟨by simp; omega, h.cap, h.measured, h.waiting, fun off => ⟨(h.dark off).1, rfl⟩⟩
  obtain ⟨le, cap, measured, waiting, dark⟩ := dpt
  constructor
  · rw [phase]; exact fun off => ⟨(dark off).1, (dark off).2, by simpa using (h.dark off).2.2⟩
  · rw [target]; exact fun _ => le
  · exact cap
  · simpa using measured
  · simpa using waiting
  · simpa using h.high

/-- A shed level is delivered, one of at most 3 where the controller's figures fit (R16, R66, R93). -/
theorem State.setShed_carries (s : State) {n : Nat} (hn : s.boc.Fits → n ≤ 3) : Carries s (s.setShed n) := by
  have delivered : Carries s (((s.setRails (Vector.ofFn fun ch => (s.shedStep n ch).chan)).modBoc fun b =>
      { b with shedLevel := n, dip := b.peakAt n }).retarget) := by
    refine ⟨fun h => by simpa using h, fun h => ?_, fun h => State.DimHolds.retarget ?_⟩
    · rw [(State.retarget_frame _).2.2.2.2.2.2.2.1]; exact ⟨h.1, h.2.1, hn h⟩
    · exact ⟨h.dark, h.cap, h.measured, h.waiting, h.high⟩
  unfold State.setShed
  split
  · exact .refl s
  · simp only
    split
    · split
      · exact delivered.trans (State.endOnAnswer_carries _ _ _)
      · exact delivered
    · exact delivered

end Sys2Proof.Machine

namespace Sys2Proof.Machine

/-! ### The controller -/

theorem State.placeDescent_cap (s : State) : s.placeDescent.eng.cap = s.eng.cap := by
  simp only [State.placeDescent]
  (repeat' split) <;> simp

theorem State.enterDip_carries (s : State) : Carries s s.enterDip :=
  (Carries.modBoc s _ rfl id).trans (State.parkedAtState_carries _)

theorem State.normalFromRecover_carries (s : State) : Carries s s.normalFromRecover :=
  ((Carries.modEng s _ rfl).trans (.modBoc _ _ rfl id)).trans (State.parkedAtState_carries _)

theorem State.normalFromInit_carries (s : State) : Carries s s.normalFromInit :=
  (Carries.modBoc s _ rfl id).trans (State.parkedAtState_carries _)

theorem State.restoreStep_carries (s : State) : Carries s s.restoreStep := by
  have lower := s.setShed_carries (n := s.boc.shedLevel - 1) fun h => (Nat.sub_le _ _).trans h.2.2
  simp only [State.restoreStep]
  split
  · exact lower.trans (State.normalFromRecover_carries _)
  · exact lower.trans (.modBoc _ _ rfl id)

theorem State.closeDip_carries (s : State) : Carries s s.closeDip := by
  unfold State.closeDip
  split
  · refine ((Carries.modBoc s _ rfl fun h => ⟨?_, h.2⟩).trans (State.offerRecord_carries _ _)).trans (.modBoc _ _ rfl id)
    simp [pushEntry, Config.historySlots]
  · exact .refl s

theorem State.enterRecover_carries (s : State) : Carries s s.enterRecover := by
  have recovering := (((Carries.modBoc s (fun b => { b with ride := none }) rfl id).trans (State.closeDip_carries _)).trans
    (.modBoc _ (fun b => { b with state := .recover, restore := s.timerIn s.plan.restoreDelayMs }) rfl id)).trans
    (State.parkedAtState_carries _)
  simp only [State.enterRecover]
  split
  · exact recovering.trans (State.restoreStep_carries _)
  · exact recovering

theorem State.enterCommit_carries (s : State) (r : CommitReason) : Carries s (s.enterCommit r) :=
  ((Carries.modBoc s _ rfl id).trans (State.setShed_carries _ fun _ => by decide)).trans (State.parkedAtState_carries _)

theorem State.markAtRisk_carries (s : State) : Carries s s.markAtRisk := by
  unfold State.markAtRisk
  split
  · exact (Carries.modFlb s _).trans (.modBoc _ _ rfl id)
  · exact .refl s

theorem State.placeDescent_carries (s : State) : Carries s s.placeDescent :=
  .of_same (by simp [s.placeDescent_cap])

theorem State.placeTrip_carries (s : State) (o : ClaimOrigin) : Carries s (s.placeTrip o) :=
  .of_same (by simp)

theorem State.enterDescent_carries (s : State) : Carries s s.enterDescent :=
  ((Carries.modBoc s _ rfl id).trans (State.placeDescent_carries _)).trans (State.parkedAtState_carries _)

theorem State.enterDark_carries (s : State) : Carries s s.enterDark :=
  (((Carries.modEng s _ rfl).trans (.modBoc _ _ rfl id)).trans (State.parkedAtState_carries _)).trans
    (State.survivalBegin_carries _)

theorem State.lockBoth_carries (s : State) : Carries s s.lockBoth :=
  .of_same (by simp)

theorem State.rearm_carries (s : State) : Carries s s.rearm := by
  have shed : Carries s ((s.modBoc fun b =>
      { b with state := .normal, mains := none, mainsMet := false, dip := none, reason := .none, notes := none,
               acReturned := false, atRisk := none, survival := .notBegun }).setShed 0) :=
    (Carries.modBoc s _ rfl id).trans (State.setShed_carries _ fun _ => Nat.zero_le 3)
  simp only [State.rearm]
  split
  · exact (shed.trans (.modEng _ _ rfl)).trans (State.parkedAtState_carries _)
  · exact (shed.trans (State.lockBoth_carries _)).trans (State.parkedAtState_carries _)

theorem State.collapseDown_carries (s : State) (n : Option CommitNotes) : Carries s (s.collapseDown n) := by
  have down (target : BocState) : Carries s (((s.modBoc fun b =>
      { b with state := target, ride := none, restore := none, heldBoard := false, heldPanel := false,
               reason := .busCollapse, notes := n }).setShed 3).markAtRisk) :=
    ((Carries.modBoc s _ rfl id).trans (State.setShed_carries _ fun _ => by decide)).trans (State.markAtRisk_carries _)
  simp only [State.collapseDown]
  split
  · exact (down _).trans (State.enterDark_carries _)
  · exact ((down _).trans (State.placeTrip_carries _ _)).trans (State.enterDescent_carries _)

theorem State.bocCollapse_carries (s : State) : Carries s s.bocCollapse := by
  unfold State.bocCollapse
  split
  · exact .refl s
  · exact .refl s
  · exact s.collapseDown_carries _
  · exact s.collapseDown_carries _
  · exact s.collapseDown_carries _
  · exact s.collapseDown_carries _
  · exact s.placeTrip_carries _

theorem State.openDip_carries (s : State) : Carries s s.openDip :=
  .modBoc s _ rfl id

theorem State.stormTest_carries (s : State) : Carries s s.stormTest := by
  refine .modBoc s _ rfl fun h => ⟨h.1, ?_, h.2.2⟩
  exact (List.length_filter_le _ _).trans h.1

theorem State.lossInNormal_carries (s : State) : Carries s s.lossInNormal := by
  have opened := s.stormTest_carries.trans (State.openDip_carries _)
  simp only [State.lossInNormal]
  split
  · exact opened.trans (State.enterCommit_carries _ _)
  · exact opened.trans (State.enterDip_carries _)

theorem State.bocLoss_carries (s : State) : Carries s s.bocLoss := by
  unfold State.bocLoss
  split
  · exact .modBoc s _ rfl id
  · exact .modBoc s _ rfl id
  · exact s.lossInNormal_carries
  · exact s.openDip_carries.trans (State.enterDip_carries _)
  all_goals exact .refl s

theorem State.bocReturn_carries (s : State) : Carries s s.bocReturn := by
  unfold State.bocReturn
  split
  · exact .modBoc s _ rfl id
  · exact .modBoc s _ rfl id
  · exact s.enterRecover_carries
  · exact .modBoc s _ rfl id
  · exact .modBoc s _ rfl id
  all_goals exact .refl s

theorem State.bocTakes_carries (s : State) (r : Budget) : Carries s (s.bocTakes r) := by
  have kept : Carries s (s.modBoc fun b => b.keep r) := .modBoc s _ rfl id
  have target : s.plan.targetLevel r.reserve ≤ 3 := by unfold Plan.targetLevel; (repeat' split) <;> omega
  simp only [State.bocTakes]
  split
  · split
    · exact kept.trans (State.enterCommit_carries _ _)
    · exact kept.trans (State.setShed_carries _ fun h => Nat.max_le.mpr ⟨h.2.2, target⟩)
  · split
    · exact (kept.trans (State.markAtRisk_carries _)).trans (State.enterDescent_carries _)
    · exact kept
  all_goals exact kept

theorem State.holdMark_carries (s : State) (d : Domain) : Carries s (s.holdMark d) := by
  cases d with
  | board => exact .modBoc s _ rfl id
  | panel => exact .modBoc s _ rfl id

theorem State.bocFault_carries (s : State) (e : RailEntry) (k : FaultKind) : Carries s (s.bocFault e k) := by
  unfold State.bocFault
  split
  · split
    · exact s.enterCommit_carries _
    · split
      · exact s.holdMark_carries _
      · exact .refl s
  · split
    · exact s.holdMark_carries _
    · exact .refl s
  all_goals exact .refl s

theorem State.engineFault_carries (s : State) (e : RailEntry) : Carries s (s.engineFault e) :=
  .of_same (by simp)

theorem State.faultRecord_carries (s : State) (ch : Fin 12) (k : FaultKind) : Carries s (s.faultRecord ch k) :=
  s.offerRecord_carries _

theorem State.chanEvent_carries (s : State) (ch : Fin 12) (st : ChanStep) : Carries s (s.chanEvent ch st) := by
  have moved : Carries s (s.setRail ch st.chan) := .of_same (by simp)
  have recorded (k : FaultKind) := moved.trans (State.faultRecord_carries _ ch k)
  have faulted (u : State) (k : FaultKind) :=
    (u.engineFault_carries (s.railEntry ch)).trans (State.bocFault_carries _ (s.railEntry ch) k)
  simp only [State.chanEvent]
  cases st.fault <;> cases st.answer
  case none.none => exact moved
  case none.some a => exact moved.trans (State.answerFrom_carries _ ch a)
  case some.none k => exact (recorded k).trans (faulted _ k)
  case some.some k a => exact ((recorded k).trans (State.answerFrom_carries _ ch a)).trans (faulted _ k)

/-! ### What follows of itself -/

theorem State.bocReact_carries {s t : State} (h : s.bocReact = some t) : Carries s t := by
  unfold State.bocReact at h
  (repeat' split at h) <;> cases h
  · exact s.normalFromInit_carries
  · exact s.enterDescent_carries
  · exact s.enterDark_carries
  · exact s.rearm_carries

theorem State.survivalWaitEnd_carries {s t : State} (h : s.survivalWaitEnd = some t) : Carries s t := by
  unfold State.survivalWaitEnd at h
  (repeat' split at h) <;> cases h
  · exact s.survivalOverrun_carries _
  · exact s.survivalJudge_carries _
  · exact s.survivalHand_carries _

theorem State.quietWork_carries {s t : State} (h : s.quietWork = some t) : Carries s t := by
  unfold State.quietWork at h
  split at h
  · split at h
    · rename_i handed
      cases h
      exact (State.handHead_carries handed).trans (.modFlb _ _)
    · split at h
      · rename_i handed
        cases h
        exact (State.handErase_carries handed).trans (.modFlb _ _)
      · cases h
  · cases h

theorem State.engineReact_cap {s t : State} (h : s.engineReact = some t) :
    t.eng.cap = s.eng.cap ∧ t.eng.descent = s.eng.descent := by
  unfold State.engineReact at h
  (repeat' split at h) <;> cases h <;> simp

theorem State.react_carries {s t : State} (h : s.react = some t) : Carries s t := by
  rcases State.react_cases h with h | h | h | h | h | h
  · obtain ⟨f, rfl⟩ := State.linkReact_frame h; exact .modFlb s fun _ => f
  · exact State.bocReact_carries h
  · have cap := (State.engineReact_cap h).1
    obtain ⟨e, f, rfl⟩ := State.engineReact_frame h
    exact (Carries.modEng s (fun _ => e) cap).trans (.modFlb _ fun _ => f)
  · exact State.survivalWaitEnd_carries h
  · exact State.quietWork_carries h
  · obtain ⟨f, rfl⟩ := State.takeOffer_frame h; exact .modFlb s fun _ => f

theorem State.settle_carries (s : State) : Carries s s.settle :=
  State.settle_keeps (P := Carries s) (fun react h => h.trans (State.react_carries react)) (.refl s)

end Sys2Proof.Machine

namespace Sys2Proof.Machine

/-! ### The commands -/

/-- The IBUS ring, the bus-floor count and the dip window count stay within their sizes (R55, R60, R61). -/
def Sense.Fits (m : Sense) : Prop := m.ibusRing.length ≤ 8 ∧ m.busCount ≤ 2 ∧ m.dipHeld ≤ 65535

theorem bounded_iff {s : State} : Bounded s ↔ s.jnu.Fits ∧ s.sense.Fits ∧ s.boc.Fits :=
  ⟨fun ⟨a, b, c, d, e, f, g, h⟩ => ⟨⟨a, b⟩, ⟨c, d, e⟩, f, g, h⟩,
    fun ⟨⟨a, b⟩, ⟨c, d, e⟩, f, g, h⟩ => ⟨a, b, c, d, e, f, g, h⟩⟩

/-- What every command keeps of the sizes of lists and counters and of DIM_OUT. -/
structure Keeps (s t : State) : Prop where
  bounded : Bounded s → Bounded t
  dim : DimSafe s → DimSafe t

theorem Keeps.refl (s : State) : Keeps s s := ⟨id, id⟩

theorem Keeps.trans {s t u : State} (h : Keeps s t) (g : Keeps t u) : Keeps s u :=
  ⟨g.bounded ∘ h.bounded, g.dim ∘ h.dim⟩

theorem Carries.keeps {s t : State} (h : Carries s t) (sense : t.sense = s.sense) : Keeps s t := by
  refine ⟨fun b => ?_, h.dim⟩
  obtain ⟨queue, fits, figures⟩ := bounded_iff.mp b
  exact bounded_iff.mpr ⟨h.queue queue, sense ▸ fits, h.figures figures⟩

/-- A write of the measurements that leaves DIM_IN alone. -/
theorem Keeps.modSense (s : State) (f : Sense → Sense) (dim : (f s.sense).dim = s.sense.dim)
    (fits : s.sense.Fits → (f s.sense).Fits) : Keeps s (s.modSense f) := by
  refine ⟨fun b => ?_, .of_same rfl rfl rfl rfl rfl dim⟩
  obtain ⟨queue, sense, figures⟩ := bounded_iff.mp b
  exact bounded_iff.mpr ⟨queue, fits sense, figures⟩

/-- A write of what neither speaks of. -/
theorem Keeps.of_same {s t : State} (frame : t.load = s.load ∧ t.plan = s.plan ∧ t.dpt = s.dpt ∧
    t.eng.cap = s.eng.cap ∧ t.jnu = s.jnu ∧ t.boc = s.boc) (sense : t.sense.dim = s.sense.dim)
    (fits : s.sense.Fits → t.sense.Fits) : Keeps s t := by
  obtain ⟨load, plan, dpt, cap, jnu, boc⟩ := frame
  refine ⟨fun b => ?_, .of_same load plan dpt cap (by rw [boc]) sense⟩
  obtain ⟨queue, sense, figures⟩ := bounded_iff.mp b
  exact bounded_iff.mpr ⟨jnu ▸ queue, fits sense, boc ▸ figures⟩

/-- An event, taken after a write that keeps the rules, and what follows from it. -/
theorem Keeps.event {s u t : State} (h : Keeps s u) (event : Carries u t) (sense : t.sense = u.sense) : Keeps s t.settle :=
  (h.trans (event.keeps sense)).trans (t.settle_carries.keeps (by simp))

theorem Keeps.reach (s : State) (n : Nat) : Keeps s (s.reach n) := .of_same (by simp) (by simp) (by simp)

/-! #### The steps of the Sequence Engine -/

theorem State.beginStep_carries (s : State) (k : StepKind) (happlied : s.applied = true) : Carries s (s.beginStep k) := by
  cases k with
  | railUp ch w => exact s.orderTaken_carries _ _
  | railDown ch w => exact s.orderTaken_carries _ _
  | dimLimit v =>
    have capped : Carries s (s.modEng fun e => { e with cap := v }).retarget := by
      refine ⟨fun h => by simpa using h, fun h => by simpa using h, fun h => State.DimHolds.retarget ?_⟩
      exact ⟨fun off => by simp_all [State.applied], h.cap, h.measured, h.waiting, h.high⟩
    exact capped.trans (State.stepDone_carries _)
  | nop => exact s.stepDone_carries
  | delay ms => exact .of_same (by simp [State.beginStep])
  | line l a => exact .of_same (by simp [State.beginStep])
  | linePulse l ms => exact .of_same (by simp [State.beginStep])
  | await i a ms => exact .of_same (by simp [State.beginStep])
  | flashQuiesce => exact .of_same (by simp [State.beginStep])
  | flashResume => exact .of_same (by simp [State.beginStep])

theorem State.atStep_applied {s : State} {k : StepKind} (h : s.atStep k = true) : s.applied = true := by
  simp [State.atStep] at h; exact h.1.1.1

theorem State.takeStep_carries (s : State) (k : StepKind) : Carries s (s.takeStep k) := by
  have judged : Carries s s.rejudge := .of_same (by simp)
  simp only [State.takeStep]
  split
  · rename_i ready
    have released : Carries s.rejudge s.rejudge.releaseHold := .of_same (by simp)
    refine (judged.trans released).trans (State.beginStep_carries _ k ?_)
    simpa [State.applied] using State.atStep_applied ready
  · exact judged

theorem State.stepEvent_keeps (s : State) (k : StepKind) : Keeps s (s.stepEvent k) := by
  unfold State.stepEvent
  split
  · exact (Keeps.refl s).event (s.takeStep_carries k) (by simp)
  · exact .refl s

/-! #### The flash link -/

theorem State.takeCommand_keeps (s : State) (c : Command) : Keeps s (s.takeCommand c) :=
  (s.takeCommand_carries c).keeps (by simp)

end Sys2Proof.Machine

namespace Sys2Proof.Machine

/-! ### The link's operations -/

theorem State.setXfer_carries (s : State) (x : Xfer) (u : UOut) : Carries s (s.setXfer x u) := .modFlb s _

theorem State.openXfer_keeps (s : State) (k : FlashClass) (o : Byte) : Keeps s (s.openXfer k o) := by
  have write (x : Xfer) (u : UOut) : Keeps s (s.setXfer x u) := (s.setXfer_carries x u).keeps (by simp)
  simp only [State.openXfer]
  split
  · exact .refl s
  · split
    · exact write _ _
    · split
      · exact .refl s
      · split
        · unfold State.tenureOpcode
          split
          · exact write _ _
          · exact (Keeps.refl s).event ((s.offerRecord_carries _).trans (State.setXfer_carries _ _ _)) (by simp)
        · exact .of_same (by simp) (by simp) (by simp)

theorem State.reportClipped_carries (s : State) (c : Command) : Carries s (s.reportClipped c) := by
  unfold State.reportClipped
  split
  · exact s.offerRecord_carries _
  · exact .refl s

theorem State.openTenure_carries (s : State) (c : Command) : Carries s (s.openTenure c) :=
  (Carries.modFlb s _).trans (State.takeCommand_carries _ c)

theorem State.endIntake_carries (s : State) (o : Byte) (k : FlashClass) (u : Word32) (b : List Byte) :
    Carries s (s.endIntake o k u b) := by
  simp only [State.endIntake]
  split
  · exact .refl s
  · exact (s.reportClipped_carries _).trans (State.openTenure_carries _ _)

theorem State.endXfer_carries (s : State) (x : Xfer) (b : List Byte) : Carries s (s.endXfer x b) := by
  simp only [State.endXfer]
  split
  · exact (Carries.modFlb s _).trans (State.endIntake_carries _ _ _ _ b)
  · exact (Carries.modFlb s _).trans (.modFlb _ _)
  all_goals exact .modFlb s _

theorem State.closeXfer_keeps (s : State) (o : Option Byte) (b : List Byte) : Keeps s (s.closeXfer o b) := by
  unfold State.closeXfer
  split
  · split
    · exact (Keeps.refl s).event (s.endXfer_carries _ b) (by simp)
    · exact .refl s
  · exact .refl s

theorem State.assertXfer_keeps (s : State) : Keeps s s.assertXfer := .of_same (by simp) (by simp) (by simp)

theorem State.linkEvent_keeps (s : State) (k : FlashClass) (p : Span) (o : Byte) (b : List Byte) :
    Keeps s (s.linkEvent k p o b) := by
  cases p with
  | asserted => exact s.assertXfer_keeps
  | opening => exact s.openXfer_keeps k o
  | closing => exact s.closeXfer_keeps (some o) b
  | whole =>
    simp only [State.linkEvent]
    split
    · exact (s.openXfer_keeps k o).trans (State.closeXfer_keeps _ _ b)
    · exact .refl s

/-! #### Part reset and the load -/

/-- A state whose blocks hold what part reset and plan application give them. -/
theorem Keeps.of_reset {s t : State} (jnu : t.jnu.queue = [] ∧ t.jnu.lost ≤ 255)
    (sense : t.sense.ibusRing.length ≤ 8 ∧ t.sense.busCount ≤ 2 ∧ t.sense.dipHeld ≤ 65535)
    (boc : t.boc.history = [] ∧ t.boc.stormFound = 0 ∧ t.boc.shedLevel = 0)
    (dim : t.dpt = Dimming.reset ∧ t.eng.cap = 0 ∧ t.sense.dim.state = .waiting) : Keeps s t := by
  constructor
  · intro
    exact bounded_iff.mpr ⟨⟨by simp [jnu], jnu.2⟩, sense, by simp [boc], by simp [boc], by simp [boc]⟩
  · intro
    obtain ⟨dpt, cap, waiting⟩ := dim
    constructor <;> simp [dpt, cap, waiting, Dimming.reset]

theorem State.resetBlocks_keeps (s u : State) : Keeps u s.resetBlocks :=
  .of_reset ⟨rfl, Nat.zero_le _⟩ ⟨Nat.zero_le _, Nat.zero_le _, Nat.zero_le _⟩ ⟨rfl, rfl, rfl⟩ ⟨rfl, rfl, rfl⟩

theorem State.release_keeps (s u : State) (p : BitVec 2) (a b : Bool) : Keeps u (s.release p a b) :=
  .of_reset ⟨rfl, Nat.zero_le _⟩ ⟨Nat.zero_le _, Nat.zero_le _, Nat.zero_le _⟩ ⟨rfl, rfl, rfl⟩ ⟨rfl, rfl, rfl⟩

/-- A read of the load before plan application: DIM_OUT is unlit and the sequence cap 0 there, and both stay so. -/
theorem State.applyPlan_keeps {s u : State} (j : Journal) (v : Nat) (empty : j.queue = [] ∧ j.lost = 0)
    (held : u.applied = false) (same : s.sense = u.sense ∧ s.dpt = u.dpt) : Keeps u (s.applyPlan j v) := by
  unfold State.applyPlan
  split
  · exact State.resetBlocks_keeps _ u
  · refine Keeps.event (u := s.applyBlocks j) ?_ (State.offerRecord_carries _ _) (by simp)
    obtain ⟨sense, dpt⟩ := same
    constructor
    · intro b
      obtain ⟨-, fits, -⟩ := bounded_iff.mp b
      refine bounded_iff.mpr ⟨⟨by simp [State.applyBlocks, empty], by simp [State.applyBlocks, empty]⟩, ?_,
        ⟨Nat.zero_le _, Nat.zero_le _, Nat.zero_le _⟩⟩
      simpa [State.applyBlocks, Sense.atApplication, Sense.Fits, sense] using fits
    · intro d
      have unlit := (d.dark held).1
      constructor
      · exact nofun
      · exact fun _ => by simp [State.applyBlocks, dpt, unlit]
      · simpa [State.applyBlocks, dpt] using d.cap
      · simpa [State.applyBlocks, Sense.atApplication, sense, dpt] using d.measured
      · simpa [State.applyBlocks, Sense.atApplication, sense, dpt] using d.waiting
      · simpa [State.applyBlocks, Sense.atApplication, sense] using d.high

theorem State.fallBack_keeps {s u : State} (v : Nat) (held : u.applied = false) (same : s.sense = u.sense ∧ s.dpt = u.dpt) :
    Keeps u (s.fallBack v) :=
  State.applyPlan_keeps _ _ ⟨rfl, rfl⟩ held same

/-- A write of the load, which is not applied before it and not after it, or of the plan. -/
theorem Keeps.ofLoad {s t : State} (before : s.applied = false) (after : t.applied = false)
    (frame : t.dpt = s.dpt ∧ t.eng = s.eng ∧ t.jnu = s.jnu ∧ t.boc = s.boc ∧ t.sense = s.sense) : Keeps s t := by
  obtain ⟨dpt, eng, jnu, boc, sense⟩ := frame
  constructor
  · intro b
    rw [bounded_iff] at b ⊢
    rw [jnu, sense, boc]; exact b
  · intro d
    constructor
    · intro _; rw [dpt, eng]; exact d.dark before
    · intro on; simp [after] at on
    · rw [dpt]; exact d.cap
    · rw [dpt, sense]; exact d.measured
    · rw [dpt, sense]; exact d.waiting
    · rw [sense]; exact d.high

theorem State.prepareImage_keeps {s u : State} (v : Nat) (held : u.applied = false)
    (same : s.dpt = u.dpt ∧ s.eng = u.eng ∧ s.jnu = u.jnu ∧ s.boc = u.boc ∧ s.sense = u.sense) :
    Keeps u (s.prepareImage v) := by
  simp only [State.prepareImage]
  split
  · exact .ofLoad held rfl same
  · exact State.applyPlan_keeps _ _ ⟨rfl, rfl⟩ held ⟨same.2.2.2.2, same.1⟩

end Sys2Proof.Machine

namespace Sys2Proof.Machine

/-! #### The measurements and DIM_OUT -/

theorem State.takeCodes_keeps (s : State) (a b c d : BitVec 12) : Keeps s (s.takeCodes a b c d) := by
  refine .of_same (by simp) rfl fun h => ⟨?_, h.2.1, h.2.2⟩
  simp only [State.takeCodes, State.modSense_sense, pushCode, List.length_drop, List.length_append, List.length_singleton]
  omega

/-- The third contrary scan in a row ends the count (R61). -/
theorem Sense.busFloor_fits {m : Sense} (h : m.Fits) (floor vbus : Nat) : (m.busFloor floor vbus).Fits := by
  unfold Sense.busFloor
  split
  · exact h
  · split
    · exact ⟨h.1, Nat.zero_le _, h.2.2⟩
    · split
      · rename_i room
        exact ⟨h.1, Nat.le_of_lt_succ room, h.2.2⟩
      · split <;> exact ⟨h.1, Nat.zero_le _, h.2.2⟩

theorem State.scanOffers_keeps (s : State) : Keeps s s.scanOffers :=
  .of_same (by simp) (by simp [State.scanOffers]) fun h => by
    have fits := Sense.busFloor_fits h s.plan.busFloorMv (s.sense.vbusMv.getD 0)
    exact ⟨fits.1, fits.2.1, fits.2.2⟩

theorem State.reachScan_keeps (s : State) : Keeps s s.reachScan :=
  .of_same (by simp) rfl fun h => ⟨h.1, h.2.1, h.2.2⟩

theorem State.endMs_keeps (s : State) : Keeps s s.endMs := .of_same (by simp) rfl fun h => ⟨h.1, h.2.1, h.2.2⟩

/-- The count that the dip window timer shows stays within its size (R60). -/
theorem State.dipCount_le {s : State} (h : s.sense.Fits) : s.dipCount ≤ 65535 := by
  unfold State.dipCount
  split
  · exact Nat.min_le_left _ _
  · exact h.2.2

/-- A write of DIM_OUT that keeps the rules, and of DIM_IN. -/
theorem Keeps.ofDim {s t : State} (jnu : t.jnu = s.jnu) (boc : t.boc = s.boc)
    (sense : ∃ d, t.sense = { s.sense with dim := d }) (dim : DimSafe s → DimSafe t) : Keeps s t := by
  obtain ⟨d, sense⟩ := sense
  refine ⟨fun b => ?_, dim⟩
  rw [bounded_iff] at b ⊢
  rw [jnu, boc, sense]; exact b

/-- The duty fixed at a period start meets the cap and the measured duty (R67). -/
theorem State.fixDuty_dimSafe {s : State} (h : DimSafe s) {d : DimIn} (hd : d.state = .periodic) :
    DimSafe (State.fixDuty { s with sense := { s.sense with dim := d } }) := by
  obtain ⟨applied, ramp, duty⟩ := State.fixDuty_dpt { s with sense := { s.sense with dim := d } }
  constructor
  · intro off
    obtain ⟨h1, h2, h3⟩ := h.dark (by simpa [State.applied] using off)
    exact ⟨applied.trans h1, ramp.trans h2, by simpa using h3⟩
  · intro on
    have le := h.target (by simpa [State.applied] using on)
    simpa [State.dimTarget, applied] using le
  · rw [duty, applied]; exact Nat.min_le_right _ _
  · rw [duty]; simp
  · simp [hd]
  · simp [hd]

theorem State.dimRising_dimSafe {s : State} (h : DimSafe s) : DimSafe s.dimRising := by
  simp only [State.dimRising]
  split
  · exact ⟨h.dark, h.target, h.cap, h.measured, h.waiting, h.high⟩
  · exact State.fixDuty_dimSafe h rfl
  · exact State.fixDuty_dimSafe h rfl
  all_goals
    exact ⟨fun off => h.dark off, h.target, Nat.zero_le _, Nat.zero_le _, fun _ => rfl, nofun⟩

theorem State.dimFalling_dimSafe {s : State} (h : DimSafe s) : DimSafe s.dimFalling := by
  simp only [State.dimFalling]
  split
  · exact ⟨h.dark, h.target, h.cap, h.measured, h.waiting, h.high⟩
  · exact ⟨h.dark, h.target, h.cap, h.measured, h.waiting, h.high⟩
  all_goals
    exact ⟨fun off => h.dark off, h.target, Nat.zero_le _, Nat.zero_le _, fun _ => rfl, nofun⟩

/-- The level of a steady state meets the rules where a high level measures a duty of 1,000 (R65, R68). -/
theorem State.dimSteadyOut_dimSafe {s : State} (dark : s.applied = false → s.dpt.applied = 0 ∧ s.dpt.ramp = none ∧ s.eng.cap = 0)
    (target : s.applied = true → s.dpt.applied ≤ s.dimTarget)
    (unsteady : s.sense.dim.state.steady = false → s.dpt.duty ≤ s.dpt.applied ∧ s.dpt.duty ≤ s.sense.dim.duty)
    (waiting : s.sense.dim.state = .waiting → s.dpt.duty = 0)
    (high : s.sense.dim.state = .steadyHigh → s.sense.dim.duty = 1000) : DimSafe s.dimSteadyOut := by
  obtain ⟨applied, ramp, duty⟩ := s.dimSteadyOut_dpt
  have phase : s.dimSteadyOut.applied = s.applied := by simp [State.applied]
  constructor
  · rw [phase, applied, ramp]; simpa using dark
  · rw [phase, applied]; simpa [State.dimTarget] using target
  · rw [applied]
    rcases duty with ⟨duty, state⟩ | duty | ⟨duty, full, -⟩
    · rw [duty]; exact (unsteady state).1
    · rw [duty]; exact Nat.zero_le _
    · rw [duty, full]
  · rcases duty with ⟨duty, state⟩ | duty | ⟨duty, -, state⟩
    · rw [duty]; simpa using (unsteady state).2
    · rw [duty]; exact Nat.zero_le _
    · rw [duty]; simp [high state]
  · intro state
    rcases duty with ⟨duty, -⟩ | duty | ⟨-, -, other⟩
    · rw [duty]; exact waiting (by simpa using state)
    · exact duty
    · simp [other] at state
  · simpa using high

theorem State.dimBecomesSteady_dimSafe {s : State} (h : DimSafe s) : DimSafe s.dimBecomesSteady := by
  refine State.dimSteadyOut_dimSafe h.dark h.target ?_ ?_ ?_
  · simp only [State.modSense_sense]
    split <;> exact nofun
  · simp only [State.modSense_sense]
    split <;> exact nofun
  · simp only [State.modSense_sense]
    split
    · exact fun _ => rfl
    · exact nofun

/-- Before plan application the ramp timer does not run; from then on an expiry raises the applied cap to the target at
most (R66). -/
theorem State.rampStep_dimSafe {s : State} (h : DimSafe s) (hramp : s.dpt.ramp ≠ none) (n : Nat) : DimSafe (s.rampStep n) := by
  have on : s.applied = true := by
    cases off : s.applied
    · exact absurd (h.dark off).2.1 hramp
    · rfl
  have rises : s.dpt.applied ≤ min s.dimTarget (s.dpt.applied + s.plan.ramp) :=
    Nat.le_min.mpr ⟨h.target on, Nat.le_add_right _ _⟩
  refine State.dimSteadyOut_dimSafe (fun off => ?_) (fun _ => Nat.min_le_left _ _) (fun _ => ⟨h.cap.trans rises, h.measured⟩)
    h.waiting h.high
  exact absurd (on.symm.trans off) nofun

/-! #### Every command -/

theorem State.driveLine_carries (s : State) (l : Fin 6) (a : Bool) : Carries s (s.driveLine l a) := .of_same (by simp)

theorem State.auxSeen_carries (s : State) (i : Fin 2) (a : Bool) : Carries s (s.auxSeen i a) := .of_same (by simp)

theorem exec_keeps (c : Instr) (s t : State) (h : exec c s = .next t) : Keeps s t := by
  cases c <;> cases h
  case partReset cause =>
    cases cause <;> simp only <;> split
    · exact State.resetBlocks_keeps _ s
    · exact .refl s
    · exact State.resetBlocks_keeps _ s
    · exact .refl s
  case partResetRelease p a b ended =>
    have ends : Keeps s (s.causeEnds ended) := by
      cases ended <;> simp only [State.causeEnds] <;> split
      · exact .of_same (by simp) rfl fun h => ⟨h.1, h.2.1, h.2.2⟩
      · exact .refl s
      · exact .of_same (by simp) rfl fun h => ⟨h.1, h.2.1, h.2.2⟩
      · exact .refl s
    simp only
    (repeat' split)
    · exact .refl s
    · exact ends
    · exact State.release_keeps _ s p a b
  case oscWaitEnd =>
    simp only
    split
    · exact .ofLoad (by simp_all [State.applied]) (by simp [State.applied]) (by simp)
    · exact .refl s
  case flashWaitStatusRead b =>
    simp only
    split
    · rename_i phase
      have held : s.applied = false := by simp [State.applied, phase]
      (repeat' split) <;> exact .ofLoad held (by simp [State.applied, phase]) (by simp)
    · exact .refl s
  case planHeaderReadEnd b =>
    simp only
    split
    · rename_i phase
      have held : s.applied = false := by simp [State.applied, phase]
      split
      · exact .ofLoad held held (by simp)
      · exact State.fallBack_keeps _ held (by simp)
    · exact .refl s
  case planBodyReadEnd b v =>
    simp only
    split
    · rename_i phase
      have held : s.applied = false := by simp [State.applied, phase]
      split
      · exact State.prepareImage_keeps _ held (by simp)
      · exact State.fallBack_keeps _ held (by simp)
    · exact .refl s
  case journalScanSectorRead b v =>
    simp only
    split
    · rename_i phase
      have held : s.applied = false := by simp [State.applied, phase]
      split
      · exact .ofLoad held held (by simp)
      · exact State.applyPlan_keeps _ _ ⟨rfl, rfl⟩ held (by simp)
    · exact .refl s
  case scanCompletion =>
    simp only
    split
    · split
      · exact (s.reachScan_keeps.trans (State.takeCodes_keeps _ _ _ _ _)).trans (State.scanOffers_keeps _)
      · exact s.reachScan_keeps.trans (State.takeCodes_keeps _ _ _ _ _)
    · exact .refl s
  case bocComputation =>
    (repeat' split)
    · exact (Keeps.modSense s _ rfl id).event (State.bocTakes_carries _ _) (by simp)
    all_goals exact .refl s
  case aduComputation =>
    (repeat' split)
    · exact (Keeps.modSense s _ rfl id).event (State.aduTakes_carries _ _) (by simp)
    all_goals exact .refl s
  case busCollapse =>
    split
    · exact (Keeps.modSense s _ rfl id).event (State.bocCollapse_carries _) (by simp)
    · exact .refl s
  case uptimeTick =>
    split
    · exact s.endMs_keeps
    · exact .refl s
  case dipEntryStale pos =>
    split
    · exact (Carries.modBoc s _ rfl fun h => ⟨by simpa using h.1, h.2⟩).keeps rfl
    · exact .refl s
  case filteredPgGood ch pin | filteredPgNotGood ch pin =>
    split
    · exact Keeps.event (u := s.pgFiltered ch pin) (.of_same (by simp) rfl fun h => ⟨h.1, h.2.1, h.2.2⟩)
        (State.chanEvent_carries _ ch _) (by simp)
    · exact .refl s
  case riseTimerExpiry ch | settleTimerExpiry ch | fallTimerExpiry ch =>
    split
    · exact (Keeps.reach s _).event (State.chanEvent_carries _ ch _) (by simp)
    · exact .refl s
  case auxChange input pin =>
    split
    · have filtered (a : Bool) : Keeps s (s.auxFiltered input pin a) := .of_same (by simp) rfl fun h => ⟨h.1, h.2.1, h.2.2⟩
      exact (filtered _).event (State.auxSeen_carries _ _ _) (by simp)
    · exact .refl s
  case requestChange r pin =>
    split
    · have taken : Keeps s ((s.requestFiltered r pin).requestTaken r pin.high) := by
        cases r <;> exact .of_same (by simp [State.requestTaken]) rfl fun h => ⟨h.1, h.2.1, h.2.2⟩
      exact taken.event (.refl _) rfl
    · exact .refl s
  case acOkLoss pin =>
    split
    · refine Keeps.event (u := (s.acOkFiltered pin).modSense fun m =>
        { m with acOk := false, dipSince := some (s.acOkFiltered pin).clock, dipHeld := 0 }) ?_ (State.bocLoss_carries _) (by simp)
      exact .of_same (by simp) rfl fun h => ⟨h.1, h.2.1, Nat.zero_le _⟩
    · exact .refl s
  case acOkReturn pin =>
    split
    · refine Keeps.event (u := (s.acOkFiltered pin).modSense fun m =>
        { m with acOk := true, dipSince := none, dipHeld := (s.acOkFiltered pin).dipCount }) ?_ (State.bocReturn_carries _) (by simp)
      exact .of_same (by simp) rfl fun h => ⟨h.1, h.2.1, State.dipCount_le (s := s.acOkFiltered pin) h⟩
    · exact .refl s
  case rideTimerExpiry =>
    split
    · exact (Keeps.reach s _).event (State.enterCommit_carries _ _) (by simp)
    · exact .refl s
  case restoreTimerExpiry =>
    split
    · exact (Keeps.reach s _).event ((Carries.modBoc _ _ rfl id).trans (State.restoreStep_carries _)) (by simp)
    · exact .refl s
  case mainsTimerExpiry =>
    split
    · exact (Keeps.reach s _).event (Carries.modBoc _ _ rfl id) (by simp)
    · exact .refl s
  case railUp r w => exact s.stepEvent_keeps _
  case railDown r w => exact s.stepEvent_keeps _
  case delay ms => exact s.stepEvent_keeps _
  case line l a => exact s.stepEvent_keeps _
  case linePulse l ms => exact s.stepEvent_keeps _
  case dimLimit v => exact s.stepEvent_keeps _
  case await i a ms => exact s.stepEvent_keeps _
  case flashQuiesce => exact s.stepEvent_keeps _
  case flashResume => exact s.stepEvent_keeps _
  case nop => exact s.stepEvent_keeps _
  case delayExpiry =>
    split
    · exact (Keeps.reach s _).event (State.stepDone_carries _) (by simp)
    · exact .refl s
  case linePulseExpiry =>
    split
    · exact (Keeps.reach s _).event ((State.driveLine_carries _ _ _).trans (State.stepDone_carries _)) (by simp)
    · exact .refl s
  case awaitTimeout =>
    split
    · exact (Keeps.reach s _).event (State.stepFail_carries _ _) (by simp)
    · exact .refl s
  case dimInRisingEdge n =>
    split
    · exact (Keeps.reach s n).trans (.ofDim (by simp) (by simp) (State.dimRising_sense _) State.dimRising_dimSafe)
    · exact .refl s
  case dimInFallingEdge n =>
    split
    · exact (Keeps.reach s n).trans (.ofDim (by simp) (by simp) (State.dimFalling_sense _) State.dimFalling_dimSafe)
    · exact .refl s
  case dimInSteady =>
    split
    · exact (Keeps.reach s _).trans
        (.ofDim (by simp) (by simp) (State.dimBecomesSteady_sense _) State.dimBecomesSteady_dimSafe)
    · exact .refl s
  case dimOutHighTimeEnd =>
    split
    · refine .ofDim (by simp) (by simp) ⟨s.sense.dim, by simp⟩ fun h => ?_
      obtain ⟨n, reached⟩ := s.reachTimer_eq s.dpt.highEnd
      rw [reached]
      exact ⟨h.dark, h.target, h.cap, h.measured, h.waiting, h.high⟩
    · exact .refl s
  case rampExpiry =>
    split
    · rename_i due running
      refine (Keeps.reach s due).trans (.ofDim (by simp) (by simp) ⟨_, by simp; rfl⟩ fun h => ?_)
      exact State.rampStep_dimSafe h (by simp [running]) due
    · exact .refl s
  case read p o => exact s.linkEvent_keeps _ _ _ _
  case statusRead p o => exact s.linkEvent_keeps _ _ _ _
  case writeEnable p o => exact s.linkEvent_keeps _ _ _ _
  case writeDisable p o => exact s.linkEvent_keeps _ _ _ _
  case otherPass p o => exact s.linkEvent_keeps _ _ _ _
  case program p o b => exact s.linkEvent_keeps _ _ _ _
  case eraseSector p o b => exact s.linkEvent_keeps _ _ _ _
  case eraseBlock p o b => exact s.linkEvent_keeps _ _ _ _
  case eraseDevice p o b => exact s.linkEvent_keeps _ _ _ _
  case regWrite p o b => exact s.linkEvent_keeps _ _ _ _
  case otherBlock p o b => exact s.linkEvent_keeps _ _ _ _
  case cutTransaction p =>
    cases p with
    | asserted => exact s.assertXfer_keeps
    | opening => exact s.assertXfer_keeps
    | closing => exact s.closeXfer_keeps _ _
    | whole =>
      simp only
      split
      · exact s.assertXfer_keeps.trans (State.closeXfer_keeps _ _ _)
      · exact .refl s
  case holdTimerExpiry =>
    split
    · exact (Keeps.reach s _).event (State.refuseCommand_carries _ _ _) (by simp)
    · exact .refl s
  case commandIssued =>
    split
    · exact (Keeps.refl s).event (.of_same (by simp)) (by simp)
    · exact .refl s
  case refusingWriteDisableEnd =>
    split
    · exact (Keeps.refl s).event (.of_same (by simp)) (by simp)
    · exact .refl s
  case flashPollStart =>
    split
    · exact .of_same (by simp) (by simp) (by simp)
    · exact .refl s
  case flashPollComplete b =>
    split
    · exact .refl s
    · refine (Keeps.refl s).event ((Carries.of_same (by simp)).trans (t := s.pollByte b) ?_) (by simp)
      unfold State.pollActs
      (repeat' split)
      · exact .refl _
      · exact State.opEnd_carries _ _ _
      · exact .refl _
    · exact .of_same (by simp) (by simp) (by simp)
  case overrun =>
    (repeat' split)
    · exact .refl s
    · exact (Keeps.reach s _).event (.modFlb _ _) (by simp)
    · exact .refl s
  case flashStuck =>
    split
    · exact (Keeps.reach s _).event ((State.offerRecord_carries _ _).trans (State.opEnd_carries _ _ _)) (by simp)
    · exact .refl s

/-- Settles O6: every operation of the blocks keeps the sizes, and so does every command. -/
theorem everyStepKeepsBounded : Obligations.EveryStepKeepsBounded :=
  fun _ _ => step_keeps (fun _ _ _ _ h => ⟨h.1, h.2, h.3, h.4, h.5, h.6, h.7, h.8⟩) fun c s t h e => (exec_keeps c s t e).bounded h

/-- Settles O8, by the same course through the commands. -/
theorem everyStepKeepsDimSafe : Obligations.EveryStepKeepsDimSafe :=
  fun _ _ => step_keeps (fun _ _ _ _ h => ⟨h.1, h.2, h.3, h.4, h.5, h.6⟩) fun c s t h e => (exec_keeps c s t e).dim h

end Sys2Proof.Machine

namespace Sys2Proof.Machine

/-! ### The sequence in progress -/

/-- What of the engine says which step of which sequence is in progress, and what the sequence holds. -/
def Engine.run (e : Engine) : EngineMode × Option SlotName × Nat × StepStatus × Bool × Bool × Nat :=
  (e.mode, e.slot, e.index, e.step, e.quiesceHold, e.quietHold, e.cap)

theorem Engine.run_eq_iff {e g : Engine} : e.run = g.run ↔ e.mode = g.mode ∧ e.slot = g.slot ∧ e.index = g.index ∧
    e.step = g.step ∧ e.quiesceHold = g.quiesceHold ∧ e.quietHold = g.quietHold ∧ e.cap = g.cap := by
  simp [Engine.run]

@[simp] theorem State.driveLine_run (s : State) (l : Fin 6) (a : Bool) : (s.driveLine l a).eng.run = s.eng.run := by
  unfold State.driveLine
  simp only
  (repeat' split) <;> simp [Engine.run]

@[simp] theorem State.takeClaims_run (s : State) : s.takeClaims.eng.run = s.eng.run := by
  unfold State.takeClaims
  simp only
  (repeat' split) <;> simp [Engine.run, State.lockBoth, State.lockBoard, State.lockPanel]

@[simp] theorem State.markClaim_run (s : State) (d : Domain) : (s.markClaim d).eng.run = s.eng.run := by
  cases d <;> rfl

@[simp] theorem State.lockBoth_run (s : State) : s.lockBoth.eng.run = s.eng.run := rfl

@[simp] theorem State.lockForFailure_run (s : State) (n : SlotName) : (s.lockForFailure n).eng.run = s.eng.run := by
  cases n <;> rfl

@[simp] theorem State.dropStep_run (s : State) : s.dropStep.eng.run = s.eng.run := by
  unfold State.dropStep
  split <;> simp

/-- The engine's rules speak of the sequence in progress alone, and of the plan. -/
theorem EngineSafe.of_run {s t : State} (load : t.load = s.load) (plan : t.plan = s.plan) (run : t.eng.run = s.eng.run)
    (h : EngineSafe s) : EngineSafe t := by
  obtain ⟨mode, slot, index, step, quiesce, quiet, -⟩ := Engine.run_eq_iff.mp run
  have applied : t.applied = s.applied := by simp [State.applied, load]
  have current : t.currentStep = s.currentStep := by simp [State.currentStep, plan, slot, index]
  constructor
  · rw [slot, mode]; exact h.slot
  · rw [mode, index, step, quiesce, quiet]; exact h.idle
  · rw [mode, step, slot]; exact h.suspended
  · rw [mode, step]; exact h.running
  · rw [applied, step, current]; exact h.line

/-- A sequence is in progress where the engine is not IDLE. -/
theorem EngineSafe.slot_of_step {s : State} (h : EngineSafe s) (hstep : s.eng.step ≠ .idle) : s.eng.slot ≠ none :=
  fun none => hstep (h.idle (h.slot.mp none)).2.1

/-- An engine without a sequence, whatever it did before (R40). -/
theorem EngineSafe.of_idled {s : State} (e : Engine) (h : s.eng = e.idled) : EngineSafe s := by
  constructor <;> simp [h, Engine.idled]

theorem State.seqEnd_engineSafe (s : State) : EngineSafe s.seqEnd := .of_idled s.eng rfl

theorem State.seqComplete_engineSafe (s : State) (n : SlotName) : EngineSafe (s.seqComplete n) := .of_idled _ rfl

/-- An engine that stands before a step of a sequence. -/
theorem EngineSafe.of_ready {s : State} (mode : s.eng.mode = .running) (slot : s.eng.slot ≠ none)
    (step : s.eng.step ≠ .idle ∧ s.eng.step ≠ .lineWait) : EngineSafe s := by
  constructor <;> simp [mode, slot, step]

theorem State.nextStep_engineSafe {s : State} (n : SlotName) (h : s.eng.slot ≠ none) : EngineSafe (s.nextStep n) := by
  unfold State.nextStep
  split
  · exact .of_ready rfl h ⟨nofun, nofun⟩
  · exact s.seqComplete_engineSafe n

/-- Where a sequence is held, the engine keeps its rules whatever the boundary decides (R42, R47). -/
theorem State.boundary_engineSafe {s : State} (h : s.eng.slot ≠ none) : EngineSafe s.boundary := by
  have slot : s.takeClaims.eng.slot = s.eng.slot := (Engine.run_eq_iff.mp s.takeClaims_run).2.1
  simp only [State.boundary]
  cases held : s.takeClaims.eng.slot with
  | none => exact absurd (slot.symm.trans held) h
  | some n =>
    simp only
    split
    · rename_i up
      split
      · constructor <;> simp [State.suspend, held]
        cases n <;> simp_all [SlotName.isUp]
      · split
        · exact State.seqEnd_engineSafe _
        · exact State.nextStep_engineSafe n (by simp [held])
    · exact State.nextStep_engineSafe n (by simp [held])

theorem State.stepDone_engineSafe {s : State} (h : s.eng.slot ≠ none) : EngineSafe s.stepDone :=
  State.boundary_engineSafe (s := s.modEng fun e => { e with index := e.index + 1, step := .idle, quietHold := false }) h

theorem State.stepFail_engineSafe {s : State} (h : EngineSafe s) (c : FailCause) : EngineSafe (s.stepFail c) := by
  unfold State.stepFail
  split
  · rename_i held _
    simp only
    split
    · exact State.seqEnd_engineSafe _
    · exact State.stepDone_engineSafe (by simp [held])
  · exact h

theorem State.seqStart_engineSafe (s : State) (n : SlotName) : EngineSafe (s.seqStart n) := by
  simp only [State.seqStart]
  split
  · exact State.seqComplete_engineSafe _ n
  · exact .of_ready rfl nofun ⟨nofun, nofun⟩

theorem State.seqBegin_engineSafe (s : State) (n : SlotName) : EngineSafe (s.seqBegin n) := by
  unfold State.seqBegin
  split
  · exact State.seqStart_engineSafe _ _
  · split
    · split
      · exact .of_ready rfl nofun ⟨nofun, nofun⟩
      · exact State.seqStart_engineSafe _ _
    · exact State.seqStart_engineSafe _ _
  all_goals exact State.seqStart_engineSafe _ _

end Sys2Proof.Machine

namespace Sys2Proof.Machine

/-! ### What an event leaves of a channel's rules -/

/-- A channel after an event: it keeps its rules, an answer leaves no order pending, and no order becomes pending. -/
structure ChanStep.Sound (e : RailEntry) (level : Nat) (c : Channel) (st : ChanStep) : Prop where
  safe : ChannelSafe e level st.chan
  answered : st.answer.isSome = true → st.chan.order = none
  pending : st.chan.order.isSome = true → c.order.isSome = true

/-- What a channel keeps outside FAULT whatever its state. -/
structure Channel.Base (e : RailEntry) (level : Nat) (c : Channel) : Prop where
  kind : c.faultKind = none
  prior : c.prior = none
  mark : c.shed = e.shedAt level
  timed : e.timed = true → c.pgGood = false

theorem ChannelSafe.base {e : RailEntry} {level : Nat} {c : Channel} (h : ChannelSafe e level c) (hs : c.state ≠ .fault) :
    c.Base e level := by
  have other : (c.state == .fault) = false := by simpa using hs
  have kind : c.faultKind = none := by simpa [other] using h.kind
  have prior : c.prior = none := by simpa [other] using h.prior
  exact ⟨kind, prior, h.mark, fun t => (h.timed t).2.2⟩

/-- Entry to ON where no disable order is pending answers the order that is (R8). -/
theorem Channel.enterOn_eq {c : Channel} (order : c.order ≠ some .disable) :
    c.enterOn = ⟨{ c with state := .on, rise := none, settle := none, fall := none, order := none },
      if c.order = some .enable then some .done else none, none⟩ := by
  simp [Channel.enterOn, Channel.answerIf_enable, order]

theorem Channel.enterOn_sound {e : RailEntry} {level : Nat} {c : Channel} (b : c.Base e level) (shed : c.shed = false)
    (order : c.order ≠ some .disable) (good : e.timed = false → c.pgGood = true) : c.enterOn.Sound e level c := by
  obtain ⟨kind, prior, mark, timed⟩ := b
  rw [Channel.enterOn_eq order]
  constructor
  · constructor <;> simp_all
  · simp
  · simp

theorem Channel.enterSettling_sound {e : RailEntry} {level now : Nat} {c : Channel} (b : c.Base e level)
    (shed : c.shed = false) (order : c.order ≠ some .disable) (want : c.order = some .enable → c.want = true)
    (monitored : e.timed = false) (good : c.pgGood = true) : (c.enterSettling e now).Sound e level c := by
  unfold Channel.enterSettling
  split
  · exact c.enterOn_sound b shed order fun _ => good
  · obtain ⟨kind, prior, mark, timed⟩ := b
    constructor
    · constructor <;> simp_all [ChanStep.same]
    · simp [ChanStep.same]
    · simp [ChanStep.same]

theorem Channel.enterRising_sound {e : RailEntry} {level now : Nat} {c : Channel} (b : c.Base e level)
    (shed : c.shed = false) (order : c.order ≠ some .disable) (want : c.order = some .enable → c.want = true) :
    (c.enterRising e now).Sound e level c := by
  have rising : Channel.Base e level { c with state := .rising, rise := some (now + msCounts e.riseMs), settle := none, fall := none } :=
    ⟨b.kind, b.prior, b.mark, b.timed⟩
  unfold Channel.enterRising
  simp only
  split
  · rename_i passes
    simp at passes
    obtain ⟨safe, answered, pending⟩ := Channel.enterSettling_sound (now := now) rising shed order want passes.1 passes.2
    exact ⟨safe, answered, pending⟩
  · obtain ⟨kind, prior, mark, timed⟩ := b
    constructor
    · constructor <;> simp_all [ChanStep.same]
    · simp [ChanStep.same]
    · simp [ChanStep.same]

theorem Channel.enterOff_sound {e : RailEntry} {level : Nat} {c : Channel} (b : c.Base e level)
    (order : c.order ≠ some .enable) : c.enterOff.Sound e level c := by
  obtain ⟨kind, prior, mark, timed⟩ := b
  unfold Channel.enterOff Channel.answerIf
  simp only
  split
  · constructor
    · constructor <;> simp_all
    · simp
    · simp
  · rename_i other
    have none : c.order = none := by
      match h : c.order with
      | none => rfl
      | some .enable => exact absurd h order
      | some .disable => exact absurd h other
    constructor
    · constructor <;> simp_all
    · simp
    · simp

theorem Channel.enterFalling_sound {e : RailEntry} {level now : Nat} {c : Channel} (b : c.Base e level)
    (order : c.order ≠ some .enable) (want : c.order = some .disable → c.want = false) :
    (c.enterFalling e now).Sound e level c := by
  have falling : Channel.Base e level { c with state := .falling, rise := none, settle := none, fall := some (now + msCounts e.fallMs) } :=
    ⟨b.kind, b.prior, b.mark, b.timed⟩
  unfold Channel.enterFalling
  simp only
  split
  · obtain ⟨safe, answered, pending⟩ := Channel.enterOff_sound falling order
    exact ⟨safe, answered, pending⟩
  · obtain ⟨kind, prior, mark, timed⟩ := b
    constructor
    · constructor <;> simp_all [ChanStep.same]
    · simp [ChanStep.same]
    · simp [ChanStep.same]

theorem Channel.enterFault_sound {e : RailEntry} {level : Nat} {c : Channel} (b : c.Base e level) (k : FaultKind)
    (monitored : e.timed = false) : (c.enterFault k).Sound e level c := by
  obtain ⟨kind, prior, mark, timed⟩ := b
  constructor
  · constructor <;> simp_all [Channel.enterFault]
  · simp [Channel.enterFault]
  · simp [Channel.enterFault]

/-! #### The events -/

/-- No order is pending in OFF, ON and FAULT; in FALLING a disable order alone, and in RISING and SETTLING an enable order
alone (R13, R14). -/
theorem ChannelSafe.order_ne_enable {e : RailEntry} {level : Nat} {c : Channel} (h : ChannelSafe e level c)
    (hs : c.state ≠ .rising ∧ c.state ≠ .settling) : c.order ≠ some .enable :=
  fun order => (h.enable order).1.elim hs.1 hs.2

theorem ChannelSafe.order_ne_disable {e : RailEntry} {level : Nat} {c : Channel} (h : ChannelSafe e level c)
    (hs : c.state ≠ .falling) : c.order ≠ some .disable :=
  fun order => hs (h.disable order).1

/-- An energised channel is not shed (R17). -/
theorem ChannelSafe.not_shed {e : RailEntry} {level : Nat} {c : Channel} (h : ChannelSafe e level c)
    (hs : c.state ≠ .off ∧ c.state ≠ .falling ∧ c.state ≠ .fault) : c.shed = false := by
  cases shed : c.shed
  · rfl
  · obtain off | falling | fault := h.shed shed
    · exact absurd off hs.1
    · exact absurd falling hs.2.1
    · exact absurd fault hs.2.2

theorem ChannelSafe.same {e : RailEntry} {level : Nat} {c : Channel} (h : ChannelSafe e level c) :
    (ChanStep.same c).Sound e level c := ⟨h, nofun, id⟩

/-- The filtered PG alone changes, where the state lets it (R22). -/
theorem ChannelSafe.pg {e : RailEntry} {level : Nat} {c : Channel} (h : ChannelSafe e level c) (g : Bool)
    (monitored : e.timed = false)
    (good : c.state = .settling ∨ c.state = .on ∨ c.state = .falling → g = true) (notGood : c.state = .rising → g = false) :
    (ChanStep.same { c with pgGood := g }).Sound e level c :=
  ⟨⟨h.rise, h.settle, h.fall, h.kind, h.prior, h.mark, h.shed, h.enable, h.disable, fun _ => good, fun _ => notGood,
    by simp [monitored]⟩, nofun, id⟩

theorem Channel.pgBecomesGood_sound {e : RailEntry} {level now : Nat} {c : Channel} (h : ChannelSafe e level c)
    (monitored : e.timed = false) : (c.pgBecomesGood e now).Sound e level c := by
  unfold Channel.pgBecomesGood
  simp only
  split
  · rename_i state
    obtain ⟨safe, answered, pending⟩ := Channel.enterSettling_sound (c := { c with pgGood := true }) (level := level) (now := now)
      ⟨(h.base (by simp [state])).kind, (h.base (by simp [state])).prior, h.mark, by simp [monitored]⟩
      (h.not_shed (by simp [state])) (h.order_ne_disable (by simp [state])) (fun o => (h.enable o).2) monitored rfl
    exact ⟨safe, answered, pending⟩
  all_goals
    rename_i state
    exact h.pg true monitored (fun _ => rfl) (by simp [state])

theorem Channel.pgBecomesNotGood_sound {e : RailEntry} {level : Nat} {c : Channel} (h : ChannelSafe e level c)
    (monitored : e.timed = false) : c.pgBecomesNotGood.Sound e level c := by
  have base (hs : c.state ≠ .fault) : Channel.Base e level { c with pgGood := false } :=
    ⟨(h.base hs).kind, (h.base hs).prior, h.mark, fun _ => rfl⟩
  unfold Channel.pgBecomesNotGood
  simp only
  split
  · rename_i state
    obtain ⟨safe, answered, pending⟩ := Channel.enterFault_sound (base (by simp [state])) .unstable monitored
    exact ⟨safe, answered, pending⟩
  · rename_i state
    obtain ⟨safe, answered, pending⟩ := Channel.enterFault_sound (base (by simp [state])) .dropout monitored
    exact ⟨safe, answered, pending⟩
  · rename_i state
    obtain ⟨safe, answered, pending⟩ :=
      Channel.enterOff_sound (base (by simp [state])) (h.order_ne_enable (by simp [state]))
    exact ⟨safe, answered, pending⟩
  all_goals
    rename_i state
    exact h.pg false monitored (by simp [state]) (fun _ => rfl)

/-- A timed channel has no PG (R4): its settled PG is not-good, and a channel that settles or settled is monitored. -/
theorem Channel.riseExpires_sound {e : RailEntry} {level : Nat} {c : Channel} (h : ChannelSafe e level c) :
    (c.riseExpires e).Sound e level c := by
  unfold Channel.riseExpires
  split
  · rename_i state
    have base := h.base (by simp [state])
    split
    · rename_i timed
      exact c.enterOn_sound base (h.not_shed (by simp [state])) (h.order_ne_disable (by simp [state])) (by simp [timed])
    · rename_i monitored
      exact c.enterFault_sound base .riseTimeout (by simpa using monitored)
  · exact h.same

theorem Channel.settleExpires_sound {e : RailEntry} {level : Nat} {c : Channel} (h : ChannelSafe e level c) :
    c.settleExpires.Sound e level c := by
  unfold Channel.settleExpires
  split
  · rename_i state
    exact c.enterOn_sound (h.base (by simp [state])) (h.not_shed (by simp [state])) (h.order_ne_disable (by simp [state]))
      fun monitored => h.good monitored (.inl state)
  · exact h.same

theorem Channel.fallExpires_sound {e : RailEntry} {level : Nat} {c : Channel} (h : ChannelSafe e level c) :
    (c.fallExpires e).Sound e level c := by
  unfold Channel.fallExpires
  split
  · rename_i state
    have base := h.base (by simp [state])
    split
    · rename_i stuck
      exact c.enterFault_sound base .stuckOn (by simp at stuck; exact stuck.1)
    · exact c.enterOff_sound base (h.order_ne_enable (by simp [state]))
  · exact h.same

theorem Channel.withdraw_safe {e : RailEntry} {level : Nat} {c : Channel} (h : ChannelSafe e level c) :
    ChannelSafe e level c.withdraw :=
  ⟨h.rise, h.settle, h.fall, h.kind, h.prior, h.mark, h.shed, nofun, nofun, h.good, h.notGood, h.timed⟩

/-! #### Shedding -/

/-- An energised channel falls under a new mark: an enable order is answered DEFERRED (R17). -/
theorem Channel.shedSet_sound {e : RailEntry} {level level' now : Nat} {c : Channel} (h : ChannelSafe e level c)
    (mark : e.shedAt level' = true) : (c.shedSet e now).Sound e level' c := by
  have energised (hs : c.state = .rising ∨ c.state = .settling ∨ c.state = .on) :
      (c.shedSet e now).Sound e level' c := by
    have notFalling : c.state ≠ .falling := by rintro s; simp [s] at hs
    have notFault : c.state ≠ .fault := by rintro s; simp [s] at hs
    have disable := h.order_ne_disable notFalling
    have base := h.base notFault
    have falls : (({ c with shed := true, order := none } : Channel).enterFalling e now).Sound e level'
        { c with shed := true, order := none } :=
      Channel.enterFalling_sound ⟨base.kind, base.prior, mark.symm, base.timed⟩ nofun nofun
    have answered : ({ c with shed := true } : Channel).answerIf .enable .deferred =
        ({ c with shed := true, order := none }, if c.order = some .enable then some .deferred else none) :=
      Channel.answerIf_enable .deferred disable
    have none : (({ c with shed := true, order := none } : Channel).enterFalling e now).chan.order = none := by
      simpa using falls.pending
    unfold Channel.shedSet
    split
    case h_1 | h_2 | h_3 =>
      simp only [answered]
      exact ⟨falls.safe, fun _ => none, by simp [none]⟩
    all_goals rename_i state; simp [state] at hs
  by_cases hs : c.state = .rising ∨ c.state = .settling ∨ c.state = .on
  · exact energised hs
  · rw [Channel.shedSet_of_not_energised now hs]
    refine ⟨⟨h.rise, h.settle, h.fall, h.kind, h.prior, mark.symm, fun _ => ?_, h.enable, h.disable, h.good, h.notGood,
      h.timed⟩, nofun, id⟩
    cases state : c.state <;> simp_all [ChanStep.same]

/-- A wanted channel that is OFF or FALLING rises again when its mark clears (R18). -/
theorem Channel.shedClear_sound {e : RailEntry} {level level' now : Nat} {c : Channel} (h : ChannelSafe e level c)
    (mark : e.shedAt level' = false) : (c.shedClear e now).Sound e level' c := by
  have cleared : ChannelSafe e level' { c with shed := false } :=
    ⟨h.rise, h.settle, h.fall, h.kind, h.prior, mark.symm, nofun, h.enable, h.disable, h.good, h.notGood, h.timed⟩
  have rises (hs : c.state = .off ∨ c.state = .falling) (want : c.want = true) :
      (({ c with shed := false } : Channel).enterRising e now).Sound e level' c := by
    have enable := h.order_ne_enable (by rcases hs with s | s <;> simp [s])
    have disable : c.order ≠ some .disable := fun order => absurd (want.symm.trans (h.disable order).2) nofun
    obtain ⟨safe, answered, pending⟩ := Channel.enterRising_sound (c := { c with shed := false }) (now := now)
      (cleared.base (by rcases hs with s | s <;> simp [s])) rfl disable (fun order => absurd order enable)
    exact ⟨safe, answered, pending⟩
  unfold Channel.shedClear
  simp only
  split
  · rename_i state
    split
    · rename_i want; exact rises (.inl state) want
    · exact ⟨cleared, nofun, id⟩
  · rename_i state
    split
    · rename_i want; exact rises (.inr state) want
    · exact ⟨cleared, nofun, id⟩
  all_goals exact ⟨cleared, nofun, id⟩

theorem Channel.takeShed_sound {e : RailEntry} {level level' now : Nat} {c : Channel} (h : ChannelSafe e level c) :
    (c.takeShed e now level').Sound e level' c := by
  unfold Channel.takeShed
  split
  · rename_i same
    have mark : c.shed = e.shedAt level' := (eq_of_beq same).symm
    exact ⟨⟨h.rise, h.settle, h.fall, h.kind, h.prior, mark, h.shed, h.enable, h.disable, h.good, h.notGood, h.timed⟩,
      nofun, id⟩
  · split
    · rename_i set; exact Channel.shedSet_sound h set
    · rename_i clear; exact Channel.shedClear_sound h (by simpa using clear)

/-! #### Orders -/

/-- A channel that has taken an order: it keeps its rules, and no order is pending once it is answered. -/
structure ChanStep.Ordered (e : RailEntry) (level : Nat) (st : ChanStep) : Prop where
  safe : ChannelSafe e level st.chan
  answered : st.answer.isSome = true → st.chan.order = none

/-- A step on the way of an order that was given to a channel with none pending. -/
theorem ChanStep.Sound.ordered {e : RailEntry} {level : Nat} {c : Channel} {st : ChanStep} (h : st.Sound e level c) :
    st.Ordered e level := ⟨h.safe, h.answered⟩

/-- The step does not wait: the order is answered at once and none stays pending. -/
theorem ChanStep.Sound.at_once {e : RailEntry} {level : Nat} {c : Channel} {st : ChanStep} (h : st.Sound e level c)
    (none : c.order = none) (a : Answer) : ({ st with answer := some a } : ChanStep).Ordered e level :=
  ⟨h.safe, fun _ => by simpa [none] using h.pending⟩

theorem Channel.takeEnable_ordered {e : RailEntry} {level now : Nat} {c : Channel} (h : ChannelSafe e level c)
    (none : c.order = none) (wait : Bool) : (c.takeEnable e now wait).Ordered e level := by
  have wanted : ChannelSafe e level { c with want := true } :=
    ⟨h.rise, h.settle, h.fall, h.kind, h.prior, h.mark, h.shed, by simp [none], by simp [none], h.good, h.notGood, h.timed⟩
  have waits (hs : c.state = .rising ∨ c.state = .settling) :
      ChannelSafe e level { c with want := true, order := some .enable } :=
    ⟨h.rise, h.settle, h.fall, h.kind, h.prior, h.mark, h.shed, fun _ => ⟨hs, rfl⟩, by simp, h.good, h.notGood, h.timed⟩
  have rises (hs : c.state ≠ .fault) (shed : c.shed = false) (o : Option Order) (ho : o ≠ some .disable) :=
    Channel.enterRising_sound (e := e) (level := level) (now := now) (c := { c with want := true, order := o })
      ⟨(h.base hs).kind, (h.base hs).prior, h.mark, (h.base hs).timed⟩ shed ho fun _ => rfl
  have low (hs : c.state ≠ .fault) : (if c.shed then (⟨{ c with want := true }, some .deferred, Option.none⟩ : ChanStep)
      else if wait then ({ c with want := true, order := some .enable } : Channel).enterRising e now
      else { ({ c with want := true } : Channel).enterRising e now with answer := some .done }).Ordered e level := by
    split
    · exact ⟨wanted, fun _ => none⟩
    · rename_i shed
      have shed : c.shed = false := by simpa using shed
      split
      · exact (rises hs shed _ (by simp)).ordered
      · exact (rises hs shed c.order (by simp [none])).at_once none .done
  unfold Channel.takeEnable
  simp only
  split
  · exact ⟨wanted, fun _ => none⟩
  · exact ⟨wanted, fun _ => none⟩
  · rename_i state
    split
    · exact ⟨waits (.inl state), nofun⟩
    · exact ⟨wanted, fun _ => none⟩
  · rename_i state
    split
    · exact ⟨waits (.inr state), nofun⟩
    · exact ⟨wanted, fun _ => none⟩
  · rename_i state; exact low (by simp [state])
  · rename_i state; exact low (by simp [state])

theorem Channel.takeDisable_ordered {e : RailEntry} {level now : Nat} {c : Channel} (h : ChannelSafe e level c)
    (none : c.order = none) (wait : Bool) : (c.takeDisable e now wait).Ordered e level := by
  have unwanted : ChannelSafe e level { c with want := false } :=
    ⟨h.rise, h.settle, h.fall, h.kind, h.prior, h.mark, h.shed, by simp [none], by simp [none], h.good, h.notGood, h.timed⟩
  have falls (hs : c.state ≠ .fault) (o : Option Order) (ho : o ≠ some .enable) :=
    Channel.enterFalling_sound (e := e) (level := level) (now := now) (c := { c with want := false, order := o })
      ⟨(h.base hs).kind, (h.base hs).prior, h.mark, (h.base hs).timed⟩ ho fun _ => rfl
  have high (hs : c.state ≠ .fault) : (if wait then ({ c with want := false, order := some .disable } : Channel).enterFalling e now
      else { ({ c with want := false } : Channel).enterFalling e now with answer := some .done }).Ordered e level := by
    split
    · exact (falls hs _ (by simp)).ordered
    · exact (falls hs c.order (by simp [none])).at_once none .done
  unfold Channel.takeDisable
  simp only
  split
  · exact ⟨unwanted, fun _ => none⟩
  · rename_i state
    refine ⟨?_, fun _ => none⟩
    have kept := h.mark
    have timed := h.timed
    have rise := h.rise
    have settle := h.settle
    have fall := h.fall
    constructor <;> simp_all
  · rename_i state
    split
    · exact ⟨⟨h.rise, h.settle, h.fall, h.kind, h.prior, h.mark, h.shed, nofun, fun _ => ⟨state, rfl⟩, h.good, h.notGood,
        h.timed⟩, nofun⟩
    · exact ⟨unwanted, fun _ => none⟩
  all_goals rename_i state; exact high (by simp [state])

end Sys2Proof.Machine

namespace Sys2Proof.Machine

/-! ### The rules of the engine and of the rails through the shared operations -/

@[simp] theorem State.modEng_rail (s : State) (f : Engine → Engine) (ch : Fin 12) : (s.modEng f).rail ch = s.rail ch := rfl
@[simp] theorem State.modEng_railEntry (s : State) (f : Engine → Engine) (ch : Fin 12) :
    (s.modEng f).railEntry ch = s.railEntry ch := rfl
@[simp] theorem State.setRail_railEntry (s : State) (ch i : Fin 12) (c : Channel) :
    (s.setRail ch c).railEntry i = s.railEntry i := rfl

/-- The step at the step index follows from the slot and the index. -/
theorem State.currentStep_of_same {s t : State} (plan : t.plan = s.plan) (slot : t.eng.slot = s.eng.slot)
    (index : t.eng.index = s.eng.index) : t.currentStep = s.currentStep := by
  simp [State.currentStep, plan, slot, index]

/-- No channel has an order pending. -/
def State.NoOrders (s : State) : Prop := s.applied = true → ∀ ch : Fin 12, (s.rail ch).order = none

/-- No order is pending where the engine does not wait for a rail (R26, R27). -/
theorem RailsSafe.noOrders {s : State} (h : RailsSafe s) (free : ∀ ch, s.eng.step ≠ .railWait ch) : s.NoOrders := by
  intro applied ch
  cases pending : (s.rail ch).order with
  | none => rfl
  | some o => exact absurd (h.orders applied ch (by simp [pending])).2 (free ch)

/-- Where one channel has no order pending, an engine that waits for it leaves none at the others. -/
theorem RailsSafe.noOrders_of_answered {s : State} (h : RailsSafe s) {ch : Fin 12} (waits : s.eng.step = .railWait ch)
    (answered : (s.rail ch).order = none) : s.NoOrders := by
  intro applied i
  cases pending : (s.rail i).order with
  | none => rfl
  | some o =>
    have other := (h.orders applied i (by simp [pending])).2
    rw [waits] at other
    cases other
    simp [answered] at pending

theorem NoOrders.of_same {s t : State} (frame : t.load = s.load ∧ t.rails = s.rails) (h : s.NoOrders) : t.NoOrders := by
  obtain ⟨load, rails⟩ := frame
  intro applied ch
  simpa [State.rail, rails] using h (by simpa [State.applied, load] using applied) ch

/-- The rules of the rails hold whatever the engine does, where no order is pending. -/
theorem RailsSafe.of_noOrders {s t : State} (frame : t.load = s.load ∧ t.plan = s.plan ∧ t.rails = s.rails ∧
    t.boc.shedLevel = s.boc.shedLevel) (none : s.NoOrders) (h : RailsSafe s) : RailsSafe t := by
  obtain ⟨load, plan, rails, level⟩ := frame
  have rail (ch : Fin 12) : t.rail ch = s.rail ch := by simp [State.rail, rails]
  have phase : t.applied = s.applied := by simp [State.applied, load]
  constructor
  · intro applied ch
    simpa [State.railEntry, plan, rail, level] using h.channels (phase ▸ applied) ch
  · intro applied ch pending
    simp [rail, none (phase ▸ applied) ch] at pending

/-- What every operation that the blocks share carries over of the engine's rules and of the rails'. -/
structure Holds (s t : State) : Prop where
  engine : EngineSafe s → EngineSafe t
  rails : RailsSafe s → RailsSafe t

theorem Holds.refl (s : State) : Holds s s := ⟨id, id⟩

theorem Holds.trans {s t u : State} (h : Holds s t) (g : Holds t u) : Holds s u :=
  ⟨g.engine ∘ h.engine, g.rails ∘ h.rails⟩

/-- An operation that leaves the rails, the sequence in progress and the shed level as they are. -/
theorem Holds.of_run {s t : State} (frame : t.load = s.load ∧ t.plan = s.plan ∧ t.rails = s.rails ∧
    t.boc.shedLevel = s.boc.shedLevel) (run : t.eng.run = s.eng.run) : Holds s t := by
  obtain ⟨load, plan, rails, level⟩ := frame
  refine ⟨.of_run load plan run, fun h => ?_⟩
  obtain ⟨mode, -, -, step, -⟩ := Engine.run_eq_iff.mp run
  have rail (ch : Fin 12) : t.rail ch = s.rail ch := by simp [State.rail, rails]
  have phase : t.applied = s.applied := by simp [State.applied, load]
  constructor
  · intro applied ch
    simpa [State.railEntry, plan, rail, level] using h.channels (phase ▸ applied) ch
  · intro applied ch pending
    rw [mode, step]
    exact h.orders (phase ▸ applied) ch (rail ch ▸ pending)

/-- An operation that leaves the rails, the engine and the shed level as they are. -/
theorem Holds.of_same {s t : State} (frame : t.load = s.load ∧ t.plan = s.plan ∧ t.rails = s.rails ∧
    t.boc.shedLevel = s.boc.shedLevel ∧ t.eng = s.eng) : Holds s t := by
  obtain ⟨load, plan, rails, level, eng⟩ := frame
  exact .of_run ⟨load, plan, rails, level⟩ (by rw [eng])

/-- A change of the sequence in progress where the engine does not wait for a rail. -/
theorem Holds.of_free {s t : State} (free : ∀ ch, s.eng.step ≠ .railWait ch) (frame : t.load = s.load ∧
    t.plan = s.plan ∧ t.rails = s.rails ∧ t.boc.shedLevel = s.boc.shedLevel) (engine : EngineSafe s → EngineSafe t) :
    Holds s t :=
  ⟨engine, fun h => .of_noOrders frame (h.noOrders free) h⟩

/-- An operation that the controller's shed level and the engine follow, of a state with no order pending. -/
structure Frees (s t : State) : Prop where
  engine : EngineSafe s → EngineSafe t
  rails : RailsSafe s → s.NoOrders → RailsSafe t

theorem Frees.of_frame {s t : State} (frame : t.load = s.load ∧ t.plan = s.plan ∧ t.rails = s.rails ∧
    t.boc.shedLevel = s.boc.shedLevel) (engine : EngineSafe s → EngineSafe t) : Frees s t :=
  ⟨engine, fun h none => .of_noOrders frame none h⟩

theorem Frees.holds {s t : State} (h : Frees s t) (free : ∀ ch, s.eng.step ≠ .railWait ch) : Holds s t :=
  ⟨h.engine, fun rails => h.rails rails (rails.noOrders free)⟩

theorem State.stepDone_frees {s : State} (step : s.eng.step ≠ .idle) : Frees s s.stepDone :=
  .of_frame (by simp) fun h => State.stepDone_engineSafe (h.slot_of_step step)

theorem State.stepFail_frees (s : State) (c : FailCause) : Frees s (s.stepFail c) :=
  .of_frame (by simp) fun h => State.stepFail_engineSafe h c

theorem State.endOnAnswer_frees {s : State} (step : s.eng.step ≠ .idle) (ch : Fin 12) (a : Answer) :
    Frees s (s.endOnAnswer ch a) := by
  cases a with
  | done => exact State.stepDone_frees step
  | deferred => exact State.stepDone_frees step
  | failed => exact s.stepFail_frees _

/-! #### Operations that leave the sequence in progress and the rails as they are -/

theorem State.seqEnd_frees (s : State) : Frees s s.seqEnd := .of_frame (by simp) fun _ => s.seqEnd_engineSafe

theorem State.takeClaims_holds (s : State) : Holds s s.takeClaims := .of_run (by simp) (by simp)

theorem State.parkedAtState_holds (s : State) : Holds s s.parkedAtState := .of_same (by simp)

theorem State.driveLine_holds (s : State) (l : Fin 6) (a : Bool) : Holds s (s.driveLine l a) := .of_run (by simp) (by simp)

theorem State.offerRecord_holds (s : State) (b : RecordBody) : Holds s (s.offerRecord b) := .of_same (by simp)

theorem Holds.modBoc (s : State) (f : BrownOut → BrownOut) (level : (f s.boc).shedLevel = s.boc.shedLevel) :
    Holds s (s.modBoc f) := .of_same (by simp [level])

theorem Holds.modFlb (s : State) (f : Bridge → Bridge) : Holds s (s.modFlb f) := .of_same (by simp)

/-! #### A channel's event -/

/-- A channel's event keeps the rules of the rails (R16, R26). -/
theorem RailsSafe.setRail {s : State} (h : RailsSafe s) {ch : Fin 12} {c : Channel}
    (safe : s.applied = true → ChannelSafe (s.railEntry ch) s.boc.shedLevel c)
    (pending : s.applied = true → c.order.isSome = true → s.eng.mode = .running ∧ s.eng.step = .railWait ch) :
    RailsSafe (s.setRail ch c) := by
  have phase : (s.setRail ch c).applied = s.applied := by simp [State.applied]
  have entry (i : Fin 12) : (s.setRail ch c).railEntry i = s.railEntry i := by simp [State.railEntry]
  constructor <;> intro applied i <;> rw [phase] at applied <;> by_cases same : i = ch
  · subst same
    simpa [entry] using safe applied
  · simpa [entry, State.setRail_rail_ne s c same] using h.channels applied i
  · subst same
    simpa using pending applied
  · simpa [State.setRail_rail_ne s c same] using h.orders applied i

theorem State.answerFrom_engineSafe {s : State} (h : EngineSafe s) (ch : Fin 12) (a : Answer) :
    EngineSafe (s.answerFrom ch a) := by
  unfold State.answerFrom
  split
  · rename_i waits
    split
    · exact (State.endOnAnswer_frees (by simp [waits]) ch a).engine h
    · exact h
  · exact h

/-- An answered channel has no order pending: the step that waited for it ends, and any other goes on. -/
theorem State.answerFrom_railsSafe {s : State} (h : RailsSafe s) {ch : Fin 12} (a : Answer)
    (answered : s.applied = true → (s.rail ch).order = none) : RailsSafe (s.answerFrom ch a) := by
  unfold State.answerFrom
  split
  · rename_i c waits
    split
    · rename_i same
      subst same
      refine (State.endOnAnswer_frees (by simp [waits]) c a).rails h fun applied => ?_
      exact h.noOrders_of_answered waits (answered applied) applied
    · exact h
  · exact h

theorem State.dropStep_noOrders {s : State} (h : RailsSafe s) : s.dropStep.NoOrders := by
  unfold State.dropStep
  split
  · rename_i ch waits
    intro applied i
    by_cases same : i = ch
    · subst same; simp [Channel.withdraw]
    · rw [State.setRail_rail_ne s _ same]
      cases pending : (s.rail i).order with
      | none => rfl
      | some o =>
        have other := (h.orders (by simpa [State.applied] using applied) i (by simp [pending])).2
        rw [waits] at other
        cases other
        exact absurd rfl same
  all_goals
    rename_i step
    exact NoOrders.of_same (by simp) (h.noOrders (by simp [step]))

theorem State.dropStep_railsSafe {s : State} (h : RailsSafe s) : RailsSafe s.dropStep := by
  unfold State.dropStep
  split
  · rename_i ch waits
    exact h.setRail (fun applied => Channel.withdraw_safe (h.channels applied ch)) fun _ => nofun
  · exact (s.driveLine_holds _ _).rails h
  all_goals exact h

theorem State.preempt_holds (s : State) : Holds s s.preempt :=
  ⟨fun _ => State.seqEnd_engineSafe _,
    fun h => (State.seqEnd_frees _).rails (State.dropStep_railsSafe h) (State.dropStep_noOrders h)⟩

theorem State.seqEnd_holds {s : State} (free : ∀ ch, s.eng.step ≠ .railWait ch) : Holds s s.seqEnd :=
  s.seqEnd_frees.holds free

/-- A SUSPENDED sequence has no step in progress, so no order is pending (R47). -/
theorem State.seqEnd_holds_of_suspended {s : State} (mode : s.eng.mode ≠ .running) : Holds s s.seqEnd := by
  refine ⟨fun _ => s.seqEnd_engineSafe, fun h => s.seqEnd_frees.rails h fun applied ch => ?_⟩
  cases pending : (s.rail ch).order with
  | none => rfl
  | some o => exact absurd (h.orders applied ch (by simp [pending])).1 mode

theorem State.placeTrip_holds (s : State) (o : ClaimOrigin) : Holds s (s.placeTrip o) := by
  unfold State.placeTrip
  split
  · exact .of_run (by simp) rfl
  · rename_i mode
    exact (State.seqEnd_holds_of_suspended (by simp [mode])).trans (.of_run (by simp) rfl)
  · split
    · exact .refl s
    · exact s.preempt_holds.trans (.of_run (by simp) rfl)

theorem State.placeDescent_holds (s : State) : Holds s s.placeDescent := by
  have placed : Holds s (s.modEng fun e => { e with descent := true }) := .of_run (by simp) rfl
  simp only [State.placeDescent]
  split
  · exact placed
  · rename_i mode
    exact placed.trans (State.seqEnd_holds_of_suspended (by simp [mode]))
  · split
    · split
      · exact placed
      · exact placed.trans (State.preempt_holds _)
    · exact placed.trans (State.preempt_holds _)

/-! #### The shed level -/

theorem State.retarget_holds (s : State) : Holds s s.retarget := .of_same (by simp)

/-- The delivery of a shed level to the channels: every mark follows it, and no order becomes pending (R16 to R18). -/
theorem State.shed_railsSafe {s t : State} (level : Nat) (frame : t.load = s.load ∧ t.plan = s.plan ∧ t.eng = s.eng)
    (rails : t.rails = Vector.ofFn fun ch => (s.shedStep level ch).chan) (shed : t.boc.shedLevel = level)
    (h : RailsSafe s) : RailsSafe t := by
  obtain ⟨load, plan, eng⟩ := frame
  have rail (ch : Fin 12) : t.rail ch = (s.shedStep level ch).chan := by simp [State.rail, rails]
  have phase : t.applied = s.applied := by simp [State.applied, load]
  have entry (ch : Fin 12) : t.railEntry ch = s.railEntry ch := by simp [State.railEntry, plan]
  have sound (applied : t.applied = true) (ch : Fin 12) :
      (s.shedStep level ch).Sound (s.railEntry ch) level (s.rail ch) :=
    Channel.takeShed_sound (h.channels (phase ▸ applied) ch)
  constructor <;> intro applied ch
  · rw [rail, entry, shed]
    exact (sound applied ch).safe
  · intro pending
    rw [eng]
    exact h.orders (phase ▸ applied) ch ((sound applied ch).pending (rail ch ▸ pending))

/-- A new shed level at the channels, in the controller and at the Dimming Path, before any step ends for it. -/
def State.deliverShed (s : State) (level : Nat) : State :=
  ((s.setRails (Vector.ofFn fun ch => (s.shedStep level ch).chan)).modBoc fun b =>
    { b with shedLevel := level, dip := b.peakAt level }).retarget

/-- A shed level that changes is delivered; then the step that waited for a rail it answers ends. -/
theorem State.setShed_eq (s : State) (level : Nat) : s.setShed level =
    if level = s.boc.shedLevel then s
    else match s.eng.step with
      | .railWait ch =>
        match (s.shedStep level ch).answer with
        | some a => (s.deliverShed level).endOnAnswer ch a
        | none => s.deliverShed level
      | _ => s.deliverShed level := rfl

@[simp] theorem State.deliverShed_frame (s : State) (level : Nat) :
    (s.deliverShed level).clock = s.clock ∧ (s.deliverShed level).load = s.load ∧ (s.deliverShed level).plan = s.plan ∧
      (s.deliverShed level).eng = s.eng ∧ (s.deliverShed level).sense = s.sense ∧ (s.deliverShed level).hbu = s.hbu ∧
      (s.deliverShed level).boc = { s.boc with shedLevel := level, dip := s.boc.peakAt level } ∧
      (s.deliverShed level).flb = s.flb ∧ (s.deliverShed level).adu = s.adu ∧ (s.deliverShed level).jnu = s.jnu ∧
      (s.deliverShed level).draws = s.draws ∧ (s.deliverShed level).pending = s.pending ∧
      (s.deliverShed level).rails = Vector.ofFn fun ch => (s.shedStep level ch).chan := by
  simp [State.deliverShed]

theorem State.deliverShed_holds (s : State) (level : Nat) : Holds s (s.deliverShed level) :=
  ⟨.of_run (by simp) (by simp) (by simp), State.shed_railsSafe level (by simp) (by simp) (by simp)⟩

/-- The answer that a shed level gives a step that waits leaves no order pending. -/
theorem State.deliverShed_noOrders {s : State} {level : Nat} {ch : Fin 12} (h : RailsSafe s)
    (waits : s.eng.step = .railWait ch) (answer : (s.shedStep level ch).answer.isSome = true) :
    (s.deliverShed level).NoOrders := by
  have phase : (s.deliverShed level).applied = s.applied := by simp [State.applied]
  intro applied
  have sound : (s.shedStep level ch).Sound (s.railEntry ch) level (s.rail ch) :=
    Channel.takeShed_sound (h.channels (phase ▸ applied) ch)
  exact ((s.deliverShed_holds level).rails h).noOrders_of_answered (by simpa using waits)
    (by simpa [State.rail] using sound.answered answer) applied

theorem State.setShed_holds (s : State) (level : Nat) : Holds s (s.setShed level) := by
  have delivered := s.deliverShed_holds level
  rw [State.setShed_eq]
  split
  · exact .refl s
  · split
    · rename_i ch waits
      split
      · rename_i a answer
        have ends := State.endOnAnswer_frees (s := s.deliverShed level) (by simp [waits]) ch a
        exact ⟨ends.engine ∘ delivered.engine, fun h =>
          ends.rails (delivered.rails h) (State.deliverShed_noOrders h waits (by simp [answer]))⟩
      · exact delivered
    · exact delivered

end Sys2Proof.Machine

namespace Sys2Proof.Machine

/-! ### The steps -/

theorem EngineSafe.modEng_step {s : State} (mode : s.eng.mode = .running) (slot : s.eng.slot ≠ none) {st : StepStatus}
    (ready : st ≠ .idle ∧ st ≠ .lineWait) : EngineSafe (s.modEng fun e => { e with step := st }) :=
  .of_ready mode slot ready

/-- A running sequence at a step: the step is neither idle nor does it wait for a rail. -/
structure State.AtStep (s : State) : Prop where
  mode : s.eng.mode = .running
  step : s.eng.step ≠ .idle
  free : ∀ ch, s.eng.step ≠ .railWait ch

theorem State.AtStep.of_eq {s t : State} (h : s.AtStep) (mode : t.eng.mode = s.eng.mode) (step : t.eng.step = s.eng.step) :
    t.AtStep :=
  ⟨mode ▸ h.mode, step ▸ h.step, step ▸ h.free⟩

theorem State.atStep_iff {s : State} {k : StepKind} : s.atStep k = true ↔ s.applied = true ∧ s.eng.mode = .running ∧
    s.eng.step = .ready ∧ s.currentStep.map Step.kind = some k := by
  simp [State.atStep, and_assoc]

/-- The engine goes on to another status of the step. -/
theorem State.setStep_holds {s : State} (h : s.AtStep) {st : StepStatus} (ready : st ≠ .idle ∧ st ≠ .lineWait) :
    Holds s (s.modEng fun e => { e with step := st }) :=
  .of_free h.free (by simp) fun safe => .modEng_step h.mode (safe.slot_of_step h.step) ready

theorem State.stepDone_holds {s : State} (h : s.AtStep) : Holds s s.stepDone :=
  (State.stepDone_frees h.step).holds h.free

theorem State.stepFail_holds {s : State} (free : ∀ ch, s.eng.step ≠ .railWait ch) (c : FailCause) : Holds s (s.stepFail c) :=
  (s.stepFail_frees c).holds free

theorem State.performLine_holds {s : State} (h : s.AtStep) : Holds s s.performLine := by
  have drives (l : Fin 6) (a : Bool) : (s.driveLine l a).AtStep := by
    obtain ⟨mode, -, -, step, -⟩ := Engine.run_eq_iff.mp (s.driveLine_run l a)
    exact h.of_eq mode step
  unfold State.performLine
  split
  · exact (s.driveLine_holds _ _).trans (State.stepDone_holds (drives _ _))
  · exact (s.driveLine_holds _ _).trans (State.setStep_holds (drives _ _) ⟨nofun, nofun⟩)
  · exact .refl s

/-- A write of the engine that leaves its mode, slot, index and step alone, while a step is to begin or in progress. -/
theorem Holds.modEng_hold {s : State} (h : s.AtStep) (f : Engine → Engine) (same : (f s.eng).mode = s.eng.mode ∧
    (f s.eng).slot = s.eng.slot ∧ (f s.eng).index = s.eng.index ∧ (f s.eng).step = s.eng.step) : Holds s (s.modEng f) := by
  obtain ⟨mode, slot, index, step⟩ := same
  refine .of_free h.free (by simp) fun safe => ?_
  constructor
  · simpa [slot, mode] using safe.slot
  · simp [mode, h.mode]
  · simp [mode, h.mode]
  · simpa [step] using fun _ => h.step
  · intro applied lineWait
    have current : (s.modEng f).currentStep = s.currentStep := State.currentStep_of_same rfl slot index
    exact current ▸ safe.line applied (step ▸ lineWait)

theorem State.lineStep_holds {s : State} (h : s.AtStep) {k : StepKind} (drives : k.drivesLine = true)
    (kind : s.currentStep.map Step.kind = some k) : Holds s (s.lineStep k) := by
  have held : Holds s (s.modEng fun e => { e with quietHold := true }) := .modEng_hold h _ ⟨rfl, rfl, rfl, rfl⟩
  simp only [State.lineStep]
  split
  · split
    · refine .of_free h.free (by simp) fun safe => ?_
      constructor
      · exact safe.slot
      · simp [h.mode]
      · simp [h.mode]
      · simp
      · intro _ _
        have current : ((s.modEng fun e => { e with quietHold := true }).modEng fun e =>
            { e with step := .lineWait }).currentStep = s.currentStep := State.currentStep_of_same rfl rfl rfl
        rw [current, kind]
        simpa using drives
    · exact held.trans (State.performLine_holds (h.of_eq rfl rfl))
  · exact State.performLine_holds h

theorem State.orderTaken_holds {s : State} (h : s.AtStep) (ch : Fin 12) (st : ChanStep)
    (ordered : s.applied = true → ChannelSafe (s.railEntry ch) s.boc.shedLevel (s.rail ch) → (s.rail ch).order = none →
      st.Ordered (s.railEntry ch) s.boc.shedLevel) : Holds s (s.orderTaken ch st) := by
  simp only [State.orderTaken]
  have channels (safe : RailsSafe s) (applied : s.applied = true) :=
    ordered applied (safe.channels applied ch) (safe.noOrders h.free applied ch)
  have others (safe : RailsSafe s) (i : Fin 12) (other : i ≠ ch) (applied : s.applied = true) :
      ((s.setRail ch st.chan).rail i).order = none := by
    rw [State.setRail_rail_ne s _ other]; exact safe.noOrders h.free applied i
  have phase : (s.setRail ch st.chan).applied = s.applied := by simp [State.applied]
  split
  · rename_i a answer
    have ends := State.endOnAnswer_frees (s := s.setRail ch st.chan) (by simpa using h.step) ch a
    refine ⟨fun safe => ends.engine (.of_run (by simp) (by simp) (by simp) safe), fun safe => ?_⟩
    have answered (applied : s.applied = true) := (channels safe applied).answered (by simp [answer])
    have moved : RailsSafe (s.setRail ch st.chan) :=
      safe.setRail (fun applied => (channels safe applied).safe) fun applied => by simp [answered applied]
    refine ends.rails moved fun applied i => ?_
    by_cases same : i = ch
    · subst same; simpa using answered (phase ▸ applied)
    · exact others safe i same (phase ▸ applied)
  · refine ⟨fun safe => .of_ready (by simpa using h.mode) (by simpa using safe.slot_of_step h.step) ⟨nofun, nofun⟩,
      fun safe => ?_⟩
    constructor
    · intro applied i
      by_cases same : i = ch
      · subst same
        simpa using (channels safe (phase ▸ applied)).safe
      · have := safe.channels (phase ▸ applied) i
        rw [← State.setRail_rail_ne s st.chan same] at this
        simpa using this
    · intro applied i pending
      refine ⟨by simpa using h.mode, ?_⟩
      by_cases same : i = ch
      · subst same; simp
      · have none := others safe i same (phase ▸ applied)
        simp only [State.modEng_rail] at pending
        simp [none] at pending

theorem State.awaitStep_holds {s : State} (h : s.AtStep) (i : Fin 2) (a : Bool) (ms : Nat) :
    Holds s (s.awaitStep i a ms) := by
  unfold State.awaitStep
  split
  · exact State.stepDone_holds h
  · exact State.setStep_holds h ⟨nofun, nofun⟩

theorem State.quiesceStep_holds {s : State} (h : s.AtStep) : Holds s s.quiesceStep := by
  have held : Holds s (s.modEng fun e => { e with quiesceHold := true }) := .modEng_hold h _ ⟨rfl, rfl, rfl, rfl⟩
  have at_step : (s.modEng fun e => { e with quiesceHold := true }).AtStep := h.of_eq rfl rfl
  simp only [State.quiesceStep]
  split
  · split
    · exact held.trans (State.stepDone_holds at_step)
    · exact held.trans (State.setStep_holds at_step ⟨nofun, nofun⟩)
  · exact held

theorem State.beginStep_holds {s : State} {k : StepKind} (ready : s.atStep k = true) : Holds s (s.beginStep k) := by
  obtain ⟨-, mode, step, kind⟩ := State.atStep_iff.mp ready
  have h : s.AtStep := ⟨mode, by simp [step], by simp [step]⟩
  cases k with
  | nop => exact State.stepDone_holds h
  | railUp ch w => exact State.orderTaken_holds h ch _ fun _ safe none => Channel.takeEnable_ordered safe none w
  | railDown ch w => exact State.orderTaken_holds h ch _ fun _ safe none => Channel.takeDisable_ordered safe none w
  | delay ms => exact State.setStep_holds h ⟨nofun, nofun⟩
  | line l a => exact State.lineStep_holds h rfl kind
  | linePulse l ms => exact State.lineStep_holds h rfl kind
  | dimLimit v =>
    have capped : Holds s (s.modEng fun e => { e with cap := v }) := .modEng_hold h _ ⟨rfl, rfl, rfl, rfl⟩
    exact (capped.trans (State.retarget_holds _)).trans (State.stepDone_holds (h.of_eq (by simp) (by simp)))
  | await i a ms => exact State.awaitStep_holds h i a ms
  | flashQuiesce => exact State.quiesceStep_holds h
  | flashResume =>
    exact (Holds.modEng_hold h (fun e => { e with quiesceHold := false }) ⟨rfl, rfl, rfl, rfl⟩).trans
      (State.stepDone_holds (h.of_eq rfl rfl))

theorem State.boundary_holds {s : State} (free : ∀ ch, s.eng.step ≠ .railWait ch) (slot : EngineSafe s → s.eng.slot ≠ none) :
    Holds s s.boundary :=
  .of_free free (by simp) fun safe => State.boundary_engineSafe (slot safe)

theorem State.suspend_holds {s : State} (h : s.AtStep) {n : SlotName} (held : s.eng.slot = some n) (up : n.isUp = true) :
    Holds s s.suspend := by
  refine .of_free h.free (by simp) fun safe => ?_
  constructor <;> simp [State.suspend, held]
  cases n <;> simp_all [SlotName.isUp]

theorem State.rejudge_holds {s : State} (h : s.AtStep) : Holds s s.rejudge := by
  unfold State.rejudge
  split
  · split
    · rename_i held
      split
      · rename_i up
        exact State.suspend_holds h held (by simp at up; exact up.1)
      · exact .refl s
    · exact .refl s
  · exact State.boundary_holds h.free fun safe => safe.slot_of_step h.step

theorem State.takeStep_holds {s : State} {k : StepKind} (ready : s.atStep k = true) : Holds s (s.takeStep k) := by
  obtain ⟨-, mode, step, -⟩ := State.atStep_iff.mp ready
  have judged := State.rejudge_holds (s := s) ⟨mode, by simp [step], by simp [step]⟩
  simp only [State.takeStep]
  split
  · rename_i still
    obtain ⟨applied, mode, step, kind⟩ := State.atStep_iff.mp still
    have released : Holds s.rejudge s.rejudge.releaseHold :=
      .modEng_hold ⟨mode, by simp [step], by simp [step]⟩ _ ⟨rfl, rfl, rfl, rfl⟩
    exact (judged.trans released).trans (State.beginStep_holds (State.atStep_iff.mpr ⟨applied, mode, step, kind⟩))
  · exact judged

/-! #### What the engine does of itself -/

theorem State.engineReact_holds {s t : State} (h : s.engineReact = some t) : Holds s t := by
  unfold State.engineReact at h
  split at h
  · cases h
  · split at h
    · rename_i mode
      have rails (u : State) (frame : u.load = s.load ∧ u.plan = s.plan ∧ u.rails = s.rails ∧
          u.boc.shedLevel = s.boc.shedLevel) (engine : EngineSafe s → EngineSafe u) : Holds s u := by
        refine ⟨engine, fun safe => .of_noOrders frame (fun applied ch => ?_) safe⟩
        cases pending : (s.rail ch).order with
        | none => rfl
        | some o => simpa [mode] using (safe.orders applied ch (by simp [pending])).1
      split at h <;> cases h
      · exact rails _ (by simp) fun _ => State.seqBegin_engineSafe _ _
      · exact s.takeClaims_holds
    · rename_i mode
      split at h <;> cases h
      refine ⟨fun safe => State.boundary_engineSafe fun none => ?_, fun safe => .of_noOrders (by simp) (fun applied ch => ?_) safe⟩
      · simpa [mode] using safe.slot.mp none
      · cases pending : (s.rail ch).order with
        | none => rfl
        | some o => simpa [mode] using (safe.orders applied ch (by simp [pending])).1
    · rename_i mode
      split at h
      · rename_i step
        have free : ∀ ch, s.eng.step ≠ .railWait ch := by simp [step]
        split at h
        · cases h
        · split at h <;> cases h
          · exact .of_free free (by simp) fun _ => State.seqStart_engineSafe _ _
          · exact State.seqEnd_holds free
      · rename_i step
        split at h <;> cases h
        exact State.performLine_holds ⟨mode, by simp [step], by simp [step]⟩
      · rename_i step
        split at h <;> cases h
        exact State.stepDone_holds ⟨mode, by simp [step], by simp [step]⟩
      all_goals cases h

end Sys2Proof.Machine

namespace Sys2Proof.Machine

/-! ### The controller and the rails' events -/

theorem State.enterDip_holds (s : State) : Holds s s.enterDip :=
  (Holds.modBoc s _ rfl).trans (State.parkedAtState_holds _)

theorem State.normalFromRecover_holds (s : State) : Holds s s.normalFromRecover := by
  have claimed : Holds s (s.modEng fun e =>
      { e with claimBoard := e.claimBoard || s.boc.heldBoard, claimPanel := e.claimPanel || s.boc.heldPanel }) :=
    .of_run (by simp) rfl
  exact (claimed.trans (.modBoc _ _ rfl)).trans (State.parkedAtState_holds _)

theorem State.restoreStep_holds (s : State) : Holds s s.restoreStep := by
  simp only [State.restoreStep]
  split
  · exact (s.setShed_holds _).trans (State.normalFromRecover_holds _)
  · exact (s.setShed_holds _).trans (.modBoc _ _ rfl)

theorem State.closeDip_holds (s : State) : Holds s s.closeDip := by
  unfold State.closeDip
  split
  · exact ((Holds.modBoc s _ rfl).trans (State.offerRecord_holds _ _)).trans (.modBoc _ _ rfl)
  · exact .refl s

theorem State.enterRecover_holds (s : State) : Holds s s.enterRecover := by
  have recovering := (((Holds.modBoc s (fun b => { b with ride := none }) rfl).trans (State.closeDip_holds _)).trans
    (.modBoc _ (fun b => { b with state := .recover, restore := s.timerIn s.plan.restoreDelayMs }) rfl)).trans
    (State.parkedAtState_holds _)
  simp only [State.enterRecover]
  split
  · exact recovering.trans (State.restoreStep_holds _)
  · exact recovering

theorem State.enterCommit_holds (s : State) (r : CommitReason) : Holds s (s.enterCommit r) :=
  ((Holds.modBoc s _ rfl).trans (State.setShed_holds _ 3)).trans (State.parkedAtState_holds _)

theorem State.markAtRisk_holds (s : State) : Holds s s.markAtRisk := by
  unfold State.markAtRisk
  split
  · exact (Holds.modFlb s _).trans (.modBoc _ _ rfl)
  · exact .refl s

theorem State.enterDescent_holds (s : State) : Holds s s.enterDescent :=
  ((Holds.modBoc s _ rfl).trans (State.placeDescent_holds _)).trans (State.parkedAtState_holds _)

theorem State.enterDark_holds (s : State) : Holds s s.enterDark := by
  have released : Holds s (s.modEng fun e => { e with descent := false }) := .of_run (by simp) rfl
  have begins (t : State) : Holds t t.survivalBegin := by
    unfold State.survivalBegin State.survivalEnd
    split <;> exact .of_same (by simp)
  exact ((released.trans (.modBoc _ _ rfl)).trans (State.parkedAtState_holds _)).trans (begins _)

theorem State.lockBoth_holds (s : State) : Holds s s.lockBoth := .of_run (by simp) rfl

theorem State.rearm_holds (s : State) : Holds s s.rearm := by
  have shed : Holds s ((s.modBoc fun b =>
      { b with state := .normal, mains := none, mainsMet := false, dip := none, reason := .none, notes := none,
               acReturned := false, atRisk := none, survival := .notBegun }).setShed 0) :=
    (Holds.modBoc s _ rfl).trans (State.setShed_holds _ 0)
  have cleared (t : State) : Holds t (t.modEng fun e => { e with boardLock := false, panelLock := false }) :=
    .of_run (by simp) rfl
  simp only [State.rearm]
  split
  · exact (shed.trans (cleared _)).trans (State.parkedAtState_holds _)
  · exact (shed.trans (State.lockBoth_holds _)).trans (State.parkedAtState_holds _)

theorem State.normalFromInit_holds (s : State) : Holds s s.normalFromInit :=
  (Holds.modBoc s _ rfl).trans (State.parkedAtState_holds _)

theorem State.collapseDown_holds (s : State) (n : Option CommitNotes) : Holds s (s.collapseDown n) := by
  have down (target : BocState) : Holds s (((s.modBoc fun b =>
      { b with state := target, ride := none, restore := none, heldBoard := false, heldPanel := false,
               reason := .busCollapse, notes := n }).setShed 3).markAtRisk) :=
    ((Holds.modBoc s _ rfl).trans (State.setShed_holds _ 3)).trans (State.markAtRisk_holds _)
  simp only [State.collapseDown]
  split
  · exact (down _).trans (State.enterDark_holds _)
  · exact ((down _).trans (State.placeTrip_holds _ _)).trans (State.enterDescent_holds _)

theorem State.bocCollapse_holds (s : State) : Holds s s.bocCollapse := by
  unfold State.bocCollapse
  split
  · exact .refl s
  · exact .refl s
  · exact s.collapseDown_holds _
  · exact s.collapseDown_holds _
  · exact s.collapseDown_holds _
  · exact s.collapseDown_holds _
  · exact s.placeTrip_holds _

theorem State.lossInNormal_holds (s : State) : Holds s s.lossInNormal := by
  have opened := (Holds.modBoc s (fun b => { b with stormFound := stormEntries s.sense.uptime s.plan.stormWindowMs b.history })
    rfl).trans (.modBoc _ (fun b => { b with dip := some ⟨s.sense.uptime, b.shedLevel, (b.latest.map BocBudget.reserve).getD 0⟩ }) rfl)
  simp only [State.lossInNormal]
  split
  · exact opened.trans (State.enterCommit_holds _ _)
  · exact opened.trans (State.enterDip_holds _)

theorem State.bocLoss_holds (s : State) : Holds s s.bocLoss := by
  unfold State.bocLoss
  split
  · exact .modBoc s _ rfl
  · exact .modBoc s _ rfl
  · exact s.lossInNormal_holds
  · exact (Holds.modBoc s _ rfl).trans (State.enterDip_holds _)
  all_goals exact .refl s

theorem State.bocReturn_holds (s : State) : Holds s s.bocReturn := by
  unfold State.bocReturn
  split
  · exact .modBoc s _ rfl
  · exact .modBoc s _ rfl
  · exact s.enterRecover_holds
  · exact .modBoc s _ rfl
  · exact .modBoc s _ rfl
  all_goals exact .refl s

theorem State.bocTakes_holds (s : State) (r : Budget) : Holds s (s.bocTakes r) := by
  have kept : Holds s (s.modBoc fun b => b.keep r) := .modBoc s _ rfl
  simp only [State.bocTakes]
  split
  · split
    · exact kept.trans (State.enterCommit_holds _ _)
    · exact kept.trans (State.setShed_holds _ _)
  · split
    · exact (kept.trans (State.markAtRisk_holds _)).trans (State.enterDescent_holds _)
    · exact kept
  all_goals exact kept

theorem State.holdMark_holds (s : State) (d : Domain) : Holds s (s.holdMark d) := by
  cases d <;> exact .modBoc s _ rfl

theorem State.bocFault_holds (s : State) (e : RailEntry) (k : FaultKind) : Holds s (s.bocFault e k) := by
  unfold State.bocFault
  split
  · split
    · exact s.enterCommit_holds _
    · split
      · exact s.holdMark_holds _
      · exact .refl s
  · split
    · exact s.holdMark_holds _
    · exact .refl s
  all_goals exact .refl s

theorem State.engineFault_holds (s : State) (e : RailEntry) : Holds s (s.engineFault e) := by
  unfold State.engineFault
  split
  · exact .refl s
  · exact .of_run (by simp) (by simp)
  · exact s.placeTrip_holds _

theorem State.faultRecord_holds (s : State) (ch : Fin 12) (k : FaultKind) : Holds s (s.faultRecord ch k) :=
  s.offerRecord_holds _

/-- An event of a channel that keeps the channel's rules keeps those of the rails and of the engine (R20, R21, R26). -/
theorem State.chanEvent_holds {s : State} (ch : Fin 12) (st : ChanStep)
    (sound : s.applied = true → ChannelSafe (s.railEntry ch) s.boc.shedLevel (s.rail ch) →
      st.Sound (s.railEntry ch) s.boc.shedLevel (s.rail ch)) : Holds s (s.chanEvent ch st) := by
  have moved : Holds s (s.setRail ch st.chan) := by
    refine ⟨.of_run (by simp) (by simp) (by simp), fun h => h.setRail ?_ ?_⟩
    · exact fun applied => (sound applied (h.channels applied ch)).safe
    · exact fun applied pending => h.orders applied ch ((sound applied (h.channels applied ch)).pending pending)
  have answers {t : State} (a : Answer) (answer : st.answer = some a) (frame : t.load = s.load ∧ t.rails = s.rails.set ch st.chan)
      (h : Holds s t) : Holds s (t.answerFrom ch a) := by
    obtain ⟨load, rails⟩ := frame
    refine ⟨fun safe => State.answerFrom_engineSafe (h.engine safe) ch a, fun safe => ?_⟩
    refine State.answerFrom_railsSafe (h.rails safe) a fun applied => ?_
    have applied : s.applied = true := by simpa [State.applied, load] using applied
    simpa [State.rail, rails] using (sound applied (safe.channels applied ch)).answered (by simp [answer])
  have recorded (k : FaultKind) : Holds s ((s.setRail ch st.chan).faultRecord ch k) :=
    moved.trans (State.faultRecord_holds _ ch k)
  have faulted (u : State) (k : FaultKind) :=
    (u.engineFault_holds (s.railEntry ch)).trans (State.bocFault_holds _ (s.railEntry ch) k)
  simp only [State.chanEvent]
  cases fault : st.fault <;> cases answer : st.answer
  case none.none => exact moved
  case none.some a => exact answers a answer (by simp [State.setRail]) moved
  case some.none k => exact (recorded k).trans (faulted _ k)
  case some.some k a =>
    exact (answers a answer (by simp [State.faultRecord, State.setRail]) (recorded k)).trans (faulted _ k)

/-! ### What follows of itself -/

theorem State.bocReact_holds {s t : State} (h : s.bocReact = some t) : Holds s t := by
  unfold State.bocReact at h
  (repeat' split at h) <;> cases h
  · exact s.normalFromInit_holds
  · exact s.enterDescent_holds
  · exact s.enterDark_holds
  · exact s.rearm_holds

theorem State.react_holds {s t : State} (h : s.react = some t) : Holds s t := by
  rcases State.react_cases h with h | h | h | h | h | h
  · obtain ⟨f, rfl⟩ := State.linkReact_frame h; exact .modFlb s fun _ => f
  · exact State.bocReact_holds h
  · exact State.engineReact_holds h
  · obtain ⟨j, f, v, rfl⟩ := State.survivalWaitEnd_frame h; exact .of_same ⟨rfl, rfl, rfl, rfl, rfl⟩
  · obtain ⟨j, f, rfl⟩ := State.quietWork_frame h; exact .of_same ⟨rfl, rfl, rfl, rfl, rfl⟩
  · obtain ⟨f, rfl⟩ := State.takeOffer_frame h; exact .modFlb s fun _ => f

theorem State.settle_holds (s : State) : Holds s s.settle :=
  State.settle_keeps (P := Holds s) (fun react h => h.trans (State.react_holds react)) (.refl s)

/-- An event, taken after a write that keeps the rules, and what follows from it. -/
theorem Holds.event {s u t : State} (h : Holds s u) (event : Holds u t) : Holds s t.settle :=
  (h.trans event).trans t.settle_holds

/-- A write of the clock, the measurements and what else neither speaks of. -/
theorem Holds.reach (s : State) (n : Nat) : Holds s (s.reach n) := .of_same (by simp)

end Sys2Proof.Machine

namespace Sys2Proof.Machine

/-! ### Every command -/

/-- Part reset and plan application leave the engine without a sequence. -/
theorem EngineSafe.of_reset {s : State} (mode : s.eng.mode = .idle ∧ s.eng.slot = none ∧ s.eng.index = 0 ∧
    s.eng.step = .idle ∧ s.eng.quiesceHold = false ∧ s.eng.quietHold = false) : EngineSafe s := by
  constructor <;> simp [mode]

/-- Before plan application the rails have no rules to keep. -/
theorem RailsSafe.of_held {s : State} (held : s.applied = false) : RailsSafe s := by
  constructor <;> simp [held]

/-- Part reset, or the release of it. -/
theorem Holds.of_reset {s t : State} (held : t.applied = false) (eng : t.eng = Engine.reset) : Holds s t :=
  ⟨fun _ => .of_reset (by simp [eng, Engine.reset]), fun _ => .of_held held⟩

/-- A channel at plan application, where the shed level is 0 (R3, R16). -/
theorem Channel.reset_safe (e : RailEntry) : ChannelSafe e 0 Channel.reset := by
  have level : e.shedAt 0 = false := by simp [RailEntry.shedAt]; omega
  constructor <;> simp [Channel.reset, level]

theorem State.applyBlocks_holds (s u : State) (j : Journal) : Holds u (s.applyBlocks j) := by
  refine ⟨fun _ => .of_reset ⟨rfl, rfl, rfl, rfl, rfl, rfl⟩, fun _ => ?_⟩
  have rail (ch : Fin 12) : (s.applyBlocks j).rail ch = Channel.reset := by simp [State.rail, State.applyBlocks]
  constructor <;> intro _ ch
  · rw [rail]; exact Channel.reset_safe _
  · simp [rail, Channel.reset]

theorem State.applyPlan_holds (s u : State) (j : Journal) (v : Nat) : Holds u (s.applyPlan j v) := by
  simp only [State.applyPlan]
  split
  · exact .of_reset rfl rfl
  · exact (s.applyBlocks_holds u j).event (State.offerRecord_holds _ _)

theorem State.fallBack_holds (s u : State) (v : Nat) : Holds u (s.fallBack v) := State.applyPlan_holds _ u _ v

/-- Before plan application what is written of the load is not followed by the rails. -/
theorem Holds.ofLoad {s t : State} (held : s.applied = false ∧ t.applied = false) (eng : t.eng = s.eng) : Holds s t :=
  ⟨fun h => by
    constructor
    · simpa [eng] using h.slot
    · simpa [eng] using h.idle
    · simpa [eng] using h.suspended
    · simpa [eng] using h.running
    · simp [held], fun _ => .of_held held.2⟩

theorem State.prepareImage_holds {s u : State} (v : Nat) (held : u.applied = false) (eng : s.eng = u.eng) :
    Holds u (s.prepareImage v) := by
  simp only [State.prepareImage]
  split
  · exact .ofLoad ⟨held, by simp [State.applied]⟩ eng
  · exact State.applyPlan_holds _ u _ v

theorem State.stepEvent_holds (s : State) (k : StepKind) : Holds s (s.stepEvent k) := by
  unfold State.stepEvent
  split
  · rename_i ready
    exact (Holds.refl s).event (State.takeStep_holds ready)
  · exact .refl s

theorem State.auxSeen_holds (s : State) (i : Fin 2) (a : Bool) : Holds s (s.auxSeen i a) := by
  unfold State.auxSeen
  split
  · rename_i step
    split
    · exact (State.stepDone_frees (by simp [step])).holds (by simp [step])
    · exact .refl s
  · exact .refl s

/-! #### The flash link -/

theorem State.openXfer_holds (s : State) (k : FlashClass) (o : Byte) : Holds s (s.openXfer k o) := by
  have write (x : Xfer) (u : UOut) : Holds s (s.setXfer x u) := .modFlb s _
  simp only [State.openXfer]
  split
  · exact .refl s
  · split
    · exact write _ _
    · split
      · exact .refl s
      · split
        · unfold State.tenureOpcode
          split
          · exact write _ _
          · exact (s.offerRecord_holds _).event (.modFlb _ _)
        · exact .of_same (by simp)

theorem State.closeXfer_holds (s : State) (o : Option Byte) (b : List Byte) : Holds s (s.closeXfer o b) := by
  unfold State.closeXfer
  split
  · split
    · exact (Holds.refl s).event (.of_same (by simp))
    · exact .refl s
  · exact .refl s

theorem State.assertXfer_holds (s : State) : Holds s s.assertXfer := .of_same (by simp)

theorem State.linkEvent_holds (s : State) (k : FlashClass) (p : Span) (o : Byte) (b : List Byte) :
    Holds s (s.linkEvent k p o b) := by
  cases p with
  | asserted => exact s.assertXfer_holds
  | opening => exact s.openXfer_holds k o
  | closing => exact s.closeXfer_holds (some o) b
  | whole =>
    simp only [State.linkEvent]
    split
    · exact (s.openXfer_holds k o).trans (State.closeXfer_holds _ _ b)
    · exact .refl s

theorem State.opEnd_holds (s : State) (f : InFlight) (b : Bool) : Holds s (s.opEnd f b) := by
  obtain ⟨j, g, v, e⟩ := s.opEnd_frame f b
  rw [e]; exact .of_same ⟨rfl, rfl, rfl, rfl, rfl⟩

theorem exec_holds (c : Instr) (s t : State) (h : exec c s = .next t) : Holds s t := by
  cases c <;> cases h
  case partReset cause =>
    cases cause <;> simp only <;> split
    · exact .of_reset rfl rfl
    · exact .refl s
    · exact .of_reset rfl rfl
    · exact .refl s
  case partResetRelease p a b ended =>
    have ends : Holds s (s.causeEnds ended) := .of_same (by simp)
    simp only
    (repeat' split)
    · exact .refl s
    · exact ends
    · exact .of_reset rfl rfl
  case oscWaitEnd =>
    simp only
    split
    · rename_i phase
      exact .ofLoad ⟨by simp [State.applied, phase], by simp [State.applied]⟩ rfl
    · exact .refl s
  case flashWaitStatusRead b =>
    simp only
    split
    · rename_i phase
      have held : s.applied = false := by simp [State.applied, phase]
      (repeat' split) <;> exact .ofLoad ⟨held, by simp [State.applied, phase]⟩ rfl
    · exact .refl s
  case planHeaderReadEnd b =>
    simp only
    split
    · rename_i phase
      have held : s.applied = false := by simp [State.applied, phase]
      split
      · exact .ofLoad ⟨held, held⟩ rfl
      · exact State.fallBack_holds _ s _
    · exact .refl s
  case planBodyReadEnd b v =>
    simp only
    split
    · rename_i phase
      have held : s.applied = false := by simp [State.applied, phase]
      split
      · exact State.prepareImage_holds v held rfl
      · exact State.fallBack_holds _ s _
    · exact .refl s
  case journalScanSectorRead b v =>
    simp only
    split
    · rename_i phase
      have held : s.applied = false := by simp [State.applied, phase]
      split
      · exact .ofLoad ⟨held, held⟩ rfl
      · exact State.applyPlan_holds _ s _ _
    · exact .refl s
  case scanCompletion =>
    simp only
    (repeat' split)
    · exact .of_same (by simp)
    · exact .of_same (by simp)
    · exact .refl s
  case bocComputation =>
    (repeat' split)
    · exact Holds.event (u := s.modSense _) (.of_same (by simp)) (State.bocTakes_holds _ _)
    all_goals exact .refl s
  case aduComputation =>
    (repeat' split)
    · exact (Holds.refl s).event (.of_same (by simp))
    all_goals exact .refl s
  case busCollapse =>
    split
    · exact Holds.event (u := s.modSense _) (.of_same (by simp)) (State.bocCollapse_holds _)
    · exact .refl s
  case uptimeTick =>
    split
    · exact .of_same (by simp)
    · exact .refl s
  case dipEntryStale pos =>
    split
    · exact .modBoc s _ rfl
    · exact .refl s
  case filteredPgGood ch pin =>
    split
    · rename_i due
      simp [State.pgFollowed] at due
      refine Holds.event (u := s.pgFiltered ch pin) (.of_same (by simp)) (State.chanEvent_holds ch _ fun _ safe => ?_)
      exact Channel.pgBecomesGood_sound safe due.1.1.2
    · exact .refl s
  case filteredPgNotGood ch pin =>
    split
    · rename_i due
      simp [State.pgFollowed] at due
      refine Holds.event (u := s.pgFiltered ch pin) (.of_same (by simp)) (State.chanEvent_holds ch _ fun _ safe => ?_)
      exact Channel.pgBecomesNotGood_sound safe due.1.1.2
    · exact .refl s
  case riseTimerExpiry ch =>
    split
    · exact (Holds.reach s _).event (State.chanEvent_holds ch _ fun _ safe => Channel.riseExpires_sound safe)
    · exact .refl s
  case settleTimerExpiry ch =>
    split
    · exact (Holds.reach s _).event (State.chanEvent_holds ch _ fun _ safe => Channel.settleExpires_sound safe)
    · exact .refl s
  case fallTimerExpiry ch =>
    split
    · exact (Holds.reach s _).event (State.chanEvent_holds ch _ fun _ safe => Channel.fallExpires_sound safe)
    · exact .refl s
  case auxChange input pin =>
    split
    · have filtered (a : Bool) : Holds s (s.auxFiltered input pin a) := .of_same (by simp)
      exact (filtered _).event (State.auxSeen_holds _ _ _)
    · exact .refl s
  case requestChange r pin =>
    split
    · have taken : Holds s ((s.requestFiltered r pin).requestTaken r pin.high) := by
        cases r <;> exact .of_run (by simp) rfl
      exact taken.event (.refl _)
    · exact .refl s
  case acOkLoss pin =>
    split
    · exact Holds.event (u := (s.acOkFiltered pin).modSense fun m =>
        { m with acOk := false, dipSince := some (s.acOkFiltered pin).clock, dipHeld := 0 }) (.of_same (by simp))
        (State.bocLoss_holds _)
    · exact .refl s
  case acOkReturn pin =>
    split
    · exact Holds.event (u := (s.acOkFiltered pin).modSense fun m =>
        { m with acOk := true, dipSince := none, dipHeld := (s.acOkFiltered pin).dipCount }) (.of_same (by simp))
        (State.bocReturn_holds _)
    · exact .refl s
  case rideTimerExpiry =>
    split
    · exact (Holds.reach s _).event (State.enterCommit_holds _ _)
    · exact .refl s
  case restoreTimerExpiry =>
    split
    · exact (Holds.reach s _).event ((Holds.modBoc _ _ rfl).trans (State.restoreStep_holds _))
    · exact .refl s
  case mainsTimerExpiry =>
    split
    · exact (Holds.reach s _).event (Holds.modBoc _ _ rfl)
    · exact .refl s
  case railUp r w => exact s.stepEvent_holds _
  case railDown r w => exact s.stepEvent_holds _
  case delay ms => exact s.stepEvent_holds _
  case line l a => exact s.stepEvent_holds _
  case linePulse l ms => exact s.stepEvent_holds _
  case dimLimit v => exact s.stepEvent_holds _
  case await i a ms => exact s.stepEvent_holds _
  case flashQuiesce => exact s.stepEvent_holds _
  case flashResume => exact s.stepEvent_holds _
  case nop => exact s.stepEvent_holds _
  case delayExpiry =>
    split
    · rename_i step
      exact (Holds.reach s _).event ((State.stepDone_frees (by simp [step])).holds (by simp [step]))
    · exact .refl s
  case linePulseExpiry =>
    split
    · rename_i l due step
      have driven : ((s.reach due).driveLine l false).eng.step = .pulsing l due := by
        rw [(Engine.run_eq_iff.mp (State.driveLine_run _ _ _)).2.2.2.1]; simpa using step
      exact (Holds.reach s _).event ((State.driveLine_holds _ _ _).trans
        ((State.stepDone_frees (by simp [driven])).holds (by simp [driven])))
    · exact .refl s
  case awaitTimeout =>
    split
    · rename_i step
      exact (Holds.reach s _).event (State.stepFail_holds (by simp [step]) _)
    · exact .refl s
  case dimInRisingEdge n =>
    split
    · exact .of_same (by simp)
    · exact .refl s
  case dimInFallingEdge n =>
    split
    · exact .of_same (by simp)
    · exact .refl s
  case dimInSteady =>
    split
    · exact .of_same (by simp)
    · exact .refl s
  case dimOutHighTimeEnd =>
    split
    · exact .of_same (by simp)
    · exact .refl s
  case rampExpiry =>
    split
    · exact .of_same (by simp)
    · exact .refl s
  case read p o => exact s.linkEvent_holds _ _ _ _
  case statusRead p o => exact s.linkEvent_holds _ _ _ _
  case writeEnable p o => exact s.linkEvent_holds _ _ _ _
  case writeDisable p o => exact s.linkEvent_holds _ _ _ _
  case otherPass p o => exact s.linkEvent_holds _ _ _ _
  case program p o b => exact s.linkEvent_holds _ _ _ _
  case eraseSector p o b => exact s.linkEvent_holds _ _ _ _
  case eraseBlock p o b => exact s.linkEvent_holds _ _ _ _
  case eraseDevice p o b => exact s.linkEvent_holds _ _ _ _
  case regWrite p o b => exact s.linkEvent_holds _ _ _ _
  case otherBlock p o b => exact s.linkEvent_holds _ _ _ _
  case cutTransaction p =>
    cases p with
    | asserted => exact s.assertXfer_holds
    | opening => exact s.assertXfer_holds
    | closing => exact s.closeXfer_holds _ _
    | whole =>
      simp only
      split
      · exact s.assertXfer_holds.trans (State.closeXfer_holds _ _ _)
      · exact .refl s
  case holdTimerExpiry =>
    split
    · exact (Holds.refl s).event (.of_same (by simp))
    · exact .refl s
  case commandIssued =>
    split
    · exact (Holds.refl s).event (.of_same (by simp))
    · exact .refl s
  case refusingWriteDisableEnd =>
    split
    · exact (Holds.refl s).event (.of_same (by simp))
    · exact .refl s
  case flashPollStart =>
    split
    · exact .of_same (by simp)
    · exact .refl s
  case flashPollComplete b =>
    split
    · exact .refl s
    · refine Holds.event (u := s.pollByte b) (.of_same (by simp)) ?_
      unfold State.pollActs
      (repeat' split)
      · exact .refl _
      · exact State.opEnd_holds _ _ _
      · exact .refl _
    · exact .of_same (by simp)
  case overrun =>
    (repeat' split)
    · exact .refl s
    · exact (Holds.reach s _).event (.modFlb _ _)
    · exact .refl s
  case flashStuck =>
    split
    · exact (Holds.reach s _).event ((State.offerRecord_holds _ _).trans (State.opEnd_holds _ _ _))
    · exact .refl s

/-- Settles O7: an order is pending at the channel the engine waits for alone, so the end of that step leaves none; and a
channel keeps its rules through each of its events. -/
theorem everyStepKeepsRailsSafe : Obligations.EveryStepKeepsRailsSafe :=
  fun _ _ => step_keeps (fun _ _ _ _ h => ⟨h.1, h.2⟩) fun c s t h e => (exec_holds c s t e).rails h

/-- Settles O11, by the same course through the commands. -/
theorem everyStepKeepsEngineSafe : Obligations.EveryStepKeepsEngineSafe :=
  fun _ _ => step_keeps (fun _ _ _ _ h => ⟨h.1, h.2, h.3, h.4, h.5⟩) fun c s t h e => (exec_holds c s t e).engine h

end Sys2Proof.Machine

namespace Sys2Proof.Machine

/-! ### What the engine's and the link's operations leave of the controller's rules -/

/-- What of the controller its rules speak of. -/
def BrownOut.control (b : BrownOut) : BocState × Nat × Bool × Bool × Bool × Bool × Bool × Bool × Bool :=
  (b.state, b.shedLevel, b.dip.isSome, b.ride.isSome, b.restore.isSome, b.mains.isSome, b.heldBoard, b.heldPanel,
    b.notes.isSome)

theorem BrownOut.control_eq_iff {b c : BrownOut} : b.control = c.control ↔ b.state = c.state ∧
    b.shedLevel = c.shedLevel ∧ b.dip.isSome = c.dip.isSome ∧ b.ride.isSome = c.ride.isSome ∧
    b.restore.isSome = c.restore.isSome ∧ b.mains.isSome = c.mains.isSome ∧ b.heldBoard = c.heldBoard ∧
    b.heldPanel = c.heldPanel ∧ b.notes.isSome = c.notes.isSome := by
  simp [BrownOut.control]

/-- An operation that leaves the controller and the descent claim as they are, and domains that are DOWN there. -/
structure Steers (s t : State) : Prop where
  control : t.boc.control = s.boc.control
  descent : t.eng.descent = s.eng.descent
  down : s.eng.bothDown = true → t.eng.bothDown = true

theorem Steers.refl (s : State) : Steers s s := ⟨rfl, rfl, id⟩

theorem Steers.trans {s t u : State} (h : Steers s t) (g : Steers t u) : Steers s u :=
  ⟨g.control.trans h.control, g.descent.trans h.descent, g.down ∘ h.down⟩

theorem Engine.bothDown_iff {e : Engine} : e.bothDown = true ↔ e.board = .down ∧ e.panel = .down := by
  simp [Engine.bothDown]

theorem Steers.state {s t : State} (h : Steers s t) : t.boc.state = s.boc.state :=
  (BrownOut.control_eq_iff.mp h.control).1

theorem Steers.controllerSafe {s t : State} (h : Steers s t) (safe : ControllerSafe s) : ControllerSafe t := by
  obtain ⟨control, descent, down⟩ := h
  obtain ⟨state, level, dip, ride, restore, mains, board, panel, notes⟩ := BrownOut.control_eq_iff.mp control
  constructor
  · rw [state, level]; exact safe.shedZero
  · rw [state, level]; exact safe.shedThree
  · rw [state, dip]; exact safe.dipOpen
  · rw [state]
    intro hs
    have none := safe.dipNone hs
    rw [none] at dip
    simpa using dip
  · rw [state, ride]; exact safe.ride
  · rw [state, restore]; exact safe.restore
  · rw [state, mains]; exact safe.mains
  · rw [state, board, panel]; exact safe.held
  · rw [state, notes]; exact safe.notes
  · rw [state]
    exact fun hs => Engine.bothDown_iff.mp (down (Engine.bothDown_iff.mpr (safe.domains hs)))
  · rw [state, descent]; exact safe.descent

/-- An operation that leaves the controller, the descent claim and the domains as they are. -/
theorem Steers.of_same {s t : State} (boc : t.boc.control = s.boc.control) (eng : t.eng.descent = s.eng.descent ∧
    t.eng.board = s.eng.board ∧ t.eng.panel = s.eng.panel) : Steers s t := by
  obtain ⟨descent, board, panel⟩ := eng
  exact ⟨boc, descent, by simp [Engine.bothDown, board, panel]⟩

theorem ControllerSafe.of_same {s t : State} (h : ControllerSafe s) (boc : t.boc.control = s.boc.control)
    (eng : t.eng.descent = s.eng.descent ∧ t.eng.board = s.eng.board ∧ t.eng.panel = s.eng.panel) : ControllerSafe t :=
  (Steers.of_same boc eng).controllerSafe h

/-- A domain that is DOWN stays DOWN at the completion of a sequence (R37). -/
theorem Engine.domainsComplete_down {e : Engine} (n : SlotName) (h : e.bothDown = true) :
    (e.domainsComplete n).bothDown = true := by
  rw [Engine.bothDown_iff] at h ⊢
  obtain ⟨board, panel⟩ := h
  cases n <;> simp [Engine.domainsComplete, board, panel, DomainState.arriveUp, DomainState.arriveDown]

/-- And at the beginning of one that does not go up (R37). -/
theorem Engine.domainsBegin_down {e : Engine} {n : SlotName} (up : n.isUp = false) (h : e.bothDown = true) :
    (e.domainsBegin n).bothDown = true := by
  rw [Engine.bothDown_iff] at h ⊢
  obtain ⟨board, panel⟩ := h
  cases n <;> simp_all [Engine.domainsBegin, SlotName.isUp, DomainState.goDown]

theorem State.driveLine_steers (s : State) (l : Fin 6) (a : Bool) : Steers s (s.driveLine l a) := by
  refine .of_same (by simp) ?_
  unfold State.driveLine
  (repeat' split) <;> simp

theorem State.lockBoth_steers (s : State) : Steers s s.lockBoth := .of_same rfl ⟨rfl, rfl, rfl⟩

theorem State.takeClaims_steers (s : State) : Steers s s.takeClaims := by
  refine .of_same (by simp) ?_
  unfold State.takeClaims
  (repeat' split) <;> simp [State.lockBoth, State.lockBoard, State.lockPanel]

theorem State.seqEnd_steers (s : State) : Steers s s.seqEnd := .of_same rfl ⟨rfl, rfl, rfl⟩

theorem State.seqComplete_steers (s : State) (n : SlotName) : Steers s (s.seqComplete n) :=
  ⟨by simp, by simp, fun h => Engine.domainsComplete_down n h⟩

theorem State.nextStep_steers (s : State) (n : SlotName) : Steers s (s.nextStep n) := by
  unfold State.nextStep
  split
  · exact .of_same rfl ⟨rfl, rfl, rfl⟩
  · exact s.seqComplete_steers n

theorem State.suspend_steers (s : State) : Steers s s.suspend := .of_same rfl ⟨rfl, rfl, rfl⟩

theorem State.boundary_steers (s : State) : Steers s s.boundary := by
  have taken := s.takeClaims_steers
  simp only [State.boundary]
  split
  · exact taken
  · split
    · split
      · exact taken.trans (State.suspend_steers _)
      · split
        · exact taken.trans (State.seqEnd_steers _)
        · exact taken.trans (State.nextStep_steers _ _)
    · exact taken.trans (State.nextStep_steers _ _)

theorem Steers.modEng (s : State) (f : Engine → Engine) (same : (f s.eng).descent = s.eng.descent ∧
    (f s.eng).board = s.eng.board ∧ (f s.eng).panel = s.eng.panel) : Steers s (s.modEng f) := .of_same rfl same

theorem State.stepDone_steers (s : State) : Steers s s.stepDone :=
  (Steers.modEng s _ ⟨rfl, rfl, rfl⟩).trans (State.boundary_steers _)

theorem State.offerRecord_steers (s : State) (b : RecordBody) : Steers s (s.offerRecord b) :=
  .of_same (by simp) (by simp)

theorem State.lockForFailure_steers (s : State) (n : SlotName) : Steers s (s.lockForFailure n) := by
  cases n <;> exact .of_same rfl ⟨rfl, rfl, rfl⟩

theorem State.stepFail_steers (s : State) (c : FailCause) : Steers s (s.stepFail c) := by
  unfold State.stepFail
  split
  · simp only
    split
    · exact ((s.offerRecord_steers _).trans (State.lockForFailure_steers _ _)).trans (State.seqEnd_steers _)
    · exact (s.offerRecord_steers _).trans (State.stepDone_steers _)
  · exact .refl s

theorem State.endOnAnswer_steers (s : State) (ch : Fin 12) (a : Answer) : Steers s (s.endOnAnswer ch a) := by
  cases a with
  | done => exact s.stepDone_steers
  | deferred => exact s.stepDone_steers
  | failed => exact s.stepFail_steers _

theorem State.answerFrom_steers (s : State) (ch : Fin 12) (a : Answer) : Steers s (s.answerFrom ch a) := by
  unfold State.answerFrom
  split
  · split
    · exact s.endOnAnswer_steers ch a
    · exact .refl s
  · exact .refl s

theorem State.seqStart_steers (s : State) {n : SlotName} (up : n.isUp = false) : Steers s (s.seqStart n) := by
  have begun : Steers s (s.modEng fun e => e.domainsBegin n) := by
    refine ⟨rfl, ?_, fun h => Engine.domainsBegin_down up h⟩
    cases n <;> rfl
  simp only [State.seqStart]
  split
  · exact begun.trans (State.seqComplete_steers _ _)
  · exact begun.trans (.modEng _ _ ⟨rfl, rfl, rfl⟩)

theorem State.seqBegin_steers (s : State) {n : SlotName} (up : n.isUp = false) : Steers s (s.seqBegin n) := by
  unfold State.seqBegin
  split
  · have taken : Steers s (s.modEng fun e => { e with trip := none }) := .modEng s _ ⟨rfl, rfl, rfl⟩
    simp only
    split
    · exact (taken.trans (State.lockBoth_steers _)).trans (State.seqStart_steers _ rfl)
    · exact taken.trans (State.seqStart_steers _ rfl)
  · exact absurd up nofun
  · exact s.seqStart_steers rfl
  · exact absurd up nofun
  all_goals exact s.seqStart_steers rfl

theorem State.dropStep_steers (s : State) : Steers s s.dropStep := by
  unfold State.dropStep
  split
  · exact .of_same (by simp) (by simp)
  · exact s.driveLine_steers _ _
  all_goals exact .refl s

theorem State.preempt_steers (s : State) : Steers s s.preempt := s.dropStep_steers.trans (State.seqEnd_steers _)

theorem State.placeTrip_steers (s : State) (o : ClaimOrigin) : Steers s (s.placeTrip o) := by
  unfold State.placeTrip
  split
  · exact .modEng s _ ⟨rfl, rfl, rfl⟩
  · exact s.seqEnd_steers.trans (.modEng _ _ ⟨rfl, rfl, rfl⟩)
  · split
    · exact .refl s
    · exact s.preempt_steers.trans (.modEng _ _ ⟨rfl, rfl, rfl⟩)

theorem State.markClaim_steers (s : State) (d : Domain) : Steers s (s.markClaim d) := by
  cases d <;> exact .of_same rfl ⟨rfl, rfl, rfl⟩

theorem State.engineFault_steers (s : State) (e : RailEntry) : Steers s (s.engineFault e) := by
  unfold State.engineFault
  split
  · exact .refl s
  · exact s.markClaim_steers _
  · exact s.placeTrip_steers _

theorem State.performLine_steers (s : State) : Steers s s.performLine := by
  unfold State.performLine
  split
  · exact (s.driveLine_steers _ _).trans (State.stepDone_steers _)
  · exact (s.driveLine_steers _ _).trans (.modEng _ _ ⟨rfl, rfl, rfl⟩)
  · exact .refl s

theorem State.lineStep_steers (s : State) (k : StepKind) : Steers s (s.lineStep k) := by
  have held : Steers s (s.modEng fun e => { e with quietHold := true }) := .modEng s _ ⟨rfl, rfl, rfl⟩
  simp only [State.lineStep]
  split
  · split
    · exact held.trans (.modEng _ _ ⟨rfl, rfl, rfl⟩)
    · exact held.trans (State.performLine_steers _)
  · exact s.performLine_steers

theorem State.orderTaken_steers (s : State) (ch : Fin 12) (st : ChanStep) : Steers s (s.orderTaken ch st) := by
  have moved : Steers s (s.setRail ch st.chan) := .of_same (by simp) (by simp)
  simp only [State.orderTaken]
  split
  · exact moved.trans (State.endOnAnswer_steers _ ch _)
  · exact moved.trans (.modEng _ _ ⟨rfl, rfl, rfl⟩)

theorem State.retarget_steers (s : State) : Steers s s.retarget := .of_same (by simp) (by simp)

theorem State.beginStep_steers (s : State) (k : StepKind) : Steers s (s.beginStep k) := by
  cases k with
  | nop => exact s.stepDone_steers
  | railUp ch w => exact s.orderTaken_steers ch _
  | railDown ch w => exact s.orderTaken_steers ch _
  | delay ms => exact .of_same rfl ⟨rfl, rfl, rfl⟩
  | line l a => exact s.lineStep_steers _
  | linePulse l ms => exact s.lineStep_steers _
  | dimLimit v =>
    exact ((Steers.modEng s (fun e => { e with cap := v }) ⟨rfl, rfl, rfl⟩).trans (State.retarget_steers _)).trans
      (State.stepDone_steers _)
  | await i a ms =>
    simp only [State.beginStep, State.awaitStep]
    split
    · exact s.stepDone_steers
    · exact .modEng s _ ⟨rfl, rfl, rfl⟩
  | flashQuiesce =>
    have held : Steers s (s.modEng fun e => { e with quiesceHold := true }) := .modEng s _ ⟨rfl, rfl, rfl⟩
    simp only [State.beginStep, State.quiesceStep]
    split
    · split
      · exact held.trans (State.stepDone_steers _)
      · exact held.trans (.modEng _ _ ⟨rfl, rfl, rfl⟩)
    · exact held
  | flashResume =>
    exact (Steers.modEng s (fun e => { e with quiesceHold := false }) ⟨rfl, rfl, rfl⟩).trans (State.stepDone_steers _)

theorem State.rejudge_steers (s : State) : Steers s s.rejudge := by
  unfold State.rejudge
  split
  · split
    · split
      · exact s.suspend_steers
      · exact .refl s
    · exact .refl s
  · exact s.boundary_steers

theorem State.takeStep_steers (s : State) (k : StepKind) : Steers s (s.takeStep k) := by
  simp only [State.takeStep]
  split
  · have released : Steers s.rejudge s.rejudge.releaseHold := .modEng _ _ ⟨rfl, rfl, rfl⟩
    exact (s.rejudge_steers.trans released).trans (State.beginStep_steers _ k)
  · exact s.rejudge_steers

theorem State.auxSeen_steers (s : State) (i : Fin 2) (a : Bool) : Steers s (s.auxSeen i a) := by
  unfold State.auxSeen
  split
  · split
    · exact s.stepDone_steers
    · exact .refl s
  · exact .refl s

/-- An up sequence begins in NORMAL alone (R41, R22). -/
theorem State.choice_up {s : State} {n : SlotName} (h : s.choice = some (.begin n)) (up : n.isUp = true) :
    s.boc.state = .normal := by
  unfold State.choice at h
  (repeat' split at h) <;> cases h <;> simp_all [SlotName.isUp]

/-- What the engine does of itself leaves the controller as it is; in INIT and DARK both domains stay DOWN. -/
theorem State.engineReact_controllerSafe {s t : State} (h : s.engineReact = some t) (safe : ControllerSafe s) :
    ControllerSafe t := by
  have normal (u : State) (hs : s.boc.state = .normal) (boc : u.boc = s.boc) (descent : u.eng.descent = s.eng.descent) :
      ControllerSafe u := by
    obtain ⟨h1, h2, h3, h4, h5, h6, h7, h8, h9, h10, h11⟩ := safe
    constructor <;> simp_all
  unfold State.engineReact at h
  split at h
  · cases h
  · split at h
    · split at h <;> cases h
      · rename_i n chosen
        cases up : n.isUp
        · exact (s.seqBegin_steers up).controllerSafe safe
        · exact normal _ (State.choice_up chosen up) (by simp) (by simp)
      · exact s.takeClaims_steers.controllerSafe safe
    · split at h <;> cases h
      exact s.boundary_steers.controllerSafe safe
    · split at h
      · split at h
        · cases h
        · split at h <;> cases h
          · rename_i hs
            exact normal _ hs (by simp) (by simp)
          · exact s.seqEnd_steers.controllerSafe safe
      · split at h <;> cases h
        exact s.performLine_steers.controllerSafe safe
      · split at h <;> cases h
        exact s.stepDone_steers.controllerSafe safe
      all_goals cases h

end Sys2Proof.Machine

namespace Sys2Proof.Machine

/-! ### The controller's own operations -/

@[simp] theorem BrownOut.isSome_peakAt (b : BrownOut) (level : Nat) : (b.peakAt level).isSome = b.dip.isSome := by
  unfold BrownOut.peakAt
  split <;> simp

/-- A shed level delivered changes the level, and of the current dip the peak alone (R93, R98). -/
theorem State.setShed_boc (s : State) (level : Nat) : (s.setShed level).boc =
    if level = s.boc.shedLevel then s.boc else { s.boc with shedLevel := level, dip := s.boc.peakAt level } := by
  rw [State.setShed_eq]
  split
  · rfl
  · (repeat' split) <;> simp

@[simp] theorem State.setShed_controller (s : State) (level : Nat) :
    (s.setShed level).boc.shedLevel = level ∧ (s.setShed level).boc.state = s.boc.state ∧
      (s.setShed level).boc.dip.isSome = s.boc.dip.isSome ∧ ((s.setShed level).boc.dip = none ↔ s.boc.dip = none) ∧
      (s.setShed level).boc.ride = s.boc.ride ∧ (s.setShed level).boc.restore = s.boc.restore ∧
      (s.setShed level).boc.mains = s.boc.mains ∧ (s.setShed level).boc.mainsMet = s.boc.mainsMet ∧
      (s.setShed level).boc.heldBoard = s.boc.heldBoard ∧ (s.setShed level).boc.heldPanel = s.boc.heldPanel ∧
      (s.setShed level).boc.notes = s.boc.notes ∧ (s.setShed level).boc.survival = s.boc.survival ∧
      (s.setShed level).eng.descent = s.eng.descent := by
  have eng : (s.setShed level).eng.descent = s.eng.descent := by
    rw [State.setShed_eq]
    (repeat' split) <;> simp
  rw [eng, State.setShed_boc]
  split
  · rename_i same; simp [same]
  · simp [BrownOut.peakAt]
    split <;> simp

theorem State.setShed_down (s : State) (level : Nat) (h : s.eng.bothDown = true) : (s.setShed level).eng.bothDown = true := by
  rw [State.setShed_eq]
  split
  · exact h
  · split
    · split
      · exact (State.endOnAnswer_steers _ _ _).down (by simpa using h)
      · simpa using h
    · simpa using h

/-- COMMIT as it is entered (R107, R108). -/
theorem State.enterCommit_controllerSafe {s : State} (r : CommitReason) (mains : s.boc.mains = none)
    (descent : s.eng.descent = false) : ControllerSafe (s.enterCommit r) := by
  constructor <;> simp_all [State.enterCommit, BocState.committed]

/-- DIP as it is entered, its dip open (R97, R98, R105). -/
theorem State.enterDip_controllerSafe {s : State} (dip : s.boc.dip.isSome = true) (mains : s.boc.mains = none)
    (notes : s.boc.notes = none) (descent : s.eng.descent = false) : ControllerSafe s.enterDip := by
  constructor <;> simp_all [State.enterDip, BocState.committed]

theorem State.normalFromInit_controllerSafe {s : State} (h : ControllerSafe s) (state : s.boc.state = .init) :
    ControllerSafe s.normalFromInit := by
  obtain ⟨h1, h2, h3, h4, h5, h6, h7, h8, h9, h10, h11⟩ := h
  constructor <;> simp_all [State.normalFromInit, BocState.committed]

/-- NORMAL as it is entered from RECOVER at shed level 0 (R104, R106). -/
theorem State.normalFromRecover_controllerSafe {s : State} (level : s.boc.shedLevel = 0) (dip : s.boc.dip = none)
    (timers : s.boc.ride = none ∧ s.boc.mains = none) (notes : s.boc.notes = none) (descent : s.eng.descent = false) :
    ControllerSafe s.normalFromRecover := by
  constructor <;> simp_all [State.normalFromRecover, BocState.committed]

theorem State.restoreStep_controllerSafe {s : State} (h : ControllerSafe s) (state : s.boc.state = .recover) :
    ControllerSafe s.restoreStep := by
  obtain ⟨h1, h2, h3, h4, h5, h6, h7, h8, h9, h10, h11⟩ := h
  simp only [State.restoreStep]
  split
  · rename_i last
    apply State.normalFromRecover_controllerSafe <;> simp_all [BocState.committed]
  · constructor <;> simp_all [BocState.committed]

/-- RECOVER, before a restore delay of 0 has ended. -/
def State.recovering (s : State) : State :=
  ((s.modBoc fun b => { b with ride := none }).closeDip.modBoc fun b =>
    { b with state := .recover, restore := s.timerIn s.plan.restoreDelayMs }).parkedAtState

theorem State.enterRecover_eq (s : State) :
    s.enterRecover = if s.plan.restoreDelayMs = 0 then s.recovering.restoreStep else s.recovering := rfl

/-- The dip closed is no longer the current one, and nothing else of the controller's rules is touched (R103). -/
theorem State.closeDip_control (s : State) :
    s.closeDip.boc.control = ({ s.boc with dip := none } : BrownOut).control := by
  unfold State.closeDip
  split
  · simp [BrownOut.control]
  · rename_i none
    simp [BrownOut.control, none]

theorem State.recovering_controllerSafe {s : State} (h : ControllerSafe s) (state : s.boc.state = .dip) :
    ControllerSafe s.recovering ∧ s.recovering.boc.state = .recover := by
  obtain ⟨h1, h2, h3, h4, h5, h6, h7, h8, h9, h10, h11⟩ := h
  have control := (s.modBoc fun b => { b with ride := none }).closeDip_control
  simp [BrownOut.control] at control
  refine ⟨?_, by simp [State.recovering]⟩
  constructor <;> simp_all [State.recovering, BocState.committed]

theorem State.enterRecover_controllerSafe {s : State} (h : ControllerSafe s) (state : s.boc.state = .dip) :
    ControllerSafe s.enterRecover := by
  obtain ⟨recovering, recover⟩ := State.recovering_controllerSafe h state
  rw [State.enterRecover_eq]
  split
  · exact State.restoreStep_controllerSafe recovering recover
  · exact recovering

/-- The marking of an operation in flight is noted, and touches none of the controller's rules (R109). -/
theorem State.markAtRisk_steers (s : State) : Steers s s.markAtRisk := by
  refine .of_same ?_ (by simp)
  unfold State.markAtRisk
  split <;> simp [BrownOut.control]

@[simp] theorem State.placeDescent_descent (s : State) : s.placeDescent.eng.descent = true := by
  simp only [State.placeDescent]
  (repeat' split) <;> simp

/-- DESCENT as it is entered (R112). -/
theorem State.enterDescent_controllerSafe {s : State} (level : s.boc.shedLevel = 3) (notes : s.boc.notes.isSome = true) :
    ControllerSafe s.enterDescent := by
  constructor <;> simp_all [State.enterDescent, BocState.committed]

theorem State.survivalBegin_steers (s : State) : Steers s s.survivalBegin := by
  refine .of_same ?_ (by simp)
  unfold State.survivalBegin State.survivalEnd
  split <;> simp [BrownOut.control]

/-- DARK as it is entered, both domains DOWN (R113). -/
theorem State.enterDark_controllerSafe {s : State} (level : s.boc.shedLevel = 3) (notes : s.boc.notes.isSome = true)
    (down : s.eng.bothDown = true) : ControllerSafe s.enterDark := by
  rw [Engine.bothDown_iff] at down
  refine (State.survivalBegin_steers _).controllerSafe ?_
  constructor <;> simp_all [BocState.committed]

theorem State.rearm_controllerSafe {s : State} (h : ControllerSafe s) (state : s.boc.state = .dark) :
    ControllerSafe s.rearm := by
  obtain ⟨h1, h2, h3, h4, h5, h6, h7, h8, h9, h10, h11⟩ := h
  simp only [State.rearm]
  split <;> constructor <;> simp_all [BocState.committed]

/-- The controller goes down at a bus collapse, from a state that had not got to DESCENT (R111). -/
theorem State.collapseDown_controllerSafe {s : State} (notes : Option CommitNotes) (some : notes.isSome = true) :
    ControllerSafe (s.collapseDown notes) := by
  have committed (target : BocState) : ((((s.modBoc fun b =>
      { b with state := target, ride := none, restore := none, heldBoard := false, heldPanel := false,
               reason := .busCollapse, notes := notes }).setShed 3).markAtRisk).boc.shedLevel = 3) ∧
      ((((s.modBoc fun b =>
      { b with state := target, ride := none, restore := none, heldBoard := false, heldPanel := false,
               reason := .busCollapse, notes := notes }).setShed 3).markAtRisk).boc.notes.isSome = true) := by
    obtain ⟨-, level, -, -, -, -, -, -, notes⟩ := BrownOut.control_eq_iff.mp (State.markAtRisk_steers ((s.modBoc fun b =>
      { b with state := target, ride := none, restore := none, heldBoard := false, heldPanel := false,
               reason := .busCollapse, notes := notes }).setShed 3)).control
    simp [level, notes, some]
  simp only [State.collapseDown]
  split
  · rename_i down
    refine State.enterDark_controllerSafe (committed _).1 (committed _).2 ?_
    exact (State.markAtRisk_steers _).down (State.setShed_down _ _ down)
  · exact State.enterDescent_controllerSafe (by simpa using (committed _).1) (by simpa using (committed _).2)

theorem State.bocCollapse_controllerSafe {s : State} (h : ControllerSafe s) : ControllerSafe s.bocCollapse := by
  unfold State.bocCollapse
  split
  · exact h
  · exact h
  · exact State.collapseDown_controllerSafe _ rfl
  · exact State.collapseDown_controllerSafe _ rfl
  · exact State.collapseDown_controllerSafe _ rfl
  · rename_i state
    exact State.collapseDown_controllerSafe _ (by simpa [state, BocState.committed] using h.notes)
  · exact (s.placeTrip_steers _).controllerSafe h

theorem State.bocLoss_controllerSafe {s : State} (h : ControllerSafe s) : ControllerSafe s.bocLoss := by
  obtain ⟨h1, h2, h3, h4, h5, h6, h7, h8, h9, h10, h11⟩ := h
  unfold State.bocLoss
  split
  · constructor <;> simp_all [BocState.committed]
  · constructor <;> simp_all [BocState.committed]
  · simp only [State.lossInNormal]
    split
    · apply State.enterCommit_controllerSafe <;> simp_all [State.stormTest, State.openDip]
    · apply State.enterDip_controllerSafe <;> simp_all [State.stormTest, State.openDip, BocState.committed]
  · apply State.enterDip_controllerSafe <;> simp_all [State.openDip, BocState.committed]
  all_goals constructor <;> assumption

theorem State.bocReturn_controllerSafe {s : State} (h : ControllerSafe s) : ControllerSafe s.bocReturn := by
  unfold State.bocReturn
  split
  · obtain ⟨h1, h2, h3, h4, h5, h6, h7, h8, h9, h10, h11⟩ := h
    constructor <;> simp_all [BocState.committed]
  · obtain ⟨h1, h2, h3, h4, h5, h6, h7, h8, h9, h10, h11⟩ := h
    constructor <;> simp_all [BocState.committed]
  · rename_i state
    exact State.enterRecover_controllerSafe h state
  · exact h.of_same rfl ⟨rfl, rfl, rfl⟩
  · exact h.of_same rfl ⟨rfl, rfl, rfl⟩
  all_goals exact h

/-- What the controller keeps of a computation touches none of its rules (R98). -/
theorem State.keep_steers (s : State) (r : Budget) : Steers s (s.modBoc fun b => b.keep r) := by
  refine .of_same ?_ ⟨rfl, rfl, rfl⟩
  simp only [State.modBoc_boc, BrownOut.keep, BrownOut.control]
  split <;> simp

theorem State.bocTakes_controllerSafe {s : State} (r : Budget) (h : ControllerSafe s) : ControllerSafe (s.bocTakes r) := by
  have kept := (s.keep_steers r).controllerSafe h
  have stays := (s.keep_steers r).state
  simp only [State.bocTakes]
  split
  · rename_i state
    rw [state] at stays
    obtain ⟨h1, h2, h3, h4, h5, h6, h7, h8, h9, h10, h11⟩ := kept
    split
    · apply State.enterCommit_controllerSafe <;> simp_all
    · constructor <;> simp_all [BocState.committed]
  · rename_i state
    rw [state] at stays
    split
    · obtain ⟨-, level, -, -, -, -, -, -, notes⟩ := BrownOut.control_eq_iff.mp
        (State.markAtRisk_steers (s.modBoc fun b => b.keep r)).control
      apply State.enterDescent_controllerSafe
      · rw [level]; exact kept.shedThree (by rw [stays]; rfl)
      · rw [notes, ← kept.notes, stays]; rfl
    · exact kept
  all_goals exact kept

theorem State.holdMark_controllerSafe {s : State} (d : Domain) (h : ControllerSafe s)
    (state : s.boc.state = .dip ∨ s.boc.state = .recover) : ControllerSafe (s.holdMark d) := by
  obtain ⟨h1, h2, h3, h4, h5, h6, h7, h8, h9, h10, h11⟩ := h
  cases d <;> constructor <;> simp_all [State.holdMark]

theorem State.bocFault_controllerSafe {s : State} (e : RailEntry) (k : FaultKind) (h : ControllerSafe s) :
    ControllerSafe (s.bocFault e k) := by
  unfold State.bocFault
  split
  · rename_i state
    split
    · obtain ⟨h1, h2, h3, h4, h5, h6, h7, h8, h9, h10, h11⟩ := h
      apply State.enterCommit_controllerSafe <;> simp_all
    · split
      · exact State.holdMark_controllerSafe _ h (.inl state)
      · exact h
  · rename_i state
    split
    · exact State.holdMark_controllerSafe _ h (.inr state)
    · exact h
  all_goals exact h

theorem State.chanEvent_controllerSafe {s : State} (ch : Fin 12) (st : ChanStep) (h : ControllerSafe s) :
    ControllerSafe (s.chanEvent ch st) := by
  have moved : Steers s (s.setRail ch st.chan) := .of_same (by simp) (by simp)
  have recorded (k : FaultKind) : Steers s ((s.setRail ch st.chan).faultRecord ch k) :=
    moved.trans (State.offerRecord_steers _ _)
  have faulted {u : State} (k : FaultKind) (hu : Steers s u) :
      ControllerSafe ((u.engineFault (s.railEntry ch)).bocFault (s.railEntry ch) k) :=
    State.bocFault_controllerSafe _ k ((hu.trans (State.engineFault_steers _ _)).controllerSafe h)
  simp only [State.chanEvent]
  cases st.fault <;> cases st.answer
  case none.none => exact moved.controllerSafe h
  case none.some a => exact (moved.trans (State.answerFrom_steers _ ch a)).controllerSafe h
  case some.none k => exact faulted k (recorded k)
  case some.some k a => exact faulted k ((recorded k).trans (State.answerFrom_steers _ ch a))

/-! ### What follows of itself -/

theorem State.bocReact_controllerSafe {s t : State} (react : s.bocReact = some t) (h : ControllerSafe s) :
    ControllerSafe t := by
  unfold State.bocReact at react
  split at react
  · cases react
  · split at react <;> rename_i state
    · split at react <;> cases react
      exact State.normalFromInit_controllerSafe h state
    · split at react <;> cases react
      exact State.enterDescent_controllerSafe (h.shedThree (by simp [state, BocState.committed]))
        (by rw [← h.notes]; simp [state, BocState.committed])
    · split at react <;> cases react
      rename_i down
      exact State.enterDark_controllerSafe (h.shedThree (by simp [state, BocState.committed]))
        (by rw [← h.notes]; simp [state, BocState.committed]) down
    · split at react <;> cases react
      exact State.rearm_controllerSafe h state
    all_goals cases react

theorem State.react_controllerSafe {s t : State} (react : s.react = some t) (h : ControllerSafe s) : ControllerSafe t := by
  rcases State.react_cases react with react | react | react | react | react | react
  · obtain ⟨f, rfl⟩ := State.linkReact_frame react; exact h.of_same rfl ⟨rfl, rfl, rfl⟩
  · exact State.bocReact_controllerSafe react h
  · exact State.engineReact_controllerSafe react h
  · obtain ⟨j, f, v, rfl⟩ := State.survivalWaitEnd_frame react; exact h.of_same rfl ⟨rfl, rfl, rfl⟩
  · obtain ⟨j, f, rfl⟩ := State.quietWork_frame react; exact h.of_same rfl ⟨rfl, rfl, rfl⟩
  · obtain ⟨f, rfl⟩ := State.takeOffer_frame react; exact h.of_same rfl ⟨rfl, rfl, rfl⟩

theorem State.settle_controllerSafe {s : State} (h : ControllerSafe s) : ControllerSafe s.settle :=
  State.settle_keeps State.react_controllerSafe h

end Sys2Proof.Machine

namespace Sys2Proof.Machine

/-! ### Every command keeps the controller's rules -/

/-- An event that keeps the controller's rules, and what follows from it. -/
theorem Steers.event {s t : State} (h : Steers s t) (safe : ControllerSafe s) : ControllerSafe t.settle :=
  State.settle_controllerSafe (h.controllerSafe safe)

/-- Part reset, and plan application: INIT with both domains DOWN. -/
theorem ControllerSafe.of_reset {s : State} (boc : s.boc = BrownOut.reset) (eng : s.eng.descent = false ∧
    s.eng.board = .down ∧ s.eng.panel = .down) : ControllerSafe s := by
  constructor <;> simp [boc, eng, BrownOut.reset, BocState.committed]

theorem State.applyPlan_controllerSafe (s : State) (j : Journal) (v : Nat) : ControllerSafe (s.applyPlan j v) := by
  simp only [State.applyPlan]
  split
  · exact .of_reset rfl ⟨rfl, rfl, rfl⟩
  · exact (State.offerRecord_steers _ _).event (.of_reset rfl ⟨rfl, rfl, rfl⟩)

theorem State.fallBack_controllerSafe (s : State) (v : Nat) : ControllerSafe (s.fallBack v) :=
  State.applyPlan_controllerSafe _ _ v

theorem State.opEnd_steers (s : State) (f : InFlight) (b : Bool) : Steers s (s.opEnd f b) := by
  obtain ⟨j, g, v, e⟩ := s.opEnd_frame f b
  rw [e]; exact .of_same rfl ⟨rfl, rfl, rfl⟩

theorem State.openXfer_controllerSafe {s : State} (k : FlashClass) (o : Byte) (h : ControllerSafe s) :
    ControllerSafe (s.openXfer k o) := by
  have write (x : Xfer) (u : UOut) : ControllerSafe (s.setXfer x u) := h.of_same rfl ⟨rfl, rfl, rfl⟩
  simp only [State.openXfer]
  split
  · exact h
  · split
    · exact write _ _
    · split
      · exact h
      · split
        · unfold State.tenureOpcode
          split
          · exact write _ _
          · exact Steers.event (.of_same (by simp) (by simp)) h
        · exact h.of_same (by simp) (by simp)

theorem State.closeXfer_controllerSafe {s : State} (o : Option Byte) (b : List Byte) (h : ControllerSafe s) :
    ControllerSafe (s.closeXfer o b) := by
  unfold State.closeXfer
  split
  · split
    · exact Steers.event (.of_same (by simp) (by simp)) h
    · exact h
  · exact h

theorem State.assertXfer_controllerSafe {s : State} (h : ControllerSafe s) : ControllerSafe s.assertXfer :=
  h.of_same (by simp) (by simp)

theorem State.linkEvent_controllerSafe {s : State} (k : FlashClass) (p : Span) (o : Byte) (b : List Byte)
    (h : ControllerSafe s) : ControllerSafe (s.linkEvent k p o b) := by
  cases p with
  | asserted => exact State.assertXfer_controllerSafe h
  | opening => exact State.openXfer_controllerSafe k o h
  | closing => exact State.closeXfer_controllerSafe (some o) b h
  | whole =>
    simp only [State.linkEvent]
    split
    · exact State.closeXfer_controllerSafe _ _ (State.openXfer_controllerSafe k o h)
    · exact h

theorem State.stepEvent_controllerSafe {s : State} (k : StepKind) (h : ControllerSafe s) : ControllerSafe (s.stepEvent k) := by
  unfold State.stepEvent
  split
  · exact (s.takeStep_steers k).event h
  · exact h

theorem exec_controllerSafe (c : Instr) (s t : State) (h : ControllerSafe s) (next : exec c s = .next t) :
    ControllerSafe t := by
  cases c <;> cases next
  case partReset cause =>
    cases cause <;> simp only <;> split
    · exact .of_reset rfl ⟨rfl, rfl, rfl⟩
    · exact h
    · exact .of_reset rfl ⟨rfl, rfl, rfl⟩
    · exact h
  case partResetRelease p a b ended =>
    simp only
    (repeat' split)
    · exact h
    · exact h.of_same (by simp) (by simp)
    · exact .of_reset rfl ⟨rfl, rfl, rfl⟩
  case flashWaitStatusRead | scanCompletion =>
    simp only
    (repeat' split) <;> exact h.of_same (by simp) (by simp)
  case oscWaitEnd | uptimeTick | dimInRisingEdge | dimInFallingEdge | dimInSteady | dimOutHighTimeEnd | rampExpiry
      | flashPollStart =>
    (repeat' split) <;> exact h.of_same (by simp) (by simp)
  case planHeaderReadEnd b =>
    simp only
    (repeat' split)
    · exact h.of_same rfl ⟨rfl, rfl, rfl⟩
    · exact State.fallBack_controllerSafe _ _
    · exact h
  case planBodyReadEnd b v =>
    simp only
    (repeat' split)
    · simp only [State.prepareImage]
      split
      · exact h.of_same rfl ⟨rfl, rfl, rfl⟩
      · exact State.applyPlan_controllerSafe _ _ _
    · exact State.fallBack_controllerSafe _ _
    · exact h
  case journalScanSectorRead b v =>
    simp only
    (repeat' split)
    · exact h.of_same rfl ⟨rfl, rfl, rfl⟩
    · exact State.applyPlan_controllerSafe _ _ _
    · exact h
  case bocComputation =>
    (repeat' split)
    · exact State.settle_controllerSafe (State.bocTakes_controllerSafe _ (h.of_same rfl ⟨rfl, rfl, rfl⟩))
    all_goals exact h
  case aduComputation =>
    (repeat' split)
    · exact Steers.event (.of_same (by simp) (by simp)) h
    all_goals exact h
  case busCollapse =>
    split
    · exact State.settle_controllerSafe (State.bocCollapse_controllerSafe (h.of_same rfl ⟨rfl, rfl, rfl⟩))
    · exact h
  case dipEntryStale pos =>
    split
    · exact h.of_same rfl ⟨rfl, rfl, rfl⟩
    · exact h
  case filteredPgGood ch pin =>
    split
    · exact State.settle_controllerSafe (State.chanEvent_controllerSafe ch _ (h.of_same rfl ⟨rfl, rfl, rfl⟩))
    · exact h
  case filteredPgNotGood ch pin =>
    split
    · exact State.settle_controllerSafe (State.chanEvent_controllerSafe ch _ (h.of_same rfl ⟨rfl, rfl, rfl⟩))
    · exact h
  case riseTimerExpiry ch | settleTimerExpiry ch | fallTimerExpiry ch =>
    split
    · exact State.settle_controllerSafe (State.chanEvent_controllerSafe ch _ (h.of_same rfl ⟨rfl, rfl, rfl⟩))
    · exact h
  case auxChange input pin =>
    split
    · exact (State.auxSeen_steers _ _ _).event (h.of_same rfl ⟨rfl, rfl, rfl⟩)
    · exact h
  case requestChange r pin =>
    split
    · refine Steers.event (.of_same ?_ ?_) h <;> cases r <;> simp [State.requestTaken]
    · exact h
  case acOkLoss pin =>
    split
    · exact State.settle_controllerSafe (State.bocLoss_controllerSafe (h.of_same rfl ⟨rfl, rfl, rfl⟩))
    · exact h
  case acOkReturn pin =>
    split
    · exact State.settle_controllerSafe (State.bocReturn_controllerSafe (h.of_same rfl ⟨rfl, rfl, rfl⟩))
    · exact h
  case rideTimerExpiry =>
    split
    · rename_i running
      have state := h.ride (by simp [running])
      obtain ⟨h1, h2, h3, h4, h5, h6, h7, h8, h9, h10, h11⟩ := h
      refine State.settle_controllerSafe (State.enterCommit_controllerSafe _ ?_ ?_) <;> simp_all
    · exact h
  case restoreTimerExpiry =>
    split
    · rename_i running
      have state := h.restore (by simp [running])
      refine State.settle_controllerSafe (State.restoreStep_controllerSafe ?_ state)
      obtain ⟨h1, h2, h3, h4, h5, h6, h7, h8, h9, h10, h11⟩ := h
      constructor <;> simp_all
    · exact h
  case mainsTimerExpiry =>
    split
    · refine State.settle_controllerSafe ?_
      obtain ⟨h1, h2, h3, h4, h5, h6, h7, h8, h9, h10, h11⟩ := h
      constructor <;> simp_all
    · exact h
  case railUp r w => exact State.stepEvent_controllerSafe _ h
  case railDown r w => exact State.stepEvent_controllerSafe _ h
  case delay ms => exact State.stepEvent_controllerSafe _ h
  case line l a => exact State.stepEvent_controllerSafe _ h
  case linePulse l ms => exact State.stepEvent_controllerSafe _ h
  case dimLimit v => exact State.stepEvent_controllerSafe _ h
  case await i a ms => exact State.stepEvent_controllerSafe _ h
  case flashQuiesce => exact State.stepEvent_controllerSafe _ h
  case flashResume => exact State.stepEvent_controllerSafe _ h
  case nop => exact State.stepEvent_controllerSafe _ h
  case delayExpiry =>
    split
    · exact (State.stepDone_steers _).event (h.of_same rfl ⟨rfl, rfl, rfl⟩)
    · exact h
  case linePulseExpiry =>
    split
    · exact ((State.driveLine_steers _ _ _).trans (State.stepDone_steers _)).event (h.of_same rfl ⟨rfl, rfl, rfl⟩)
    · exact h
  case awaitTimeout =>
    split
    · exact (State.stepFail_steers _ _).event (h.of_same rfl ⟨rfl, rfl, rfl⟩)
    · exact h
  case read p o => exact State.linkEvent_controllerSafe _ _ _ _ h
  case statusRead p o => exact State.linkEvent_controllerSafe _ _ _ _ h
  case writeEnable p o => exact State.linkEvent_controllerSafe _ _ _ _ h
  case writeDisable p o => exact State.linkEvent_controllerSafe _ _ _ _ h
  case otherPass p o => exact State.linkEvent_controllerSafe _ _ _ _ h
  case program p o b => exact State.linkEvent_controllerSafe _ _ _ _ h
  case eraseSector p o b => exact State.linkEvent_controllerSafe _ _ _ _ h
  case eraseBlock p o b => exact State.linkEvent_controllerSafe _ _ _ _ h
  case eraseDevice p o b => exact State.linkEvent_controllerSafe _ _ _ _ h
  case regWrite p o b => exact State.linkEvent_controllerSafe _ _ _ _ h
  case otherBlock p o b => exact State.linkEvent_controllerSafe _ _ _ _ h
  case cutTransaction p =>
    cases p with
    | asserted => exact State.assertXfer_controllerSafe h
    | opening => exact State.assertXfer_controllerSafe h
    | closing => exact State.closeXfer_controllerSafe _ _ h
    | whole =>
      simp only
      split
      · exact State.closeXfer_controllerSafe _ _ (State.assertXfer_controllerSafe h)
      · exact h
  case holdTimerExpiry | commandIssued | refusingWriteDisableEnd =>
    split
    · exact Steers.event (.of_same (by simp) (by simp)) h
    · exact h
  case flashPollComplete b =>
    split
    · exact h
    · have byte : ControllerSafe (s.pollByte b) := h.of_same rfl ⟨rfl, rfl, rfl⟩
      refine State.settle_controllerSafe ?_
      unfold State.pollActs
      (repeat' split)
      · exact byte
      · exact (State.opEnd_steers _ _ _).controllerSafe byte
      · exact byte
    · exact h.of_same rfl ⟨rfl, rfl, rfl⟩
  case overrun =>
    (repeat' split)
    · exact h
    · exact State.settle_controllerSafe (h.of_same rfl ⟨rfl, rfl, rfl⟩)
    · exact h
  case flashStuck =>
    split
    · exact ((State.offerRecord_steers _ _).trans (State.opEnd_steers _ _ _)).event (h.of_same rfl ⟨rfl, rfl, rfl⟩)
    · exact h

/-- Settles O9: each of the controller's operations brings its items to the values of the state it enters, and the
engine's leave the controller alone. -/
theorem everyStepKeepsControllerSafe : Obligations.EveryStepKeepsControllerSafe :=
  fun _ _ => step_keeps (fun _ _ _ _ h => h.of_same rfl ⟨rfl, rfl, rfl⟩) fun c s t h e => exec_controllerSafe c s t h e

end Sys2Proof.Machine

namespace Sys2Proof.Machine

/-! ### The link's rules through the bridge's operations -/

/-- What of the bridge the link's rules speak of. -/
def Bridge.link (f : Bridge) : LinkMode × Option Phase × Option Xfer × Bool × Bool × Bool × Bool :=
  (f.mode, f.tenure.map Tenure.phase, f.xfer, f.issue.isSome, f.inflight.isSome, f.reportless, f.barred)

theorem Bridge.link_eq_iff {f g : Bridge} : f.link = g.link ↔ f.mode = g.mode ∧
    f.tenure.map Tenure.phase = g.tenure.map Tenure.phase ∧ f.xfer = g.xfer ∧ f.issue.isSome = g.issue.isSome ∧
    f.inflight.isSome = g.inflight.isSome ∧ f.reportless = g.reportless ∧ f.barred = g.barred := by
  simp [Bridge.link]

/-- The MAIN_RESET line follows the load phase, the plan and the driven levels. -/
theorem State.mainActive_of_same {s t : State} (load : t.load = s.load) (plan : t.plan = s.plan)
    (lines : t.eng.lines = s.eng.lines) : t.mainActive = s.mainActive := by
  simp [State.mainActive, State.applied, load, plan, lines]

/-- The link's rules speak of the load phase, the MAIN_RESET line, the link, the parked slot and the controller's state
alone. -/
theorem LinkSafe.of_view {s t : State} (h : LinkSafe s) (load : t.applied = s.applied) (main : t.mainActive = s.mainActive)
    (link : t.flb.link = s.flb.link) (parked : t.adu.parked = s.adu.parked) (hold : t.adu.hold.isSome = s.adu.hold.isSome)
    (state : s.adu.parked.isSome = true → t.boc.state = s.boc.state) : LinkSafe t := by
  obtain ⟨mode, phase, xfer, issue, inflight, reportless, barred⟩ := Bridge.link_eq_iff.mp link
  have tenure : t.flb.tenure.isSome = s.flb.tenure.isSome := by simpa using congrArg Option.isSome phase
  have phases : t.phase = s.phase := phase
  have idle : (t.flb.issue = none ↔ s.flb.issue = none) ∧ (t.flb.inflight = none ↔ s.flb.inflight = none) := by
    simp only [← Option.isNone_iff_eq_none, ← Option.not_isSome, issue, inflight, and_self]
  constructor
  · rw [mode, tenure]; exact h.tenure
  · rw [mode, idle.1, idle.2]; exact h.relay
  · rw [mode, xfer]; exact h.intake
  · rw [mode, xfer]; exact h.passed
  · rw [reportless, phases]; exact h.reportless
  · rw [barred, mode, main]; exact h.barred
  · rw [load, mode, xfer]; exact h.loading
  · rw [inflight, idle.1]; exact h.one
  · rw [phases, issue]; exact h.issuing
  · rw [phases, inflight]; exact h.operating
  · rw [phases, idle.1, idle.2]; exact h.waiting
  · rw [phases]; exact h.passing
  · rw [parked, phases]; exact h.parked
  · rw [hold, parked]; exact h.hold
  · rw [parked]; exact h.command
  · rw [parked]
    intro held
    rw [state held]; exact h.dip held

theorem LinkSafe.of_same {s t : State} (h : LinkSafe s) (frame : t.load = s.load ∧ t.plan = s.plan ∧
    t.eng.lines = s.eng.lines ∧ t.adu.parked = s.adu.parked ∧ t.adu.hold = s.adu.hold ∧ t.boc.state = s.boc.state)
    (link : t.flb.link = s.flb.link) : LinkSafe t := by
  obtain ⟨load, plan, lines, parked, hold, state⟩ := frame
  exact h.of_view (by simp [State.applied, load]) (State.mainActive_of_same load plan lines) link parked (by rw [hold])
    fun _ => state

/-- A tenure at a moment at which the bridge decides what it does next: nothing is being issued or in flight. -/
structure Deciding (s : State) : Prop where
  applied : s.applied = true
  mode : s.flb.mode = .tenure
  open_ : s.flb.tenure.isSome = true
  xfer : s.flb.xfer.any Xfer.isIntake = false ∧ s.flb.xfer ≠ some (.selected true)
  barred : s.flb.barred = false
  idle : s.flb.issue = none ∧ s.flb.inflight = none
  reportless : s.flb.reportless = false

/-- The parked slot is empty (R156). -/
def State.Slotless (s : State) : Prop := s.adu.parked = none ∧ s.adu.hold = none

/-- Under an open tenure the plan is applied, no intake is under way and nothing is barred (R121, R142). -/
theorem LinkSafe.under {s : State} (h : LinkSafe s) (open_ : s.flb.tenure.isSome = true) :
    s.applied = true ∧ s.flb.mode = .tenure ∧ (s.flb.xfer.any Xfer.isIntake = false ∧ s.flb.xfer ≠ some (.selected true)) ∧
      s.flb.barred = false := by
  have mode := h.tenure.mpr open_
  refine ⟨?_, mode, ⟨?_, fun passed => ?_⟩, ?_⟩
  · cases applied : s.applied
    · simpa [mode] using (h.loading applied).1
    · rfl
  · cases intake : s.flb.xfer.any Xfer.isIntake
    · rfl
    · simpa [mode] using h.intake intake
  · simpa [mode] using h.passed passed
  · cases barred : s.flb.barred
    · rfl
    · simpa [mode] using (h.barred barred).1

/-- A tenure that closes leaves RELAY, or IGNORE with the MAIN_RESET line active (R127). -/
theorem Deciding.closeTenure {s : State} (h : Deciding s) (slot : s.Slotless) : LinkSafe s.closeTenure := by
  obtain ⟨applied, mode, open_, ⟨intake, passed⟩, barred, ⟨issue, inflight⟩, reportless⟩ := h
  obtain ⟨parked, hold⟩ := slot
  have phase : s.closeTenure.phase = none := rfl
  have still : s.closeTenure.applied = true := applied
  constructor <;> simp_all [State.closeTenure]
  split <;> simp

/-- A command begins to be issued (R131). -/
theorem Deciding.startIssue {s : State} (h : Deciding s) (slot : s.Slotless) (i : Issue) : LinkSafe (s.startIssue i) := by
  obtain ⟨applied, mode, open_, ⟨intake, passed⟩, barred, ⟨issue, inflight⟩, reportless⟩ := h
  obtain ⟨parked, hold⟩ := slot
  obtain ⟨t, tenure⟩ := Option.isSome_iff_exists.mp open_
  have phase : (s.startIssue i).phase = some .issuing := by simp [State.phase, State.startIssue, State.setPhase, tenure]
  have still : (s.startIssue i).applied = true := applied
  constructor <;> simp_all [State.startIssue, State.setPhase]

/-- REFUSING begins: write-disable is sent (R139). -/
theorem Deciding.fateRefuse {s : State} (h : Deciding s) (slot : s.Slotless) (b : Bool) : LinkSafe (s.fateRefuse b) := by
  obtain ⟨applied, mode, open_, ⟨intake, passed⟩, barred, ⟨issue, inflight⟩, reportless⟩ := h
  obtain ⟨parked, hold⟩ := slot
  obtain ⟨t, tenure⟩ := Option.isSome_iff_exists.mp open_
  have phase : (s.fateRefuse b).phase = some .refusing := by simp [State.phase, State.fateRefuse, State.setPhase, tenure]
  have still : (s.fateRefuse b).applied = true := applied
  constructor
  case reportless => exact fun _ => phase
  all_goals simp_all [State.fateRefuse, State.setPhase]

/-- A command is parked in DIP or RECOVER (R156). -/
theorem Deciding.parkCommand {s : State} (h : Deciding s) {c : Command} (op : c.cls.op.isSome = true)
    (state : s.boc.state = .dip ∨ s.boc.state = .recover) : LinkSafe (s.parkCommand c) := by
  obtain ⟨applied, mode, open_, ⟨intake, passed⟩, barred, ⟨issue, inflight⟩, reportless⟩ := h
  obtain ⟨t, tenure⟩ := Option.isSome_iff_exists.mp open_
  have phase : (s.parkCommand c).phase = some .parked := by
    simp [State.phase, State.parkCommand, State.fatePark, State.setPhase, tenure]
  have still : (s.parkCommand c).applied = true := applied
  constructor <;> simp_all [State.parkCommand, State.fatePark, State.setPhase]

theorem Deciding.of_same {s t : State} (h : Deciding s) (load : t.load = s.load) (flb : t.flb = s.flb) : Deciding t := by
  obtain ⟨applied, mode, open_, xfer, barred, idle, reportless⟩ := h
  constructor <;> simp_all [State.applied]

theorem State.Slotless.of_same {s t : State} (h : s.Slotless) (adu : t.adu = s.adu) : t.Slotless := by
  simpa [State.Slotless, adu] using h

theorem Deciding.refuseCommand {s : State} (h : Deciding s) (c : Command) (r : RefusalReason) :
    LinkSafe (s.refuseCommand c r) :=
  Deciding.fateRefuse (s := (s.offerRecord _).emptySlot) (h.of_same (by simp) (by simp)) ⟨rfl, rfl⟩ _

/-- A command that asks for an operation is issued (R130). -/
theorem Deciding.fateAdmitted {s : State} (h : Deciding s) (slot : s.Slotless) {c : Command} (op : c.cls.op.isSome = true) :
    LinkSafe (s.fateAdmitted c) := by
  obtain ⟨o, op⟩ := Option.isSome_iff_exists.mp op
  simp only [State.fateAdmitted, Command.issue, op]
  exact h.startIssue slot _

theorem Deciding.admitParked {s : State} (h : Deciding s) {c : Command} (op : c.cls.op.isSome = true) :
    LinkSafe (s.admitParked c) :=
  Deciding.fateAdmitted (s := s.emptySlot) (h.of_same rfl rfl) ⟨rfl, rfl⟩ op

/-- A class that is refused neither BLOCKED, LOCKED nor RESERVED has a policy; one that is parked waits in DIP or
RECOVER (R153). -/
theorem decide153_admitted {cls : FlashClass} {policy : Option Policy} {boc : BocState} {quiesce cover : Bool}
    (h : decide153 cls policy boc quiesce cover = .admitted) : policy.isSome = true := by
  unfold decide153 at h
  (repeat' split at h) <;> simp_all

theorem decide153_park {cls : FlashClass} {policy : Option Policy} {boc : BocState} {quiesce cover : Bool}
    (h : decide153 cls policy boc quiesce cover = .park) : policy.isSome = true ∧ (boc = .dip ∨ boc = .recover) := by
  unfold decide153 at h
  (repeat' split at h) <;> simp_all

/-- A command with a policy asks for an operation (R149, R153). -/
theorem State.op_of_policy {s : State} {cls : FlashClass} {range : Range}
    (h : (s.effectivePolicy cls range).1.isSome = true) : cls.op.isSome = true := by
  cases cls <;> simp_all [State.effectivePolicy, FlashClass.op]

theorem Deciding.takeCommand {s : State} (h : Deciding s) (slot : s.Slotless) (c : Command)
    (op : c.policy.isSome = true → c.cls.op.isSome = true) : LinkSafe (s.takeCommand c) := by
  unfold State.takeCommand
  split
  · rename_i fate
    exact h.fateAdmitted slot (op (decide153_admitted fate))
  · rename_i fate
    obtain ⟨policy, state⟩ := decide153_park fate
    exact h.parkCommand (op policy) state
  · exact h.refuseCommand c _

/-! #### The parked slot -/

/-- A parked command's tenure decides nothing until the slot empties (R156). -/
theorem LinkSafe.deciding_of_parked {s : State} (h : LinkSafe s) (parked : s.adu.parked.isSome = true) : Deciding s := by
  have phase := h.parked.mp parked
  have open_ : s.flb.tenure.isSome = true := by
    obtain ⟨t, tenure, -⟩ := Option.map_eq_some_iff.mp phase
    simp [tenure]
  obtain ⟨applied, mode, xfer, barred⟩ := h.under open_
  refine ⟨applied, mode, open_, xfer, barred, h.waiting (.inl phase), ?_⟩
  cases reportless : s.flb.reportless
  · rfl
  · simpa [phase] using h.reportless reportless

/-- The link's rules but for the controller's state: those of a state in which the controller has moved on and the
Admission Unit has not yet taken the change. -/
def State.LinkCore (s : State) : Prop := LinkSafe (s.modBoc fun b => { b with state := .dip })

theorem LinkSafe.core {s : State} (h : LinkSafe s) : s.LinkCore := by
  constructor
  · exact h.tenure
  · exact h.relay
  · exact h.intake
  · exact h.passed
  · exact h.reportless
  · exact h.barred
  · exact h.loading
  · exact h.one
  · exact h.issuing
  · exact h.operating
  · exact h.waiting
  · exact h.passing
  · exact h.parked
  · exact h.hold
  · exact h.command
  · exact fun _ => .inl rfl

theorem State.LinkCore.safe {s : State} (h : s.LinkCore)
    (dip : s.adu.parked.isSome = true → s.boc.state = .dip ∨ s.boc.state = .recover) : LinkSafe s := by
  constructor
  · exact h.tenure
  · exact h.relay
  · exact h.intake
  · exact h.passed
  · exact h.reportless
  · exact h.barred
  · exact h.loading
  · exact h.one
  · exact h.issuing
  · exact h.operating
  · exact h.waiting
  · exact h.passing
  · exact h.parked
  · exact h.hold
  · exact h.command
  · exact dip

theorem State.LinkCore.deciding {s : State} (h : s.LinkCore) (parked : s.adu.parked.isSome = true) : Deciding s :=
  (LinkSafe.deciding_of_parked h parked).of_same rfl rfl

/-- The Admission Unit takes a change of the controller's state: a parked command stays in DIP and RECOVER, is issued in
NORMAL and refused from the commitment on (R158). -/
theorem State.LinkCore.parkedAtState {s : State} (h : s.LinkCore) (state : s.boc.state ≠ .init) :
    LinkSafe s.parkedAtState := by
  unfold State.parkedAtState
  split
  · rename_i none
    exact h.safe (by simp [none])
  · rename_i p parked
    have deciding := h.deciding (by simp [parked])
    split
    · exact deciding.admitParked (h.command p parked)
    · exact deciding.refuseCommand _ _
    · exact deciding.refuseCommand _ _
    · exact deciding.refuseCommand _ _
    · contradiction
    · rename_i dip; exact h.safe fun _ => .inl dip
    · rename_i recover; exact h.safe fun _ => .inr recover

theorem State.LinkCore.of_same {s t : State} (h : s.LinkCore) (frame : t.load = s.load ∧ t.plan = s.plan ∧
    t.eng.lines = s.eng.lines ∧ t.adu.parked = s.adu.parked ∧ t.adu.hold = s.adu.hold)
    (link : t.flb.link = s.flb.link) : t.LinkCore := by
  obtain ⟨load, plan, lines, parked, hold⟩ := frame
  exact LinkSafe.of_same h ⟨load, plan, lines, parked, hold, rfl⟩ link

end Sys2Proof.Machine

namespace Sys2Proof.Machine

/-! ### The end of an operation -/

@[simp] theorem State.offerOp_link (s : State) (i : Issue) : (s.offerOp i).flb.link = s.flb.link := rfl

@[simp] theorem State.writeSurvival_link (s : State) (r : Record) (g : Ring) (e : Bool) :
    (s.writeSurvival r g e).flb.link = s.flb.link := by simp [State.writeSurvival]

@[simp] theorem State.survivalHand_link (s : State) (r : Record) : (s.survivalHand r).flb.link = s.flb.link := by
  unfold State.survivalHand
  split
  · simp
  · split
    · simp
    · split
      · split
        · rename_i handed
          obtain ⟨j, rfl⟩ := State.handRecord_frame handed
          rfl
        · simp
      · simp

theorem State.survivalWaitEnd_link {s t : State} (h : s.survivalWaitEnd = some t) : t.flb.link = s.flb.link := by
  unfold State.survivalWaitEnd at h
  (repeat' split at h) <;> cases h
  · simp
  · unfold State.survivalJudge
    split <;> simp
  · simp

theorem State.quietWork_link {s t : State} (h : s.quietWork = some t) : t.flb.link = s.flb.link := by
  unfold State.quietWork at h
  split at h
  · split at h
    · rename_i handed
      obtain ⟨j, rfl⟩ := State.handHead_frame handed
      cases h; rfl
    · split at h
      · rename_i handed
        obtain ⟨j, rfl⟩ := State.handErase_frame handed
        cases h; rfl
      · cases h
  · cases h

@[simp] theorem State.workEnd_link (s : State) (b : Bool) : (s.workEnd b).flb.link = s.flb.link := by
  simp only [State.workEnd]
  (repeat' split) <;> simp

/-- What the work's end leaves of the controller but the note of the SURVIVAL work. -/
@[simp] theorem State.workEnd_state (s : State) (b : Bool) : (s.workEnd b).boc.state = s.boc.state := by
  obtain ⟨j, f, v, e⟩ := s.workEnd_frame' b
  rw [e]

theorem Deciding.of_link {s t : State} (h : Deciding s) (load : t.load = s.load) (link : t.flb.link = s.flb.link) :
    Deciding t := by
  obtain ⟨mode, phase, xfer, issue, inflight, reportless, barred⟩ := Bridge.link_eq_iff.mp link
  have tenure : t.flb.tenure.isSome = s.flb.tenure.isSome := by simpa using congrArg Option.isSome phase
  obtain ⟨applied, mode', open_, xfer', barred', idle, reportless'⟩ := h
  constructor <;> simp_all [State.applied]

/-- The tenure's phase alone changes. -/
theorem Deciding.phase {s : State} (h : Deciding s) (f : Tenure → Tenure) :
    Deciding (s.modFlb fun b => { b with tenure := b.tenure.map f }) := by
  obtain ⟨applied, mode, open_, xfer, barred, idle, reportless⟩ := h
  exact ⟨applied, mode, by simpa using open_, xfer, barred, idle, reportless⟩

theorem Deciding.setFailReport {s : State} (h : Deciding s) : Deciding s.setFailReport := by
  refine h.of_link (by simp) ?_
  unfold State.setFailReport
  (repeat' split) <;> rfl

theorem Deciding.takePiggyback {s : State} (h : Deciding s) (slot : s.Slotless) (i : Issue) (b : Bool) :
    LinkSafe (s.takePiggyback i b) :=
  Deciding.startIssue (h.phase _) slot _

theorem Deciding.offerPiggyback {s : State} (h : Deciding s) (slot : s.Slotless) (n : Nat) (e : Bool) :
    LinkSafe (s.offerPiggyback n e) := by
  have asked := h.phase fun t => { t with phase := .appending, programsLeft := n, eraseLeft := e }
  simp only [State.offerPiggyback]
  split
  · exact asked.closeTenure slot
  · split
    · rename_i handed
      split at handed
      · obtain ⟨j, rfl⟩ := State.handHead_frame handed
        exact Deciding.takePiggyback (s := { s.modFlb _ with jnu := j }) (asked.of_same rfl rfl) (slot.of_same rfl) _ _
      · cases handed
    · split
      · rename_i handed
        split at handed
        · obtain ⟨j, rfl⟩ := State.handErase_frame handed
          exact Deciding.takePiggyback (s := { s.modFlb _ with jnu := j }) (asked.of_same rfl rfl) (slot.of_same rfl) _ _
        · cases handed
      · exact asked.closeTenure slot

theorem Deciding.tenureAtEnd {s : State} (h : Deciding s) (slot : s.Slotless) (f : InFlight) (b : Bool) :
    LinkSafe (s.tenureAtEnd f b) := by
  unfold State.tenureAtEnd
  split
  · rename_i none
    simpa [none] using h.open_
  · split
    · exact h.closeTenure slot
    · exact h.setFailReport.closeTenure (slot.of_same (by simp))
    · split
      · exact h.offerPiggyback slot _ _
      · exact h.closeTenure slot
    · exact h.closeTenure slot
    · split
      · exact h.offerPiggyback slot _ _
      · exact h.closeTenure slot

/-- Outside PARKED the slot is empty (R156). -/
theorem LinkSafe.slotless {s : State} (h : LinkSafe s) (phase : s.phase ≠ some .parked) : s.Slotless := by
  have parked : s.adu.parked = none := by
    cases parked : s.adu.parked with
    | none => rfl
    | some p => exact absurd (h.parked.mp (by simp [parked])) phase
  have hold := h.hold
  exact ⟨parked, by simpa [parked] using hold⟩

/-- What the link is left as once its operation in flight has ended, before the tenure follows. -/
def State.flightEnded (s : State) : State :=
  s.modFlb fun b => { b with inflight := none, nextPoll := none, poll := if b.poll = .live then .stale else b.poll }

/-- The work's end goes before the tenure's. -/
theorem State.opEnd_eq (s : State) (f : InFlight) (b : Bool) : s.opEnd f b =
    ((match f.origin with
      | .internal => s.flightEnded.workEnd b
      | .requested => s.flightEnded).tenureAtEnd f b) := rfl

theorem LinkSafe.flightEnded_deciding {s : State} (h : LinkSafe s) (flight : s.flb.inflight.isSome = true)
    (open_ : s.flb.tenure.isSome = true) : Deciding s.flightEnded ∧ s.flightEnded.Slotless := by
  have issue := h.one flight
  have phase : s.phase ≠ some .parked ∧ s.phase ≠ some .refusing := by
    constructor <;> intro phase
    · simp [(h.waiting (.inl phase)).2] at flight
    · simp [(h.waiting (.inr phase)).2] at flight
  obtain ⟨applied, mode, xfer, barred⟩ := h.under open_
  refine ⟨⟨applied, mode, open_, xfer, barred, ⟨issue, rfl⟩, ?_⟩, h.slotless phase.1⟩
  cases reportless : s.flb.reportless
  · simpa [State.flightEnded] using reportless
  · exact absurd (h.reportless reportless) phase.2

theorem LinkSafe.flightEnded {s : State} (h : LinkSafe s) (closed : s.flb.tenure = none) : LinkSafe s.flightEnded := by
  have phase : s.phase = none := by simp [State.phase, closed]
  have phase' : s.flightEnded.phase = none := by simp [State.phase, State.flightEnded, closed]
  have applied : s.flightEnded.applied = s.applied := rfl
  have main : s.flightEnded.mainActive = s.mainActive := rfl
  obtain ⟨h1, h2, h3, h4, h5, h6, h7, h8, h9, h10, h11, h12, h13, h14, h15, h16⟩ := h
  constructor <;> simp_all [State.flightEnded]

theorem LinkSafe.opEnd {s : State} (h : LinkSafe s) (flight : s.flb.inflight.isSome = true) (f : InFlight) (b : Bool) :
    LinkSafe (s.opEnd f b) := by
  rw [State.opEnd_eq]
  cases closed : s.flb.tenure with
  | none =>
    have ended := h.flightEnded closed
    have none (u : State) (link : u.flb.link = s.flightEnded.flb.link) : u.flb.tenure = none := by
      have phase := (Bridge.link_eq_iff.mp link).2.1
      simpa [State.flightEnded, closed] using phase
    have follows (u : State) (hu : LinkSafe u) (link : u.flb.link = s.flightEnded.flb.link) :
        LinkSafe (u.tenureAtEnd f b) := by
      simp only [State.tenureAtEnd, none u link]; exact hu
    split
    · exact follows _ (ended.of_same (by simp) (by simp)) (by simp)
    · exact follows _ ended rfl
  | some t =>
    obtain ⟨deciding, slot⟩ := h.flightEnded_deciding flight (by simp [closed])
    split
    · exact (deciding.of_link (by simp) (by simp)).tenureAtEnd (slot.of_same (by simp)) f b
    · exact deciding.tenureAtEnd slot f b

/-! ### Operations begun and offered -/

/-- An operation begins in the flash (R131, R132). -/
theorem LinkSafe.startOperation {s : State} (h : LinkSafe s) (i : Issue) (issue : s.flb.issue.isSome = true) :
    LinkSafe (s.startOperation i) := by
  have relay : s.flb.mode ≠ .relay := fun relay => by simp [(h.relay relay).1] at issue
  have waiting : s.phase ≠ some .parked ∧ s.phase ≠ some .refusing := by
    constructor <;> intro phase
    · simp [(h.waiting (.inl phase)).1] at issue
    · simp [(h.waiting (.inr phase)).1] at issue
  obtain ⟨parked, hold⟩ := h.slotless waiting.1
  have reportless : s.flb.reportless = false := by
    cases reportless : s.flb.reportless
    · rfl
    · exact absurd (h.reportless reportless) waiting.2
  have phase : (s.startOperation i).phase = s.phase.map fun _ => .operating := by
    simp [State.phase, State.startOperation, Function.comp_def]
  have applied : (s.startOperation i).applied = s.applied := rfl
  have main : (s.startOperation i).mainActive = s.mainActive := rfl
  obtain ⟨h1, h2, h3, h4, h5, h6, h7, h8, h9, h10, h11, h12, h13, h14, h15, h16⟩ := h
  constructor <;> simp_all [State.startOperation]

/-- REFUSING ends with its tenure (R139). -/
theorem LinkSafe.refusingEnd {s : State} (h : LinkSafe s) (phase : s.phase = some .refusing) (b : Bool) :
    LinkSafe (((s.modFlb fun f => { f with dlinkDue := none, reportless := false }).refusalReport b).closeTenure) := by
  have open_ : s.flb.tenure.isSome = true := by
    obtain ⟨t, tenure, -⟩ := Option.map_eq_some_iff.mp phase
    simp [tenure]
  obtain ⟨applied, mode, xfer, barred⟩ := h.under open_
  have deciding : Deciding (s.modFlb fun f => { f with dlinkDue := none, reportless := false }) :=
    ⟨applied, mode, open_, xfer, barred, h.waiting (.inr phase), rfl⟩
  have slot := h.slotless (by simp [phase])
  unfold State.refusalReport
  split
  · exact deciding.closeTenure slot
  · exact deciding.setFailReport.closeTenure (slot.of_same (by simp))

/-- An internal operation offered is taken (R138). -/
theorem LinkSafe.takeOffer {s t : State} (h : LinkSafe s) (take : s.takeOffer = some t) : LinkSafe t := by
  unfold State.takeOffer at take
  split at take
  · cases take
  · rename_i i offer
    split at take
    · rename_i free
      simp only [Bool.and_eq_true, Option.isNone_iff_eq_none] at free
      obtain ⟨⟨⟨applied, tenure⟩, inflight⟩, issue⟩ := free
      have phase : s.phase = none := by simp [State.phase, tenure]
      obtain ⟨parked, hold⟩ := h.slotless (by simp [phase])
      have reportless : s.flb.reportless = false := by
        cases reportless : s.flb.reportless
        · rfl
        · simp [h.reportless reportless] at phase
      split at take
      · rename_i mode
        split at take <;> cases take
        rename_i barred
        generalize hu : State.startIssue _ _ = u
        have link : u.flb.mode = .ignore ∧ u.flb.tenure = none ∧ u.flb.xfer = s.flb.xfer ∧ u.flb.issue.isSome = true ∧
            u.flb.inflight = none ∧ u.flb.reportless = false ∧ u.flb.barred = false ∧ u.applied = s.applied ∧
            u.adu = s.adu := by
          subst hu
          simp [State.startIssue, State.setPhase, mode, tenure, inflight, reportless, barred, State.applied]
        obtain ⟨mode', tenure', xfer', issue', inflight', reportless', barred', applied', adu'⟩ := link
        have phase' : u.phase = none := by simp [State.phase, tenure']
        obtain ⟨h1, h2, h3, h4, h5, h6, h7, h8, h9, h10, h11, h12, h13, h14, h15, h16⟩ := h
        constructor <;> simp_all
      · rename_i mode
        split at take <;> cases take
        rename_i free
        simp only [Bool.and_eq_true, Option.isNone_iff_eq_none] at free
        have barred : s.flb.barred = false := by
          cases barred : s.flb.barred
          · rfl
          · simpa [mode] using (h.barred barred).1
        refine Deciding.startIssue ?_ ?_ _
        · exact ⟨applied, rfl, rfl, by simp [free.1], barred, ⟨issue, inflight⟩, reportless⟩
        · exact ⟨parked, hold⟩
      · cases take
    · cases take

/-- RELAY and IGNORE follow the MAIN_RESET line (R121). -/
theorem LinkSafe.linkReact {s t : State} (h : LinkSafe s) (react : s.linkReact = some t) : LinkSafe t := by
  unfold State.linkReact at react
  split at react
  · cases react
  · rename_i mode
    split at react <;> cases react
    rename_i cond
    have phase : ∀ p, s.phase ≠ some p := by
      intro p phase
      obtain ⟨t, tenure, -⟩ := Option.map_eq_some_iff.mp phase
      simpa [mode] using h.tenure.mpr (by simp [tenure])
    generalize hu : s.modFlb _ = u
    have link : u.flb = { s.flb with mode := .ignore } ∧ u.applied = s.applied ∧ u.mainActive = s.mainActive ∧
        u.adu = s.adu ∧ u.boc = s.boc ∧ u.phase = s.phase := by
      subst hu; exact ⟨rfl, rfl, rfl, rfl, rfl, rfl⟩
    obtain ⟨flb, applied, main, adu, boc, phase'⟩ := link
    obtain ⟨h1, h2, h3, h4, h5, h6, h7, h8, h9, h10, h11, h12, h13, h14, h15, h16⟩ := h
    constructor <;> simp_all
  · rename_i mode
    split at react <;> cases react
    rename_i cond
    generalize hu : s.modFlb _ = u
    have link : u.flb = { s.flb with mode := .relay, barred := false } ∧ u.applied = s.applied ∧
        u.mainActive = s.mainActive ∧ u.adu = s.adu ∧ u.boc = s.boc ∧ u.phase = s.phase := by
      subst hu; exact ⟨rfl, rfl, rfl, rfl, rfl, rfl⟩
    obtain ⟨flb, applied, main, adu, boc, phase'⟩ := link
    obtain ⟨h1, h2, h3, h4, h5, h6, h7, h8, h9, h10, h11, h12, h13, h14, h15, h16⟩ := h
    constructor <;> simp_all

end Sys2Proof.Machine

namespace Sys2Proof.Machine

/-! ### The driven lines, but for what drives them -/

@[simp] theorem State.lockBoth_lines (s : State) : s.lockBoth.eng.lines = s.eng.lines := by
  simp [State.lockBoth, State.lockBoard, State.lockPanel]

@[simp] theorem State.takeClaims_lines (s : State) : s.takeClaims.eng.lines = s.eng.lines := by
  unfold State.takeClaims; (repeat' split) <;> simp [State.lockBoth, State.lockBoard, State.lockPanel]

@[simp] theorem State.seqEnd_lines (s : State) : s.seqEnd.eng.lines = s.eng.lines := by
  simp [State.seqEnd, Engine.idled]

@[simp] theorem State.seqComplete_lines (s : State) (n : SlotName) : (s.seqComplete n).eng.lines = s.eng.lines := by
  cases n <;> simp [State.seqComplete, Engine.domainsComplete, Engine.idled]

@[simp] theorem State.suspend_lines (s : State) : s.suspend.eng.lines = s.eng.lines := by
  simp [State.suspend]

@[simp] theorem State.nextStep_lines (s : State) (n : SlotName) : (s.nextStep n).eng.lines = s.eng.lines := by
  unfold State.nextStep; split <;> simp

@[simp] theorem State.boundary_lines (s : State) : s.boundary.eng.lines = s.eng.lines := by
  simp only [State.boundary]; (repeat' split) <;> simp

@[simp] theorem State.stepDone_lines (s : State) : s.stepDone.eng.lines = s.eng.lines := by
  simp [State.stepDone]

@[simp] theorem State.lockForFailure_lines (s : State) (n : SlotName) : (s.lockForFailure n).eng.lines = s.eng.lines := by
  cases n <;> simp [State.lockForFailure, State.lockBoth, State.lockBoard, State.lockPanel]

@[simp] theorem State.stepFail_lines (s : State) (c : FailCause) : (s.stepFail c).eng.lines = s.eng.lines := by
  simp only [State.stepFail]; (repeat' split) <;> simp

@[simp] theorem State.endOnAnswer_lines (s : State) (ch : Fin 12) (a : Answer) : (s.endOnAnswer ch a).eng.lines = s.eng.lines := by
  cases a <;> simp [State.endOnAnswer]

@[simp] theorem State.answerFrom_lines (s : State) (ch : Fin 12) (a : Answer) : (s.answerFrom ch a).eng.lines = s.eng.lines := by
  unfold State.answerFrom; (repeat' split) <;> simp

@[simp] theorem State.seqStart_lines (s : State) (n : SlotName) : (s.seqStart n).eng.lines = s.eng.lines := by
  cases n <;> simp only [State.seqStart, Engine.domainsBegin] <;> split <;> simp

@[simp] theorem State.seqBegin_lines (s : State) (n : SlotName) : (s.seqBegin n).eng.lines = s.eng.lines := by
  cases n <;> simp only [State.seqBegin] <;> (repeat' split) <;> simp

@[simp] theorem State.markClaim_lines (s : State) (d : Domain) : (s.markClaim d).eng.lines = s.eng.lines := by
  cases d <;> simp [State.markClaim]

@[simp] theorem State.orderTaken_lines (s : State) (ch : Fin 12) (st : ChanStep) : (s.orderTaken ch st).eng.lines = s.eng.lines := by
  simp only [State.orderTaken]; split <;> simp

@[simp] theorem State.awaitStep_lines (s : State) (i : Fin 2) (a : Bool) (ms : Nat) : (s.awaitStep i a ms).eng.lines = s.eng.lines := by
  unfold State.awaitStep; split <;> simp

@[simp] theorem State.quiesceStep_lines (s : State) : s.quiesceStep.eng.lines = s.eng.lines := by
  simp only [State.quiesceStep]; (repeat' split) <;> simp

@[simp] theorem State.rejudge_lines (s : State) : s.rejudge.eng.lines = s.eng.lines := by
  unfold State.rejudge; (repeat' split) <;> simp

@[simp] theorem State.releaseHold_lines (s : State) : s.releaseHold.eng.lines = s.eng.lines := by
  simp [State.releaseHold]

@[simp] theorem State.auxSeen_lines (s : State) (i : Fin 2) (a : Bool) : (s.auxSeen i a).eng.lines = s.eng.lines := by
  unfold State.auxSeen; (repeat' split) <;> simp

@[simp] theorem State.setShed_lines (s : State) (n : Nat) : (s.setShed n).eng.lines = s.eng.lines := by
  rw [State.setShed_eq]; (repeat' split) <;> simp

/-! ### The link's rules through the engine's and the controller's operations -/

/-- An operation of the engine or a block beside the link: it keeps the link's rules, whatever the controller's state, and
leaves the parked slot and that state as they are. -/
structure Ties (s t : State) : Prop where
  core : s.LinkCore → t.LinkCore
  parked : t.adu.parked = s.adu.parked
  state : t.boc.state = s.boc.state

theorem Ties.refl (s : State) : Ties s s := ⟨id, rfl, rfl⟩

theorem Ties.trans {s t u : State} (h : Ties s t) (g : Ties t u) : Ties s u :=
  ⟨g.core ∘ h.core, g.parked.trans h.parked, g.state.trans h.state⟩

theorem Ties.safe {s t : State} (h : Ties s t) (safe : LinkSafe s) : LinkSafe t :=
  (h.core safe.core).safe (by rw [h.parked, h.state]; exact safe.dip)

theorem Ties.of_same {s t : State} (frame : t.load = s.load ∧ t.plan = s.plan ∧ t.eng.lines = s.eng.lines ∧
    t.adu.parked = s.adu.parked ∧ t.adu.hold = s.adu.hold ∧ t.boc.state = s.boc.state)
    (link : t.flb.link = s.flb.link) : Ties s t := by
  obtain ⟨load, plan, lines, parked, hold, state⟩ := frame
  exact ⟨fun h => h.of_same ⟨load, plan, lines, parked, hold⟩ link, parked, state⟩

/-- Of the bridge, the MAIN_RESET line drops the fail report and the bar as it goes active, and sets the bar in IGNORE as
it goes inactive (R141, R142). -/
theorem LinkSafe.of_line {s t : State} (h : LinkSafe s) (load : t.applied = s.applied)
    (link : t.flb.link = ({ s.flb with barred := t.flb.barred } : Bridge).link)
    (adu : t.adu.parked = s.adu.parked ∧ t.adu.hold = s.adu.hold) (state : t.boc.state = s.boc.state)
    (barred : t.flb.barred = true → t.flb.mode = .ignore ∧ t.mainActive = false) : LinkSafe t := by
  obtain ⟨mode, phase, xfer, issue, inflight, reportless, -⟩ := Bridge.link_eq_iff.mp link
  have tenure : t.flb.tenure.isSome = s.flb.tenure.isSome := by simpa using congrArg Option.isSome phase
  have phases : t.phase = s.phase := phase
  have idle : (t.flb.issue = none ↔ s.flb.issue = none) ∧ (t.flb.inflight = none ↔ s.flb.inflight = none) := by
    simp only [← Option.isNone_iff_eq_none, ← Option.not_isSome, issue, inflight, and_self]
  obtain ⟨h1, h2, h3, h4, h5, h6, h7, h8, h9, h10, h11, h12, h13, h14, h15, h16⟩ := h
  constructor <;> simp_all

theorem State.driveLine_ties (s : State) (l : Fin 6) (a : Bool) : Ties s (s.driveLine l a) := by
  refine ⟨fun h => ?_, by simp, by simp⟩
  unfold State.driveLine
  split
  · exact h
  · have lines (other : s.plan.mainLine ≠ some l) :
        (s.modEng fun e => { e with lines := e.lines.set l a }).mainActive = s.mainActive := by
      simp only [State.mainActive, State.modEng_plan, State.modEng_eng]
      cases main : s.plan.mainLine with
      | none => rfl
      | some m =>
        have ne : (l : Nat) ≠ m := fun same => other (by rw [main, Fin.ext same])
        simp [State.applied, ne]
    simp only
    split
    · rename_i main
      have main : s.plan.mainLine = some l := by simpa using main
      split
      · exact LinkSafe.of_line h rfl rfl ⟨rfl, rfl⟩ rfl nofun
      · refine LinkSafe.of_line h rfl rfl ⟨rfl, rfl⟩ rfl fun barred => ?_
        rename_i inactive
        simp [State.lineInactive] at barred
        refine ⟨by simpa [State.lineInactive] using barred.1, ?_⟩
        simp [State.mainActive, main, State.lineInactive, inactive]
    · rename_i other
      refine LinkSafe.of_view h rfl ?_ rfl rfl rfl fun _ => rfl
      exact lines (by simpa using other)

theorem State.dropStep_ties (s : State) : Ties s s.dropStep := by
  unfold State.dropStep
  split
  · exact .of_same (by simp) (by simp)
  · exact s.driveLine_ties _ _
  all_goals exact .refl s

theorem Ties.modEng (s : State) (f : Engine → Engine) (lines : (f s.eng).lines = s.eng.lines) : Ties s (s.modEng f) :=
  .of_same (by simp [lines]) rfl

theorem State.seqEnd_ties (s : State) : Ties s s.seqEnd := .modEng s _ rfl

theorem State.preempt_ties (s : State) : Ties s s.preempt := s.dropStep_ties.trans (State.seqEnd_ties _)

theorem State.placeTrip_ties (s : State) (o : ClaimOrigin) : Ties s (s.placeTrip o) := by
  unfold State.placeTrip
  split
  · exact .modEng s _ rfl
  · exact s.seqEnd_ties.trans (.modEng _ _ rfl)
  · split
    · exact .refl s
    · exact s.preempt_ties.trans (.modEng _ _ rfl)

theorem State.placeDescent_ties (s : State) : Ties s s.placeDescent := by
  have placed : Ties s (s.modEng fun e => { e with descent := true }) := .modEng s _ rfl
  simp only [State.placeDescent]
  split
  · exact placed
  · exact placed.trans (State.seqEnd_ties _)
  · split
    · split
      · exact placed
      · exact placed.trans (State.preempt_ties _)
    · exact placed.trans (State.preempt_ties _)

theorem State.engineFault_ties (s : State) (e : RailEntry) : Ties s (s.engineFault e) := by
  unfold State.engineFault
  split
  · exact .refl s
  · exact .of_same (by simp) (by simp)
  · exact s.placeTrip_ties _

theorem State.stepDone_ties (s : State) : Ties s s.stepDone := .of_same (by simp) (by simp)

theorem State.performLine_ties (s : State) : Ties s s.performLine := by
  unfold State.performLine
  split
  · exact (s.driveLine_ties _ _).trans (State.stepDone_ties _)
  · exact (s.driveLine_ties _ _).trans (.modEng _ _ rfl)
  · exact .refl s

theorem State.lineStep_ties (s : State) (k : StepKind) : Ties s (s.lineStep k) := by
  have held : Ties s (s.modEng fun e => { e with quietHold := true }) := .modEng s _ rfl
  simp only [State.lineStep]
  split
  · split
    · exact held.trans (.modEng _ _ rfl)
    · exact held.trans (State.performLine_ties _)
  · exact s.performLine_ties

theorem State.beginStep_ties (s : State) (k : StepKind) : Ties s (s.beginStep k) := by
  cases k with
  | line l a => exact s.lineStep_ties _
  | linePulse l ms => exact s.lineStep_ties _
  | _ => exact .of_same (by simp [State.beginStep]) (by simp [State.beginStep])

theorem State.takeStep_ties (s : State) (k : StepKind) : Ties s (s.takeStep k) := by
  have judged : Ties s s.rejudge := .of_same (by simp) (by simp)
  simp only [State.takeStep]
  split
  · have released : Ties s.rejudge s.rejudge.releaseHold := .modEng _ _ rfl
    exact (judged.trans released).trans (State.beginStep_ties _ k)
  · exact judged

theorem State.engineReact_ties {s t : State} (h : s.engineReact = some t) : Ties s t := by
  unfold State.engineReact at h
  (repeat' split at h) <;> cases h
  case h_2.isFalse => exact s.performLine_ties
  all_goals exact .of_same (by simp) (by simp)

end Sys2Proof.Machine

namespace Sys2Proof.Machine

/-! ### The link's rules through the controller's operations -/

/-- A write of the controller: the link's rules hold but for the controller's state. -/
theorem State.LinkCore.modBoc {s : State} (h : s.LinkCore) (f : BrownOut → BrownOut) : (s.modBoc f).LinkCore :=
  h.of_same (by simp) rfl

theorem Ties.modBoc (s : State) (f : BrownOut → BrownOut) (state : (f s.boc).state = s.boc.state) : Ties s (s.modBoc f) :=
  .of_same (by simp [state]) rfl

theorem State.setShed_ties (s : State) (n : Nat) : Ties s (s.setShed n) := .of_same (by simp) (by simp)

theorem State.offerRecord_ties (s : State) (b : RecordBody) : Ties s (s.offerRecord b) := .of_same (by simp) (by simp)

theorem State.enterDip_linkSafe {s : State} (h : s.LinkCore) : LinkSafe s.enterDip :=
  (h.modBoc _).parkedAtState nofun

theorem State.normalFromRecover_linkSafe {s : State} (h : s.LinkCore) : LinkSafe s.normalFromRecover :=
  State.LinkCore.parkedAtState (State.LinkCore.modBoc ((Ties.modEng s _ rfl).core h) _) nofun

theorem State.normalFromInit_linkSafe {s : State} (h : s.LinkCore) : LinkSafe s.normalFromInit :=
  (h.modBoc _).parkedAtState nofun

theorem State.restoreStep_linkSafe {s : State} (h : LinkSafe s) : LinkSafe s.restoreStep := by
  have shed := s.setShed_ties (s.boc.shedLevel - 1)
  simp only [State.restoreStep]
  split
  · exact State.normalFromRecover_linkSafe (shed.core h.core)
  · exact (shed.trans (.modBoc _ _ rfl)).safe h

theorem State.closeDip_ties (s : State) : Ties s s.closeDip := by
  unfold State.closeDip
  split
  · exact ((Ties.modBoc s _ rfl).trans (State.offerRecord_ties _ _)).trans (.modBoc _ _ rfl)
  · exact .refl s

theorem State.enterRecover_linkSafe {s : State} (h : s.LinkCore) : LinkSafe s.enterRecover := by
  have recovering : LinkSafe s.recovering :=
    State.LinkCore.parkedAtState (State.LinkCore.modBoc ((State.closeDip_ties _).core (h.modBoc _)) _) nofun
  rw [State.enterRecover_eq]
  split
  · exact State.restoreStep_linkSafe recovering
  · exact recovering

theorem State.enterCommit_linkSafe {s : State} (h : s.LinkCore) (r : CommitReason) : LinkSafe (s.enterCommit r) :=
  State.LinkCore.parkedAtState ((State.setShed_ties _ 3).core (h.modBoc _)) (by simp)

theorem State.markAtRisk_ties (s : State) : Ties s s.markAtRisk := by
  unfold State.markAtRisk
  split
  · rename_i flight
    exact .of_same (by simp) (by simp [Bridge.link, flight])
  · exact .refl s

theorem State.enterDescent_linkSafe {s : State} (h : s.LinkCore) : LinkSafe s.enterDescent :=
  State.LinkCore.parkedAtState ((State.placeDescent_ties _).core (h.modBoc _)) (by simp)

theorem State.survivalBegin_ties (s : State) : Ties s s.survivalBegin := by
  unfold State.survivalBegin State.survivalEnd
  split <;> exact .of_same (by simp) (by simp)

theorem State.enterDark_linkSafe {s : State} (h : s.LinkCore) : LinkSafe s.enterDark :=
  (State.survivalBegin_ties _).safe
    (State.LinkCore.parkedAtState (State.LinkCore.modBoc ((Ties.modEng s _ rfl).core h) _) nofun)

theorem State.lockBoth_ties (s : State) : Ties s s.lockBoth := .of_same (by simp) rfl

theorem State.rearm_linkSafe {s : State} (h : s.LinkCore) : LinkSafe s.rearm := by
  have shed (b : BrownOut) := (State.setShed_ties (s.modBoc fun _ => b) 0).core (h.modBoc _)
  simp only [State.rearm]
  split
  · exact State.LinkCore.parkedAtState ((Ties.modEng _ _ rfl).core (shed _)) (by simp)
  · exact State.LinkCore.parkedAtState ((State.lockBoth_ties _).core (shed _)) (by simp)

theorem State.collapseDown_linkSafe {s : State} (h : s.LinkCore) (n : Option CommitNotes) : LinkSafe (s.collapseDown n) := by
  have down (b : BrownOut) := ((State.setShed_ties (s.modBoc fun _ => b) 3).trans (State.markAtRisk_ties _)).core (h.modBoc _)
  simp only [State.collapseDown]
  split
  · exact State.enterDark_linkSafe (down _)
  · exact State.enterDescent_linkSafe ((State.placeTrip_ties _ _).core (down _))

theorem State.bocCollapse_linkSafe {s : State} (h : LinkSafe s) : LinkSafe s.bocCollapse := by
  unfold State.bocCollapse
  split
  · exact h
  · exact h
  · exact State.collapseDown_linkSafe h.core _
  · exact State.collapseDown_linkSafe h.core _
  · exact State.collapseDown_linkSafe h.core _
  · exact State.collapseDown_linkSafe h.core _
  · exact (s.placeTrip_ties _).safe h

theorem State.bocLoss_linkSafe {s : State} (h : LinkSafe s) : LinkSafe s.bocLoss := by
  unfold State.bocLoss
  split
  · exact (Ties.modBoc s _ rfl).safe h
  · exact (Ties.modBoc s _ rfl).safe h
  · have opened : s.stormTest.openDip.LinkCore := (h.core.modBoc _).modBoc _
    simp only [State.lossInNormal]
    split
    · exact State.enterCommit_linkSafe opened _
    · exact State.enterDip_linkSafe opened
  · exact State.enterDip_linkSafe (h.core.modBoc _)
  all_goals exact h

theorem State.bocReturn_linkSafe {s : State} (h : LinkSafe s) : LinkSafe s.bocReturn := by
  unfold State.bocReturn
  split
  · exact (Ties.modBoc s _ rfl).safe h
  · exact (Ties.modBoc s _ rfl).safe h
  · exact State.enterRecover_linkSafe h.core
  · exact (Ties.modBoc s _ rfl).safe h
  · exact (Ties.modBoc s _ rfl).safe h
  all_goals exact h

theorem State.bocTakes_linkSafe {s : State} (r : Budget) (h : LinkSafe s) : LinkSafe (s.bocTakes r) := by
  have kept : Ties s (s.modBoc fun b => b.keep r) := .modBoc s _ rfl
  simp only [State.bocTakes]
  split
  · split
    · exact State.enterCommit_linkSafe (kept.core h.core) _
    · exact (kept.trans (State.setShed_ties _ _)).safe h
  · split
    · exact State.enterDescent_linkSafe ((kept.trans (State.markAtRisk_ties _)).core h.core)
    · exact kept.safe h
  all_goals exact kept.safe h

theorem State.holdMark_ties (s : State) (d : Domain) : Ties s (s.holdMark d) := by
  cases d <;> exact .modBoc s _ rfl

theorem State.bocFault_linkSafe {s : State} (e : RailEntry) (k : FaultKind) (h : LinkSafe s) : LinkSafe (s.bocFault e k) := by
  unfold State.bocFault
  split
  · split
    · exact State.enterCommit_linkSafe h.core _
    · split
      · exact (s.holdMark_ties _).safe h
      · exact h
  · split
    · exact (s.holdMark_ties _).safe h
    · exact h
  all_goals exact h

theorem State.chanEvent_linkSafe {s : State} (ch : Fin 12) (st : ChanStep) (h : LinkSafe s) :
    LinkSafe (s.chanEvent ch st) := by
  have moved : Ties s (s.setRail ch st.chan) := .of_same (by simp) (by simp)
  have recorded (k : FaultKind) : Ties s ((s.setRail ch st.chan).faultRecord ch k) :=
    moved.trans (State.offerRecord_ties _ _)
  have answers {u : State} (a : Answer) (hu : Ties s u) : Ties s (u.answerFrom ch a) :=
    hu.trans (.of_same (by simp) (by simp))
  have faulted {u : State} (k : FaultKind) (hu : Ties s u) :
      LinkSafe ((u.engineFault (s.railEntry ch)).bocFault (s.railEntry ch) k) :=
    State.bocFault_linkSafe _ k ((hu.trans (State.engineFault_ties _ _)).safe h)
  simp only [State.chanEvent]
  cases st.fault <;> cases st.answer
  case none.none => exact moved.safe h
  case none.some a => exact (answers a moved).safe h
  case some.none k => exact faulted k (recorded k)
  case some.some k a => exact faulted k (answers a (recorded k))

/-! ### What follows of itself -/

theorem State.bocReact_linkSafe {s t : State} (react : s.bocReact = some t) (h : LinkSafe s) : LinkSafe t := by
  unfold State.bocReact at react
  (repeat' split at react) <;> cases react
  · exact State.normalFromInit_linkSafe h.core
  · exact State.enterDescent_linkSafe h.core
  · exact State.enterDark_linkSafe h.core
  · exact State.rearm_linkSafe h.core

theorem State.react_linkSafe {s t : State} (react : s.react = some t) (h : LinkSafe s) : LinkSafe t := by
  rcases State.react_cases react with react | react | react | react | react | react
  · exact h.linkReact react
  · exact State.bocReact_linkSafe react h
  · exact (State.engineReact_ties react).safe h
  · have link := State.survivalWaitEnd_link react
    obtain ⟨j, f, v, rfl⟩ := State.survivalWaitEnd_frame react
    exact h.of_same ⟨rfl, rfl, rfl, rfl, rfl, rfl⟩ link
  · have link := State.quietWork_link react
    obtain ⟨j, f, rfl⟩ := State.quietWork_frame react
    exact h.of_same ⟨rfl, rfl, rfl, rfl, rfl, rfl⟩ link
  · exact h.takeOffer react

theorem State.settle_linkSafe {s : State} (h : LinkSafe s) : LinkSafe s.settle :=
  State.settle_keeps State.react_linkSafe h

theorem Ties.event {s t : State} (h : Ties s t) (safe : LinkSafe s) : LinkSafe t.settle :=
  State.settle_linkSafe (h.safe safe)

/-! ### U-link transactions -/

/-- A transaction that is no intake, and was not begun through the closed switch. -/
theorem LinkSafe.setXfer {s : State} (h : LinkSafe s) (x : Xfer) (u : UOut)
    (intake : x.isIntake = true ∨ x = .selected true → s.flb.mode = .relay)
    (unseen : s.applied = false → x.unseen = true) : LinkSafe (s.setXfer x u) := by
  have phase : (s.setXfer x u).phase = s.phase := rfl
  have applied : (s.setXfer x u).applied = s.applied := rfl
  have main : (s.setXfer x u).mainActive = s.mainActive := rfl
  obtain ⟨h1, h2, h3, h4, h5, h6, h7, h8, h9, h10, h11, h12, h13, h14, h15, h16⟩ := h
  constructor <;> simp_all [State.setXfer]

theorem State.assertXfer_linkSafe {s : State} (h : LinkSafe s) : LinkSafe s.assertXfer := by
  unfold State.assertXfer
  split
  · exact h
  · exact h.setXfer _ _ (by simp [Xfer.isIntake]) fun _ => rfl

/-- Until plan application the bridge ignores every transaction (R121). -/
theorem LinkSafe.applied_of_heeds {s : State} (h : LinkSafe s) (heeds : s.linkIgnores = false) : s.applied = true := by
  cases applied : s.applied
  · simp [State.linkIgnores, (h.loading applied).1] at heeds
  · rfl

/-- Under a tenure a status read is answered and any other class is a violation (R128, R129). -/
theorem State.tenureOpcode_linkSafe {s : State} (o : Byte) (c : Classed) (t : Tenure) (h : LinkSafe s)
    (applied : s.applied = true) : LinkSafe (s.tenureOpcode o c t) := by
  unfold State.tenureOpcode
  split
  · exact h.setXfer _ _ (by simp [Xfer.isIntake]) (by simp [applied])
  · refine State.settle_linkSafe (LinkSafe.setXfer ((s.offerRecord_ties _).safe h) _ _ (by simp [Xfer.isIntake]) ?_)
    intro held
    simp [State.applied] at held applied
    exact absurd applied held

/-- In RELAY a transaction passes or becomes an intake (R123, R124, R140). -/
theorem State.relayOpcode_linkSafe {s : State} (o : Byte) (c : Classed) (h : LinkSafe s) (applied : s.applied = true)
    (mode : s.flb.mode = .relay) : LinkSafe (s.relayOpcode o c) := by
  have write {u : State} (hu : LinkSafe u) (same : u.applied = s.applied) (stays : u.flb.mode = .relay) (x : Xfer) (v : UOut) :
      LinkSafe (u.setXfer x v) := hu.setXfer x v (fun _ => stays) (by simp [same, applied])
  have opens {u : State} (hu : LinkSafe u) (same : u.applied = s.applied) (stays : u.flb.mode = .relay) :
      LinkSafe (u.relayOpen o c) := by
    unfold State.relayOpen
    split <;> exact write hu same stays _ _
  unfold State.relayOpcode
  split
  · exact opens h rfl mode
  · split
    · exact write h rfl mode _ _
    · exact opens (h.of_same ⟨rfl, rfl, rfl, rfl, rfl, rfl⟩ rfl) rfl mode

theorem State.openXfer_linkSafe {s : State} (k : FlashClass) (o : Byte) (h : LinkSafe s) : LinkSafe (s.openXfer k o) := by
  simp only [State.openXfer]
  split
  · exact h
  · split
    · exact h.setXfer _ _ (by simp [Xfer.isIntake]) fun _ => rfl
    · rename_i heeds
      have heeds : s.linkIgnores = false := by simpa using heeds
      have applied := h.applied_of_heeds heeds
      split
      · exact h
      · split
        · exact State.tenureOpcode_linkSafe o _ _ h applied
        · rename_i tenure
          refine State.relayOpcode_linkSafe o _ h applied ?_
          match mode : s.flb.mode with
          | .relay => rfl
          | .tenure => simpa [tenure] using h.tenure.mp mode
          | .ignore => simp [State.linkIgnores, mode] at heeds

/-- In RELAY no tenure is open, and with the plan applied the bridge may open one (R126). -/
theorem LinkSafe.endIntake {s : State} (h : LinkSafe s) (applied : s.applied = true) (mode : s.flb.mode = .relay)
    (xfer : s.flb.xfer = none) (o : Byte) (k : FlashClass) (u : Word32) (b : List Byte) : LinkSafe (s.endIntake o k u b) := by
  have tenure : s.flb.tenure = none := by
    cases tenure : s.flb.tenure with
    | none => rfl
    | some t => simpa [mode] using h.tenure.mpr (by simp [tenure])
  have phase : s.phase = none := by simp [State.phase, tenure]
  have slot := h.slotless (by simp [phase])
  have barred : s.flb.barred = false := by
    cases barred : s.flb.barred
    · rfl
    · simpa [mode] using (h.barred barred).1
  have reportless : s.flb.reportless = false := by
    cases reportless : s.flb.reportless
    · rfl
    · simp [h.reportless reportless] at phase
  simp only [State.endIntake]
  split
  · exact h
  · refine Deciding.takeCommand ?_ ?_ _ fun policy => State.op_of_policy policy
    · exact ⟨by simpa [State.applied] using applied, rfl, rfl, by simp [xfer], by simpa using barred,
        by simpa using h.relay mode, by simpa using reportless⟩
    · exact slot.of_same (by simp)

theorem State.endXfer_linkSafe {s : State} (x : Xfer) (b : List Byte) (h : LinkSafe s) (xfer : s.flb.xfer = some x) :
    LinkSafe (s.endXfer x b) := by
  have ended : LinkSafe (s.modFlb fun f => { f with xfer := none }) := by
    have phase : (s.modFlb fun f => { f with xfer := none }).phase = s.phase := rfl
    have applied : (s.modFlb fun f => { f with xfer := none }).applied = s.applied := rfl
    have main : (s.modFlb fun f => { f with xfer := none }).mainActive = s.mainActive := rfl
    obtain ⟨h1, h2, h3, h4, h5, h6, h7, h8, h9, h10, h11, h12, h13, h14, h15, h16⟩ := h
    constructor <;> simp_all
  simp only [State.endXfer]
  split
  · have applied : s.applied = true := by
      cases applied : s.applied
      · simpa [xfer, Xfer.unseen] using (h.loading applied).2
      · rfl
    exact ended.endIntake applied (h.intake (by simp [xfer, Xfer.isIntake])) rfl _ _ _ b
  · exact ended.of_same ⟨rfl, rfl, rfl, rfl, rfl, rfl⟩ rfl
  all_goals exact ended

theorem State.closeXfer_linkSafe {s : State} (o : Option Byte) (b : List Byte) (h : LinkSafe s) :
    LinkSafe (s.closeXfer o b) := by
  unfold State.closeXfer
  split
  · rename_i xfer
    split
    · exact State.settle_linkSafe (State.endXfer_linkSafe _ b h xfer)
    · exact h
  · exact h

theorem State.linkEvent_linkSafe {s : State} (k : FlashClass) (p : Span) (o : Byte) (b : List Byte) (h : LinkSafe s) :
    LinkSafe (s.linkEvent k p o b) := by
  cases p with
  | asserted => exact State.assertXfer_linkSafe h
  | opening => exact State.openXfer_linkSafe k o h
  | closing => exact State.closeXfer_linkSafe (some o) b h
  | whole =>
    simp only [State.linkEvent]
    split
    · exact State.closeXfer_linkSafe _ _ (State.openXfer_linkSafe k o h)
    · exact h

end Sys2Proof.Machine

namespace Sys2Proof.Machine

/-! ### Every command keeps the link's rules -/

/-- Part reset and plan application: IGNORE, with no tenure and nothing in flight (R120, R121). -/
theorem LinkSafe.of_reset {s : State} (xfer : s.flb.xfer.all Xfer.unseen = true ∧ s.flb.xfer ≠ some (.selected true))
    (flb : s.flb = { Bridge.reset with xfer := s.flb.xfer, uOut := s.flb.uOut }) (adu : s.adu = Admission.reset) :
    LinkSafe s := by
  have mode : s.flb.mode = .ignore := by rw [flb]; rfl
  have tenure : s.flb.tenure = none := by rw [flb]; rfl
  have issue : s.flb.issue = none := by rw [flb]; rfl
  have inflight : s.flb.inflight = none := by rw [flb]; rfl
  have reportless : s.flb.reportless = false := by rw [flb]; rfl
  have barred : s.flb.barred = false := by rw [flb]; rfl
  have phase : s.phase = none := by simp [State.phase, tenure]
  have intake : s.flb.xfer.any Xfer.isIntake = false := by
    match x : s.flb.xfer with
    | none => rfl
    | some (.intake _ _ _) => simp [x, Xfer.unseen] at xfer
    | some (.selected _) | some (.relayed _) | some (.failAnswer _) | some (.localAnswer _) | some (.violation _)
    | some (.ignored _) => rfl
  clear flb
  constructor <;> simp_all [Admission.reset]

/-- The link's rules speak of no transaction that the bridge heeds before plan application. -/
theorem LinkSafe.unseen {s : State} (h : LinkSafe s) (held : s.applied = false) :
    s.flb.xfer.all Xfer.unseen = true ∧ s.flb.xfer ≠ some (.selected true) := by
  obtain ⟨mode, unseen⟩ := h.loading held
  exact ⟨unseen, fun passed => by simpa [mode] using h.passed passed⟩

theorem State.applyPlan_linkSafe {s : State} (j : Journal) (v : Nat)
    (xfer : s.flb.xfer.all Xfer.unseen = true ∧ s.flb.xfer ≠ some (.selected true)) : LinkSafe (s.applyPlan j v) := by
  simp only [State.applyPlan]
  split
  · exact .of_reset ⟨rfl, nofun⟩ rfl rfl
  · exact (State.offerRecord_ties _ _).event (.of_reset xfer rfl rfl)

theorem State.fallBack_linkSafe {s : State} (v : Nat)
    (xfer : s.flb.xfer.all Xfer.unseen = true ∧ s.flb.xfer ≠ some (.selected true)) : LinkSafe (s.fallBack v) :=
  State.applyPlan_linkSafe _ v xfer

/-- A read of the load changes none of the link's terms. -/
theorem LinkSafe.of_load {s t : State} (h : LinkSafe s) (held : s.applied = false ∧ t.applied = false)
    (frame : t.plan = s.plan ∧ t.flb = s.flb ∧ t.adu = s.adu ∧ t.boc = s.boc) : LinkSafe t := by
  obtain ⟨plan, flb, adu, boc⟩ := frame
  obtain ⟨held, held'⟩ := held
  have main : t.mainActive = s.mainActive := by simp [State.mainActive, plan, held, held']
  exact h.of_view (held'.trans held.symm) main (by rw [flb]) (by rw [adu]) (by rw [adu]) fun _ => by rw [boc]

theorem State.aduTakes_linkSafe {s : State} (b : Budget) (h : LinkSafe s) : LinkSafe (s.aduTakes b) := by
  have kept : LinkSafe (s.modAdu fun a => { a with latest := some ⟨b.reserve, b.aCost⟩ }) :=
    h.of_same ⟨rfl, rfl, rfl, rfl, rfl, rfl⟩ rfl
  simp only [State.aduTakes]
  split
  · exact kept
  · rename_i p parked
    split
    · exact (kept.deciding_of_parked (by simpa using congrArg Option.isSome parked)).admitParked (h.command p parked)
    · exact kept

theorem State.stepEvent_linkSafe {s : State} (k : StepKind) (h : LinkSafe s) : LinkSafe (s.stepEvent k) := by
  unfold State.stepEvent
  split
  · exact (s.takeStep_ties k).event h
  · exact h

theorem LinkSafe.reach {s : State} (h : LinkSafe s) (n : Nat) : LinkSafe (s.reach n) :=
  h.of_same ⟨rfl, rfl, rfl, rfl, rfl, rfl⟩ rfl

theorem exec_linkSafe (c : Instr) (s t : State) (h : LinkSafe s) (next : exec c s = .next t) : LinkSafe t := by
  cases c <;> cases next
  case partReset cause =>
    cases cause <;> simp only <;> split
    · exact .of_reset ⟨rfl, nofun⟩ rfl rfl
    · exact h
    · exact .of_reset ⟨rfl, nofun⟩ rfl rfl
    · exact h
  case partResetRelease p a b ended =>
    simp only
    (repeat' split)
    · exact h
    · exact h.of_same (by simp) (by simp)
    · exact .of_reset ⟨rfl, nofun⟩ rfl rfl
  case oscWaitEnd =>
    simp only
    split
    · rename_i phase
      exact h.of_load ⟨by simp [State.applied, phase], by simp [State.applied]⟩ ⟨rfl, rfl, rfl, rfl⟩
    · exact h
  case flashWaitStatusRead b =>
    simp only
    split
    · rename_i phase
      have held : s.applied = false := by simp [State.applied, phase]
      (repeat' split) <;> exact h.of_load ⟨held, by simp [State.applied, phase]⟩ ⟨rfl, rfl, rfl, rfl⟩
    · exact h
  case planHeaderReadEnd b =>
    simp only
    split
    · rename_i phase
      have held : s.applied = false := by simp [State.applied, phase]
      split
      · exact h.of_load ⟨held, held⟩ ⟨rfl, rfl, rfl, rfl⟩
      · exact State.fallBack_linkSafe _ (h.unseen held)
    · exact h
  case planBodyReadEnd b v =>
    simp only
    split
    · rename_i phase
      have held : s.applied = false := by simp [State.applied, phase]
      split
      · simp only [State.prepareImage]
        split
        · refine h.of_view ?_ ?_ rfl rfl rfl fun _ => rfl
          · simp [State.applied, phase]
          · simp only [State.mainActive, held]
            (repeat' split) <;> simp [State.applied]
        · exact State.applyPlan_linkSafe _ v (h.unseen held)
      · exact State.fallBack_linkSafe _ (h.unseen held)
    · exact h
  case journalScanSectorRead b v =>
    simp only
    split
    · rename_i phase
      have held : s.applied = false := by simp [State.applied, phase]
      split
      · exact h.of_load ⟨held, held⟩ ⟨rfl, rfl, rfl, rfl⟩
      · exact State.applyPlan_linkSafe _ v (h.unseen held)
    · exact h
  case scanCompletion =>
    simp only
    (repeat' split) <;> exact h.of_same (by simp) (by simp)
  case uptimeTick | dimInRisingEdge | dimInFallingEdge | dimInSteady | dimOutHighTimeEnd | rampExpiry =>
    (repeat' split) <;> exact h.of_same (by simp) (by simp)
  case flashPollStart =>
    split
    · exact h.of_same (by simp) (by simp [State.startPoll, Bridge.link])
    · exact h
  case bocComputation =>
    (repeat' split)
    · exact State.settle_linkSafe (State.bocTakes_linkSafe _ (h.of_same ⟨rfl, rfl, rfl, rfl, rfl, rfl⟩ rfl))
    all_goals exact h
  case aduComputation =>
    (repeat' split)
    · exact State.settle_linkSafe (State.aduTakes_linkSafe _ (h.of_same ⟨rfl, rfl, rfl, rfl, rfl, rfl⟩ rfl))
    all_goals exact h
  case busCollapse =>
    split
    · exact State.settle_linkSafe (State.bocCollapse_linkSafe (h.of_same ⟨rfl, rfl, rfl, rfl, rfl, rfl⟩ rfl))
    · exact h
  case dipEntryStale pos =>
    split
    · exact (Ties.modBoc s _ rfl).safe h
    · exact h
  case filteredPgGood ch pin | filteredPgNotGood ch pin =>
    split
    · exact State.settle_linkSafe (State.chanEvent_linkSafe ch _ (h.of_same ⟨rfl, rfl, rfl, rfl, rfl, rfl⟩ rfl))
    · exact h
  case riseTimerExpiry ch | settleTimerExpiry ch | fallTimerExpiry ch =>
    split
    · exact State.settle_linkSafe (State.chanEvent_linkSafe ch _ (h.reach _))
    · exact h
  case auxChange input pin =>
    split
    · exact Ties.event (.of_same (by simp) (by simp)) h
    · exact h
  case requestChange r pin =>
    split
    · refine Ties.event (.of_same ?_ (by simp)) h
      cases r <;> simp [State.requestTaken]
    · exact h
  case acOkLoss pin =>
    split
    · exact State.settle_linkSafe (State.bocLoss_linkSafe (h.of_same ⟨rfl, rfl, rfl, rfl, rfl, rfl⟩ rfl))
    · exact h
  case acOkReturn pin =>
    split
    · exact State.settle_linkSafe (State.bocReturn_linkSafe (h.of_same ⟨rfl, rfl, rfl, rfl, rfl, rfl⟩ rfl))
    · exact h
  case rideTimerExpiry =>
    split
    · exact State.settle_linkSafe (State.enterCommit_linkSafe (h.reach _).core _)
    · exact h
  case restoreTimerExpiry =>
    split
    · exact State.settle_linkSafe (State.restoreStep_linkSafe ((Ties.modBoc _ _ rfl).safe (h.reach _)))
    · exact h
  case mainsTimerExpiry =>
    split
    · exact (Ties.modBoc _ _ rfl).event (h.reach _)
    · exact h
  case railUp r w => exact State.stepEvent_linkSafe _ h
  case railDown r w => exact State.stepEvent_linkSafe _ h
  case delay ms => exact State.stepEvent_linkSafe _ h
  case line l a => exact State.stepEvent_linkSafe _ h
  case linePulse l ms => exact State.stepEvent_linkSafe _ h
  case dimLimit v => exact State.stepEvent_linkSafe _ h
  case await i a ms => exact State.stepEvent_linkSafe _ h
  case flashQuiesce => exact State.stepEvent_linkSafe _ h
  case flashResume => exact State.stepEvent_linkSafe _ h
  case nop => exact State.stepEvent_linkSafe _ h
  case delayExpiry =>
    split
    · exact (State.stepDone_ties _).event (h.reach _)
    · exact h
  case linePulseExpiry =>
    split
    · exact ((State.driveLine_ties _ _ _).trans (State.stepDone_ties _)).event (h.reach _)
    · exact h
  case awaitTimeout =>
    split
    · exact Ties.event (.of_same (by simp) (by simp)) h
    · exact h
  case read p o => exact State.linkEvent_linkSafe _ _ _ _ h
  case statusRead p o => exact State.linkEvent_linkSafe _ _ _ _ h
  case writeEnable p o => exact State.linkEvent_linkSafe _ _ _ _ h
  case writeDisable p o => exact State.linkEvent_linkSafe _ _ _ _ h
  case otherPass p o => exact State.linkEvent_linkSafe _ _ _ _ h
  case program p o b => exact State.linkEvent_linkSafe _ _ _ _ h
  case eraseSector p o b => exact State.linkEvent_linkSafe _ _ _ _ h
  case eraseBlock p o b => exact State.linkEvent_linkSafe _ _ _ _ h
  case eraseDevice p o b => exact State.linkEvent_linkSafe _ _ _ _ h
  case regWrite p o b => exact State.linkEvent_linkSafe _ _ _ _ h
  case otherBlock p o b => exact State.linkEvent_linkSafe _ _ _ _ h
  case cutTransaction p =>
    cases p with
    | asserted => exact State.assertXfer_linkSafe h
    | opening => exact State.assertXfer_linkSafe h
    | closing => exact State.closeXfer_linkSafe _ _ h
    | whole =>
      simp only
      split
      · exact State.closeXfer_linkSafe _ _ (State.assertXfer_linkSafe h)
      · exact h
  case holdTimerExpiry =>
    split
    · rename_i due p hold parked
      have deciding := (h.reach due).deciding_of_parked (by simp [parked])
      exact State.settle_linkSafe (deciding.refuseCommand _ _)
    · exact h
  case commandIssued =>
    split
    · rename_i issue
      exact State.settle_linkSafe (h.startOperation _ (by simp [issue]))
    · exact h
  case refusingWriteDisableEnd =>
    split
    · rename_i refusing
      refine State.settle_linkSafe (h.refusingEnd ?_ _)
      unfold State.inPhase at refusing
      split at refusing
      · rename_i tenure
        simpa [State.phase, tenure] using refusing
      · cases refusing
    · exact h
  case flashPollComplete b =>
    split
    · exact h
    · have byte : LinkSafe (s.pollByte b) := h.of_same ⟨rfl, rfl, rfl, rfl, rfl, rfl⟩ rfl
      refine State.settle_linkSafe ?_
      unfold State.pollActs
      (repeat' split)
      · exact byte
      · rename_i flight _
        exact byte.opEnd (by simp [flight]) _ _
      · exact byte
    · exact h.of_same ⟨rfl, rfl, rfl, rfl, rfl, rfl⟩ rfl
  case overrun =>
    (repeat' split)
    · exact h
    · rename_i flight _
      exact State.settle_linkSafe (h.of_same (by simp) (by simp [Bridge.link, flight]))
    · exact h
  case flashStuck =>
    split
    · rename_i flight
      refine State.settle_linkSafe (LinkSafe.opEnd ((State.offerRecord_ties _ _).safe (h.reach _)) ?_ _ _)
      simp [flight]
    · exact h

/-- Settles O10: a tenure decides what it does within one event, in which it is neither PARKED nor has an operation, and a
parked command leaves the slot with the controller's passing on. -/
theorem everyStepKeepsLinkSafe : Obligations.EveryStepKeepsLinkSafe :=
  fun _ _ => step_keeps (fun _ _ _ _ h => h.of_same ⟨rfl, rfl, rfl, rfl, rfl, rfl⟩ rfl) fun c s t h e => exec_linkSafe c s t h e

end Sys2Proof.Machine

namespace Sys2Proof.Machine

/-! ### The way of the controller through a command -/

/-! #### The tenure and the command being issued, through what does not concern them -/

@[simp] theorem State.driveLine_tenure (s : State) (l : Fin 6) (a : Bool) :
    (s.driveLine l a).flb.tenure = s.flb.tenure ∧ (s.driveLine l a).flb.issue = s.flb.issue := by
  unfold State.driveLine State.lineActive State.lineInactive
  (repeat' split) <;> simp

@[simp] theorem State.dropStep_tenure (s : State) :
    s.dropStep.flb.tenure = s.flb.tenure ∧ s.dropStep.flb.issue = s.flb.issue := by
  unfold State.dropStep
  split <;> simp

@[simp] theorem State.placeTrip_tenure (s : State) (o : ClaimOrigin) :
    (s.placeTrip o).flb.tenure = s.flb.tenure ∧ (s.placeTrip o).flb.issue = s.flb.issue := by
  unfold State.placeTrip State.preempt
  (repeat' split) <;> simp

@[simp] theorem State.placeDescent_tenure (s : State) :
    s.placeDescent.flb.tenure = s.flb.tenure ∧ s.placeDescent.flb.issue = s.flb.issue := by
  simp only [State.placeDescent, State.preempt]
  (repeat' split) <;> simp

@[simp] theorem State.markAtRisk_tenure (s : State) :
    s.markAtRisk.flb.tenure = s.flb.tenure ∧ s.markAtRisk.flb.issue = s.flb.issue := by
  unfold State.markAtRisk
  split <;> simp

theorem State.engineReact_tenure {s t : State} (h : s.engineReact = some t) :
    t.flb.tenure = s.flb.tenure ∧ t.flb.issue = s.flb.issue := by
  have line : s.performLine.flb.tenure = s.flb.tenure ∧ s.performLine.flb.issue = s.flb.issue := by
    unfold State.performLine
    split <;> simp
  unfold State.engineReact at h
  (repeat' split at h) <;> cases h <;> simp [line]

/-- Once the controller has committed, the slot is empty, a tenure is open and nothing is being issued under it. -/
def State.Withheld (s : State) : Prop :=
  s.boc.state.committed = true → s.adu.parked = none ∧ s.flb.tenure.isSome = true ∧ s.flb.issue = none

theorem BocState.committed_iff {b : BocState} : b.committed = true ↔ b = .commit ∨ b = .descent ∨ b = .dark := by
  cases b <;> simp [BocState.committed]

/-- A command parked when the controller commits is refused: its tenure goes on to REFUSING (R158). -/
theorem State.parkedAtState_withheld {s : State} (open_ : s.flb.tenure.isSome = true) (issue : s.flb.issue = none) :
    s.parkedAtState.Withheld := by
  intro committed
  have committed : s.boc.state.committed = true := by simpa using committed
  unfold State.parkedAtState
  split
  · rename_i none; exact ⟨none, open_, issue⟩
  · split
    · rename_i normal; simp [normal, BocState.committed] at committed
    case h_5 | h_6 | h_7 => rename_i state; simp [state, BocState.committed] at committed
    all_goals
      simp [State.refuseCommand, State.emptySlot, State.fateRefuse, State.setPhase, open_, issue]

/-- What follows of itself issues nothing under an open tenure, and commits nothing that has not committed. -/
theorem State.Withheld.react {s t : State} (h : s.Withheld) (react : s.react = some t) : t.Withheld := by
  intro committed
  have kept (boc : t.boc.state = s.boc.state) (adu : t.adu.parked = s.adu.parked)
      (flb : t.flb.tenure.isSome = s.flb.tenure.isSome ∧ t.flb.issue.isSome = s.flb.issue.isSome) :
      t.adu.parked = none ∧ t.flb.tenure.isSome = true ∧ t.flb.issue = none := by
    obtain ⟨parked, open_, issue⟩ := h (boc ▸ committed)
    refine ⟨adu.trans parked, flb.1.trans open_, ?_⟩
    simpa [issue] using flb.2
  have linked (link : t.flb.link = s.flb.link) :
      t.flb.tenure.isSome = s.flb.tenure.isSome ∧ t.flb.issue.isSome = s.flb.issue.isSome := by
    obtain ⟨-, phase, -, issue, -⟩ := Bridge.link_eq_iff.mp link
    exact ⟨by simpa using congrArg Option.isSome phase, issue⟩
  rcases State.react_cases react with react | react | react | react | react | react
  · have frame : t.boc = s.boc ∧ t.adu = s.adu := by
      obtain ⟨f, rfl⟩ := State.linkReact_frame react; exact ⟨rfl, rfl⟩
    refine kept (by rw [frame.1]) (by rw [frame.2]) ?_
    unfold State.linkReact at react
    (repeat' split at react) <;> cases react <;> exact ⟨rfl, rfl⟩
  · unfold State.bocReact at react
    split at react
    · cases react
    · split at react <;> rename_i state
      · split at react <;> cases react
        simp [State.normalFromInit, BocState.committed] at committed
      · split at react <;> cases react
        obtain ⟨-, open_, issue⟩ := h (by simp [state, BocState.committed])
        exact State.parkedAtState_withheld (by simpa using open_) (by simpa using issue) committed
      · split at react <;> cases react
        obtain ⟨-, open_, issue⟩ := h (by simp [state, BocState.committed])
        have withheld := State.parkedAtState_withheld (s := (s.modEng fun e => { e with descent := false }).modBoc fun b =>
          { b with state := .dark, ride := none, restore := none, heldBoard := false, heldPanel := false,
                   mains := if s.sense.acOk then some (s.clock + msCounts s.plan.rearmDelayMs) else none,
                   mainsMet := false }) open_ issue (by simp [BocState.committed])
        simpa [State.enterDark] using withheld
      · split at react <;> cases react
        have normal : s.rearm.boc.state = .normal := by
          simp only [State.rearm]
          split <;> simp
        simp [normal, BocState.committed] at committed
      all_goals cases react
  · obtain ⟨tenure, issue⟩ := State.engineReact_tenure react
    obtain ⟨e, f, rfl⟩ := State.engineReact_frame react
    exact kept rfl rfl ⟨by rw [tenure], by rw [issue]⟩
  · have link := State.survivalWaitEnd_link react
    obtain ⟨j, f, v, rfl⟩ := State.survivalWaitEnd_frame react
    exact kept rfl rfl (linked link)
  · have link := State.quietWork_link react
    obtain ⟨j, f, rfl⟩ := State.quietWork_frame react
    exact kept rfl rfl (linked link)
  · have open_ : s.flb.tenure.isSome = true := by
      obtain ⟨f, rfl⟩ := State.takeOffer_frame react
      exact (h committed).2.1
    unfold State.takeOffer at react
    split at react
    · cases react
    · split at react
      · rename_i free
        simp [Option.isSome_iff_ne_none.mp open_] at free
      · cases react

/-! #### Where the controller may go in one event -/

/-- The controller on its way down, which no rearm of the same event ends: entry to DARK cancels a met mains condition. -/
def State.Descending (s : State) : Prop := s.boc.state = .descent ∨ (s.boc.state = .dark ∧ s.boc.mainsMet = false)

/-- What an event and what follows from it may do to the controller's state and shed level (R98, R107, R112, R113, R117),
and to a command parked as it commits (R158). -/
structure Course (s t : State) : Prop where
  commit : s.boc.state = .commit → t.boc.state = .commit ∨ t.Descending
  descent : s.boc.state = .descent → t.Descending
  dark : s.boc.state = .dark → t.boc.state = .dark ∨ (t.boc.state = .normal ∧ t.boc.shedLevel = 0)
  dip : s.boc.state = .dip → t.boc.state ≠ .dip ∨ (t.boc.state = .dip ∧ s.boc.shedLevel ≤ t.boc.shedLevel)
  withheld : LinkSafe s → s.adu.parked.isSome = true → t.Withheld

/-- An event that leaves the controller where it is. -/
theorem Course.of_same {s t : State} (state : t.boc.state = s.boc.state) (level : t.boc.shedLevel = s.boc.shedLevel) :
    Course s t := by
  refine ⟨fun h => .inl (state.trans h), fun h => .inl (state.trans h), fun h => .inl (state.trans h),
    fun h => .inr ⟨state.trans h, level.ge⟩, fun safe parked committed => ?_⟩
  rw [state] at committed
  rcases safe.dip parked with h | h <;> simp [h, BocState.committed] at committed

/-- An event that the controller takes in one state alone. -/
theorem Course.of_state {s t : State} {b : BocState} (state : s.boc.state = b)
    (commit : b = .commit → t.boc.state = .commit ∨ t.Descending) (descent : b = .descent → t.Descending)
    (dark : b = .dark → t.boc.state = .dark ∨ (t.boc.state = .normal ∧ t.boc.shedLevel = 0))
    (dip : b = .dip → t.boc.state ≠ .dip ∨ (t.boc.state = .dip ∧ s.boc.shedLevel ≤ t.boc.shedLevel))
    (withheld : LinkSafe s → s.adu.parked.isSome = true → t.Withheld) : Course s t := by
  subst state
  exact ⟨commit, descent, dark, dip, withheld⟩

/-! #### What follows of itself keeps to the course -/

theorem State.normalFromInit_state (s : State) : s.normalFromInit.boc.state = .normal := by simp [State.normalFromInit]

theorem State.enterDescent_state (s : State) : s.enterDescent.boc.state = .descent := by simp [State.enterDescent]

theorem State.survivalBegin_controller (s : State) :
    s.survivalBegin.boc.state = s.boc.state ∧ s.survivalBegin.boc.mainsMet = s.boc.mainsMet := by
  unfold State.survivalBegin State.survivalEnd
  split <;> simp

theorem State.enterDark_descending (s : State) : s.enterDark.Descending := by
  obtain ⟨state, met⟩ := State.survivalBegin_controller (((s.modEng fun e => { e with descent := false }).modBoc fun b =>
    { b with state := .dark, ride := none, restore := none, heldBoard := false, heldPanel := false,
             mains := if s.sense.acOk then some (s.clock + msCounts s.plan.rearmDelayMs) else none,
             mainsMet := false }).parkedAtState)
  refine .inr ⟨state.trans (by simp), met.trans (by simp)⟩

theorem State.rearm_normal (s : State) : s.rearm.boc.state = .normal ∧ s.rearm.boc.shedLevel = 0 := by
  simp only [State.rearm]
  split <;> simp

/-- A change of the controller's state of itself, or none. -/
theorem State.react_controller {s t : State} (react : s.react = some t) :
    (t.boc.state = s.boc.state ∧ t.boc.shedLevel = s.boc.shedLevel ∧ t.boc.mainsMet = s.boc.mainsMet) ∨
    (s.boc.state = .init ∧ t.boc.state = .normal) ∨ (s.boc.state = .commit ∧ t.boc.state = .descent) ∨
    (s.boc.state = .descent ∧ t.Descending) ∨
    (s.boc.state = .dark ∧ s.boc.mainsMet = true ∧ t.boc.state = .normal ∧ t.boc.shedLevel = 0) := by
  rcases State.react_cases react with react | react | react | react | react | react
  · obtain ⟨f, rfl⟩ := State.linkReact_frame react; exact .inl ⟨rfl, rfl, rfl⟩
  · unfold State.bocReact at react
    split at react
    · cases react
    · split at react <;> rename_i state
      · split at react <;> cases react
        exact .inr (.inl ⟨state, s.normalFromInit_state⟩)
      · split at react <;> cases react
        exact .inr (.inr (.inl ⟨state, s.enterDescent_state⟩))
      · split at react <;> cases react
        exact .inr (.inr (.inr (.inl ⟨state, s.enterDark_descending⟩)))
      · split at react <;> cases react
        rename_i met
        simp only [Bool.and_eq_true] at met
        exact .inr (.inr (.inr (.inr ⟨state, met.1, s.rearm_normal⟩)))
      all_goals cases react
  · obtain ⟨e, f, rfl⟩ := State.engineReact_frame react; exact .inl ⟨rfl, rfl, rfl⟩
  · obtain ⟨j, f, v, rfl⟩ := State.survivalWaitEnd_frame react; exact .inl ⟨rfl, rfl, rfl⟩
  · obtain ⟨j, f, rfl⟩ := State.quietWork_frame react; exact .inl ⟨rfl, rfl, rfl⟩
  · obtain ⟨f, rfl⟩ := State.takeOffer_frame react; exact .inl ⟨rfl, rfl, rfl⟩

theorem State.Descending.react {s t : State} (h : s.Descending) (react : s.react = some t) : t.Descending := by
  rcases State.react_controller react with ⟨state, -, met⟩ | ⟨state, -⟩ | ⟨state, -⟩ | ⟨-, down⟩ | ⟨state, met, -⟩
  · simpa only [State.Descending, state, met] using h
  · simp [State.Descending, state] at h
  · simp [State.Descending, state] at h
  · exact down
  · simp [State.Descending, state, met] at h

theorem Course.react {s t u : State} (h : Course s t) (react : t.react = some u) : Course s u := by
  have moves := State.react_controller react
  refine ⟨fun hs => ?_, fun hs => (h.descent hs).react react, fun hs => ?_, fun hs => ?_,
    fun safe parked => (h.withheld safe parked).react react⟩
  · rcases h.commit hs with commit | down
    · rcases moves with ⟨state, -⟩ | ⟨state, -⟩ | ⟨-, state⟩ | ⟨state, -⟩ | ⟨state, -⟩
      · exact .inl (state.trans commit)
      · simp [commit] at state
      · exact .inr (.inl state)
      · simp [commit] at state
      · simp [commit] at state
    · exact .inr (down.react react)
  · rcases h.dark hs with dark | ⟨normal, level⟩
    · rcases moves with ⟨state, -⟩ | ⟨state, -⟩ | ⟨state, -⟩ | ⟨state, -⟩ | ⟨-, -, normal⟩
      · exact .inl (state.trans dark)
      · simp [dark] at state
      · simp [dark] at state
      · simp [dark] at state
      · exact .inr normal
    · rcases moves with ⟨state, same, -⟩ | ⟨state, -⟩ | ⟨state, -⟩ | ⟨state, -⟩ | ⟨state, -⟩
      · exact .inr ⟨state.trans normal, same.trans level⟩
      all_goals simp [normal] at state
  · rcases moves with ⟨state, same, -⟩ | ⟨-, state⟩ | ⟨-, state⟩ | ⟨-, down⟩ | ⟨-, -, state, -⟩
    · rw [state, same]; exact h.dip hs
    · exact .inl (by simp [state])
    · exact .inl (by simp [state])
    · rcases down with state | ⟨state, -⟩ <;> exact .inl (by simp [state])
    · exact .inl (by simp [state])

theorem Course.settle {s t : State} (h : Course s t) : Course s t.settle :=
  State.settle_keeps (P := Course s) (fun react h => h.react react) h

end Sys2Proof.Machine

namespace Sys2Proof.Machine

/-! #### The controller's operations keep to the course -/

/-- A course that begins where another state's controller, link and slot stand. -/
theorem Course.from {s u t : State} (state : u.boc.state = s.boc.state) (level : u.boc.shedLevel = s.boc.shedLevel)
    (parked : u.adu.parked = s.adu.parked) (link : LinkSafe s → LinkSafe u) (h : Course u t) : Course s t := by
  refine ⟨state ▸ h.commit, state ▸ h.descent, state ▸ h.dark, fun hs => ?_, fun safe held => ?_⟩
  · rw [← level]; exact h.dip (state.trans hs)
  · exact h.withheld (link safe) (parked ▸ held)

/-- A parked command's tenure is open, and nothing is being issued under it (R156). -/
theorem LinkSafe.parked_idle {s : State} (h : LinkSafe s) (parked : s.adu.parked.isSome = true) :
    s.flb.tenure.isSome = true ∧ s.flb.issue = none :=
  have deciding := h.deciding_of_parked parked
  ⟨deciding.open_, deciding.idle.1⟩

theorem State.enterCommit_withheld {s : State} (r : CommitReason) (open_ : s.flb.tenure.isSome = true)
    (issue : s.flb.issue = none) : (s.enterCommit r).Withheld :=
  State.parkedAtState_withheld (by simpa using open_) (by simpa using issue)

@[simp] theorem State.enterCommit_state (s : State) (r : CommitReason) : (s.enterCommit r).boc.state = .commit := by
  simp [State.enterCommit]

/-- The commitment, from a state that has not committed (R107). -/
theorem State.enterCommit_course {s : State} (r : CommitReason) (hs : s.boc.state.committed = false) :
    Course s (s.enterCommit r) := by
  refine ⟨fun h => ?_, fun h => ?_, fun h => ?_, fun h => ?_, fun safe parked => ?_⟩
  · exact .inl (by simp)
  · simp [h, BocState.committed] at hs
  · simp [h, BocState.committed] at hs
  · exact .inl (by simp)
  · obtain ⟨open_, issue⟩ := safe.parked_idle parked
    exact State.enterCommit_withheld r open_ issue

/-- In a state that is neither DIP nor committed no promise is made but for a parked command. -/
theorem Course.of_recover {s t : State} (state : s.boc.state = .init ∨ s.boc.state = .normal ∨ s.boc.state = .recover)
    (uncommitted : t.boc.state.committed = false) : Course s t := by
  refine ⟨fun h => ?_, fun h => ?_, fun h => ?_, fun h => ?_, fun _ _ committed => ?_⟩
  all_goals simp_all

theorem State.enterDip_state (s : State) : s.enterDip.boc.state = .dip := by simp [State.enterDip]

theorem State.bocLoss_course (s : State) : Course s s.bocLoss := by
  unfold State.bocLoss
  split
  · exact .of_same rfl rfl
  · exact .of_same rfl rfl
  · rename_i normal
    simp only [State.lossInNormal]
    split
    · have opened : s.stormTest.openDip.boc.state = .normal := normal
      exact Course.from (u := s.stormTest.openDip) rfl rfl rfl (fun h => h.of_same ⟨rfl, rfl, rfl, rfl, rfl, rfl⟩ rfl)
        (State.enterCommit_course _ (by rw [opened]; rfl))
    · exact .of_recover (.inr (.inl normal)) (by simp [State.enterDip_state, BocState.committed])
  · rename_i recover
    exact .of_recover (.inr (.inr recover)) (by simp [State.enterDip_state, BocState.committed])
  all_goals exact .of_same rfl rfl

theorem State.restoreStep_state {s : State} (h : s.boc.state = .recover) :
    s.restoreStep.boc.state = .normal ∨ s.restoreStep.boc.state = .recover := by
  simp only [State.restoreStep]
  split
  · exact .inl (by simp [State.normalFromRecover])
  · exact .inr (by simp [h])

theorem State.enterRecover_state (s : State) : s.enterRecover.boc.state = .normal ∨ s.enterRecover.boc.state = .recover := by
  have recovering : s.recovering.boc.state = .recover := by simp [State.recovering]
  rw [State.enterRecover_eq]
  split
  · exact State.restoreStep_state recovering
  · exact .inr recovering

theorem State.bocReturn_course (s : State) : Course s s.bocReturn := by
  unfold State.bocReturn
  split
  · exact .of_same rfl rfl
  · exact .of_same rfl rfl
  · rename_i dip
    rcases s.enterRecover_state with state | state <;>
      exact .of_state dip nofun nofun nofun (fun _ => .inl (by simp [state])) fun _ _ => by
        simp [State.Withheld, state, BocState.committed]
  · exact .of_same rfl rfl
  · exact .of_same rfl rfl
  all_goals exact .of_same rfl rfl

theorem State.bocTakes_course (s : State) (r : Budget) : Course s (s.bocTakes r) := by
  have kept : Ties s (s.modBoc fun b => b.keep r) := .modBoc s _ rfl
  have level : (s.modBoc fun b => b.keep r).boc.shedLevel = s.boc.shedLevel := rfl
  simp only [State.bocTakes]
  generalize s.modBoc (fun b => b.keep r) = u at kept level ⊢
  obtain ⟨core, parked, stays⟩ := kept
  split
  · rename_i dip
    rw [dip] at stays
    split
    · exact Course.from (stays.trans dip.symm) level parked (Ties.safe ⟨core, parked, stays.trans dip.symm⟩)
        (State.enterCommit_course _ (by rw [stays]; rfl))
    · refine .of_state dip nofun nofun nofun (fun _ => .inr ⟨by simpa using stays, by simp [level]⟩) fun _ _ => ?_
      simp [State.Withheld, stays, BocState.committed]
  · rename_i commit
    split
    · refine .of_state commit (fun _ => .inr (.inl (State.enterDescent_state _))) nofun nofun nofun fun safe parked => ?_
      rcases safe.dip parked with h | h <;> simp [commit] at h
    · exact .of_same stays level
  all_goals exact .of_same stays level

/-- The way down of a bus collapse ends in DESCENT or DARK (R111). -/
theorem State.collapseDown_descending (s : State) (n : Option CommitNotes) : (s.collapseDown n).Descending := by
  simp only [State.collapseDown]
  split
  · exact State.enterDark_descending _
  · exact .inl (State.enterDescent_state _)

theorem State.collapseDown_withheld {s : State} (n : Option CommitNotes) (open_ : s.flb.tenure.isSome = true)
    (issue : s.flb.issue = none) : (s.collapseDown n).Withheld := by
  have dark {t : State} (open_ : t.flb.tenure.isSome = true) (issue : t.flb.issue = none) : t.enterDark.Withheld := by
    have withheld := State.parkedAtState_withheld (s := (t.modEng fun e => { e with descent := false }).modBoc fun b =>
      { b with state := .dark, ride := none, restore := none, heldBoard := false, heldPanel := false,
               mains := if t.sense.acOk then some (t.clock + msCounts t.plan.rearmDelayMs) else none,
               mainsMet := false }) open_ issue (by simp [BocState.committed])
    exact fun _ => by simpa [State.enterDark] using withheld
  simp only [State.collapseDown]
  split
  · exact dark (by simpa using open_) (by simpa using issue)
  · exact State.parkedAtState_withheld (by simpa using open_) (by simpa using issue)

theorem State.bocCollapse_course (s : State) : Course s s.bocCollapse := by
  have down (n : Option CommitNotes) (hs : s.boc.state ≠ .dark) : Course s (s.collapseDown n) := by
    have descends := s.collapseDown_descending n
    refine ⟨fun _ => .inr descends, fun _ => descends, fun h => absurd h hs, fun _ => .inl ?_, fun safe parked => ?_⟩
    · rcases descends with state | ⟨state, -⟩ <;> simp [state]
    · obtain ⟨open_, issue⟩ := safe.parked_idle parked
      exact State.collapseDown_withheld n open_ issue
  unfold State.bocCollapse
  split
  · exact .of_same rfl rfl
  · exact .of_same rfl rfl
  case h_3 | h_4 | h_5 | h_6 => rename_i state; exact down _ (by simp [state])
  · exact .of_same (by simp) (by simp)

theorem State.bocFault_course (s : State) (e : RailEntry) (k : FaultKind) : Course s (s.bocFault e k) := by
  have hold (d : Domain) : Course s (s.holdMark d) := by cases d <;> exact .of_same rfl rfl
  unfold State.bocFault
  split
  · rename_i dip
    split
    · exact State.enterCommit_course _ (by simp [dip, BocState.committed])
    · split
      · exact hold _
      · exact .of_same rfl rfl
  · split
    · exact hold _
    · exact .of_same rfl rfl
  all_goals exact .of_same rfl rfl

theorem State.chanEvent_course (s : State) (ch : Fin 12) (st : ChanStep) : Course s (s.chanEvent ch st) := by
  have same {u : State} (boc : u.boc = s.boc) : Course s u := .of_same (by rw [boc]) (by rw [boc])
  have moved : Ties s (s.setRail ch st.chan) := .of_same (by simp) (by simp)
  have recorded (k : FaultKind) : Ties s ((s.setRail ch st.chan).faultRecord ch k) :=
    moved.trans (State.offerRecord_ties _ _)
  have answers {u : State} (a : Answer) (hu : Ties s u) : Ties s (u.answerFrom ch a) :=
    hu.trans (.of_same (by simp) (by simp))
  have faulted {u : State} (k : FaultKind) (hu : Ties s u) (boc : u.boc = s.boc) :
      Course s ((u.engineFault (s.railEntry ch)).bocFault (s.railEntry ch) k) := by
    have tied := hu.trans (State.engineFault_ties _ (s.railEntry ch))
    exact Course.from (by simp [boc]) (by simp [boc]) tied.parked tied.safe (State.bocFault_course _ _ k)
  simp only [State.chanEvent]
  cases st.fault <;> cases st.answer
  case none.none => exact same (by simp)
  case none.some a => exact same (by simp)
  case some.none k => exact faulted k (recorded k) (by simp)
  case some.some k a => exact faulted k (answers a (recorded k)) (by simp)

end Sys2Proof.Machine

namespace Sys2Proof.Machine

/-! #### Every command keeps to the course -/

/-- A course that begins once the clock and the measurements have been written. -/
theorem Course.after {s u t : State} (frame : u.load = s.load ∧ u.plan = s.plan ∧ u.eng = s.eng ∧ u.flb = s.flb ∧
    u.adu = s.adu ∧ u.boc = s.boc) (h : Course u t) : Course s t := by
  obtain ⟨load, plan, eng, flb, adu, boc⟩ := frame
  refine Course.from (by rw [boc]) (by rw [boc]) (by rw [adu]) (fun safe => ?_) h
  exact safe.of_same ⟨load, plan, by rw [eng], by rw [adu], by rw [adu], by rw [boc]⟩ (by rw [flb])

theorem Course.of_steers {s t : State} (h : Steers s t) : Course s t := by
  obtain ⟨state, level, -⟩ := BrownOut.control_eq_iff.mp h.control
  exact .of_same state level

theorem State.openXfer_course (s : State) (k : FlashClass) (o : Byte) : Course s (s.openXfer k o) := by
  simp only [State.openXfer]
  (repeat' split)
  · exact .of_same rfl rfl
  · exact .of_same rfl rfl
  · exact .of_same rfl rfl
  · unfold State.tenureOpcode
    split
    · exact .of_same rfl rfl
    · exact Course.settle (.of_same (by simp) (by simp))
  · exact .of_same (by simp) (by simp)

/-- The end of a transaction leaves a tenure alone: under one no intake is in progress (R124, R127). -/
theorem State.endXfer_withheld {s : State} (x : Xfer) (b : List Byte) (safe : LinkSafe s) (xfer : s.flb.xfer = some x)
    (h : s.Withheld) : (s.endXfer x b).Withheld := by
  intro committed
  have held := h (by simpa using committed)
  simp only [State.endXfer]
  split
  · have relay := safe.intake (by simp [xfer, Xfer.isIntake])
    simp [safe.tenure.mpr held.2.1] at relay
  all_goals exact held

theorem State.closeXfer_course {s t : State} (o : Option Byte) (b : List Byte) (h : Course s t)
    (link : LinkSafe s → LinkSafe t) : Course s (t.closeXfer o b) := by
  unfold State.closeXfer
  split
  · rename_i x xfer
    split
    · refine Course.settle ⟨fun hs => ?_, fun hs => ?_, fun hs => ?_, fun hs => ?_, fun safe parked => ?_⟩
      · simpa [State.Descending] using h.commit hs
      · simpa [State.Descending] using h.descent hs
      · simpa using h.dark hs
      · simpa using h.dip hs
      · exact State.endXfer_withheld x b (link safe) xfer (h.withheld safe parked)
    · exact h
  · exact h

theorem State.assertXfer_course (s : State) : Course s s.assertXfer := .of_same (by simp) (by simp)

theorem State.linkEvent_course (s : State) (k : FlashClass) (p : Span) (o : Byte) (b : List Byte) :
    Course s (s.linkEvent k p o b) := by
  cases p with
  | asserted => exact s.assertXfer_course
  | opening => exact s.openXfer_course k o
  | closing => exact State.closeXfer_course (some o) b (.of_same rfl rfl) id
  | whole =>
    simp only [State.linkEvent]
    split
    · exact State.closeXfer_course _ _ (s.openXfer_course k o) (State.openXfer_linkSafe k o)
    · exact .of_same rfl rfl

theorem State.stepEvent_course (s : State) (k : StepKind) : Course s (s.stepEvent k) := by
  unfold State.stepEvent
  split
  · exact (Course.of_steers (s.takeStep_steers k)).settle
  · exact .of_same rfl rfl

theorem exec_course (c : Instr) (s t : State) (applied : s.applied = true) (h : ControllerSafe s)
    (other : ∀ cause, c ≠ .partReset cause) (next : exec c s = .next t) : Course s t := by
  have phase : s.load.phase = some .applied := by simpa [State.applied] using applied
  have refl : Course s s := .of_same rfl rfl
  cases c <;> cases next
  case partReset cause => exact absurd rfl (other cause)
  case partResetRelease => simpa [State.released, phase] using refl
  case oscWaitEnd | flashWaitStatusRead | planHeaderReadEnd | planBodyReadEnd | journalScanSectorRead =>
    simpa [phase] using refl
  case scanCompletion =>
    simp only
    (repeat' split) <;> exact .of_same (by simp) (by simp)
  case uptimeTick | dimInRisingEdge | dimInFallingEdge | dimInSteady | dimOutHighTimeEnd | rampExpiry | flashPollStart =>
    (repeat' split) <;> exact .of_same (by simp) (by simp)
  case bocComputation =>
    (repeat' split)
    · refine Course.settle (Course.after ?_ (State.bocTakes_course _ _))
      exact ⟨rfl, rfl, rfl, rfl, rfl, rfl⟩
    all_goals exact refl
  case aduComputation =>
    (repeat' split)
    · exact Course.settle (.of_same (by simp) (by simp))
    all_goals exact refl
  case busCollapse =>
    split
    · refine Course.settle (Course.after ?_ (State.bocCollapse_course _))
      exact ⟨rfl, rfl, rfl, rfl, rfl, rfl⟩
    · exact refl
  case dipEntryStale pos =>
    split
    · exact .of_same rfl rfl
    · exact refl
  case filteredPgGood ch pin | filteredPgNotGood ch pin =>
    split
    · refine Course.settle (Course.after ?_ (State.chanEvent_course (s.pgFiltered ch pin) ch _))
      exact ⟨rfl, rfl, rfl, rfl, rfl, rfl⟩
    · exact refl
  case riseTimerExpiry ch | settleTimerExpiry ch | fallTimerExpiry ch =>
    split
    · refine Course.settle (Course.after ?_ (State.chanEvent_course (s.reach _) ch _))
      exact ⟨rfl, rfl, rfl, rfl, rfl, rfl⟩
    · exact refl
  case auxChange input pin =>
    split
    · exact Course.settle (.of_same (by simp) (by simp))
    · exact refl
  case requestChange r pin =>
    split
    · exact Course.settle (.of_same (by simp) (by simp))
    · exact refl
  case acOkLoss pin =>
    split
    · refine Course.settle (Course.after ?_ (State.bocLoss_course _))
      exact ⟨rfl, rfl, rfl, rfl, rfl, rfl⟩
    · exact refl
  case acOkReturn pin =>
    split
    · refine Course.settle (Course.after ?_ (State.bocReturn_course _))
      exact ⟨rfl, rfl, rfl, rfl, rfl, rfl⟩
    · exact refl
  case rideTimerExpiry =>
    split
    · rename_i due running
      have dip := h.ride (by simp [running])
      refine Course.settle (Course.after ?_ (State.enterCommit_course (s := s.reach due) _ (by simp [dip, BocState.committed])))
      exact ⟨rfl, rfl, rfl, rfl, rfl, rfl⟩
    · exact refl
  case restoreTimerExpiry =>
    split
    · rename_i due running
      have recover := h.restore (by simp [running])
      refine (Course.of_recover (.inr (.inr recover)) ?_).settle
      rcases State.restoreStep_state (s := (s.reach due).modBoc fun b => { b with restore := none }) recover with state | state <;>
        rw [state] <;> rfl
    · exact refl
  case mainsTimerExpiry =>
    split
    · exact Course.settle (.of_same rfl rfl)
    · exact refl
  case railUp r w => exact s.stepEvent_course _
  case railDown r w => exact s.stepEvent_course _
  case delay ms => exact s.stepEvent_course _
  case line l a => exact s.stepEvent_course _
  case linePulse l ms => exact s.stepEvent_course _
  case dimLimit v => exact s.stepEvent_course _
  case await i a ms => exact s.stepEvent_course _
  case flashQuiesce => exact s.stepEvent_course _
  case flashResume => exact s.stepEvent_course _
  case nop => exact s.stepEvent_course _
  case delayExpiry | linePulseExpiry | awaitTimeout | holdTimerExpiry | commandIssued | refusingWriteDisableEnd =>
    split
    · exact Course.settle (.of_same (by simp) (by simp))
    · exact refl
  case read p o => exact s.linkEvent_course _ _ _ _
  case statusRead p o => exact s.linkEvent_course _ _ _ _
  case writeEnable p o => exact s.linkEvent_course _ _ _ _
  case writeDisable p o => exact s.linkEvent_course _ _ _ _
  case otherPass p o => exact s.linkEvent_course _ _ _ _
  case program p o b => exact s.linkEvent_course _ _ _ _
  case eraseSector p o b => exact s.linkEvent_course _ _ _ _
  case eraseBlock p o b => exact s.linkEvent_course _ _ _ _
  case eraseDevice p o b => exact s.linkEvent_course _ _ _ _
  case regWrite p o b => exact s.linkEvent_course _ _ _ _
  case otherBlock p o b => exact s.linkEvent_course _ _ _ _
  case cutTransaction p =>
    cases p with
    | asserted => exact s.assertXfer_course
    | opening => exact s.assertXfer_course
    | closing => exact State.closeXfer_course _ _ refl id
    | whole =>
      simp only
      split
      · exact State.closeXfer_course _ _ s.assertXfer_course State.assertXfer_linkSafe
      · exact refl
  case flashPollComplete b =>
    split
    · exact refl
    · refine Course.settle ?_
      unfold State.pollActs
      (repeat' split)
      · exact .of_same rfl rfl
      · exact .of_steers (Steers.trans (t := s.pollByte b) (.of_same rfl ⟨rfl, rfl, rfl⟩) (State.opEnd_steers _ _ _))
      · exact .of_same rfl rfl
    · exact .of_same rfl rfl
  case overrun =>
    (repeat' split)
    · exact refl
    · exact Course.settle (.of_same rfl rfl)
    · exact refl
  case flashStuck =>
    split
    · exact Course.settle (.of_steers (Steers.trans (t := s.reach _) (.of_same rfl ⟨rfl, rfl, rfl⟩)
        ((State.offerRecord_steers _ _).trans (State.opEnd_steers _ _ _))))
    · exact refl

/-- Settles O36: each command keeps to the course, and a parked command leaves the slot by the link's rules. -/
theorem controllerKeepsItsPromises : Obligations.ControllerKeepsItsPromises := by
  intro c s t applied controller other next
  have course := exec_course c s t applied controller other next
  refine ⟨fun hs => ?_, fun hs => ?_, course.dark, ?_, ?_⟩
  · rcases course.commit hs with h | h | ⟨h, -⟩
    · exact .inl h
    · exact .inr (.inl h)
    · exact .inr (.inr h)
  · rcases course.descent hs with h | ⟨h, -⟩
    · exact .inl h
    · exact .inr h
  · rintro ⟨hs, ht⟩
    rcases course.dip hs with h | ⟨-, h⟩
    · exact absurd ht h
    · exact h
  · rintro ⟨safe, parked, committed⟩
    obtain ⟨slot, -, issue⟩ := course.withheld safe (Option.isSome_iff_ne_none.mpr parked) committed
    exact ⟨slot, issue⟩

end Sys2Proof.Machine


/-! ## The figures of a prepared plan (R1, R24, R122, R184, R190)

Each field of the image is brought into its range; the dependent figures are brought to each other's bounds. -/

namespace Sys2Proof.Machine

/-! ### The fits -/

theorem clampNat_bounds {lo hi : Nat} (h : lo ≤ hi) (v : Nat) : lo ≤ clampNat lo hi v ∧ clampNat lo hi v ≤ hi := by
  unfold clampNat; omega

/-- A field with bounds has a value between them. -/
theorem ranged_value_bounds (offset size : Nat) {lo hi : Nat} (h : lo ≤ hi) (img : List Byte) :
    lo ≤ (ranged offset size lo hi).value img ∧ (ranged offset size lo hi).value img ≤ hi :=
  clampNat_bounds h _

theorem ranged_value_le (offset size : Nat) {lo hi : Nat} (h : lo ≤ hi) (img : List Byte) :
    (ranged offset size lo hi).value img ≤ hi := (ranged_value_bounds offset size h img).2

theorem fitAddrBytes_values (v : Nat) : fitAddrBytes v = 0 ∨ fitAddrBytes v = 3 ∨ fitAddrBytes v = 4 := by
  unfold fitAddrBytes; split_ifs <;> simp

theorem fitLanes_values (v : Nat) : fitLanes v = 1 ∨ fitLanes v = 2 ∨ fitLanes v = 4 := by
  unfold fitLanes; split_ifs <;> simp

theorem fitSectors_values (v : Nat) : fitSectors v = 0 ∨ (2 ≤ fitSectors v ∧ fitSectors v ≤ 16) := by
  unfold fitSectors
  split_ifs
  · exact .inl rfl
  · exact .inr (clampNat_bounds (by decide) v)

/-- A number of as many bytes is below the power of 256 of that many. -/
theorem leNat_lt (bytes : List Byte) : leNat bytes < 256 ^ bytes.length := by
  induction bytes with
  | nil => exact Nat.one_pos
  | cons b bs ih =>
    have hb : b.toNat < 256 := b.isLt
    simp only [leNat, List.length_cons, pow_succ]
    omega

theorem fieldAt_lt (img : List Byte) (offset size : Nat) : fieldAt img offset size < 256 ^ size :=
  (leNat_lt _).trans_le (Nat.pow_le_pow_right (by decide) (List.length_take_le _ _))

theorem alignDown_mod (address log : Nat) : alignDown address log % 2 ^ log = 0 := Nat.mul_mod_left _ _

theorem atMost_le (bound v offset : Nat) : (atMost bound v offset).1 ≤ bound := by
  unfold atMost; split <;> simp only <;> omega

theorem le_atMost {lo bound v : Nat} (offset : Nat) (hb : lo ≤ bound) (hv : lo ≤ v) :
    lo ≤ (atMost bound v offset).1 := by
  unfold atMost; split <;> assumption

theorem parseTrim_bounds (img : List Byte) (offset : Nat) : -7 ≤ parseTrim img offset ∧ parseTrim img offset ≤ 7 := by
  unfold parseTrim; simp only; split <;> omega

/-! ### Steps -/

theorem inRange_of_bounds {lo hi v : Nat} (h : lo ≤ v ∧ v ≤ hi) : inRange lo hi v = true := by
  simpa [inRange] using h

theorem presentRail_command (img : List Byte) (n : Nat) (f : Fin 12 → StepKind)
    (h : ∀ r, (f r).command.wellFormed = true) :
    (((presentRail img n).map f).getD .nop).command.wellFormed = true := by
  cases presentRail img n with
  | none => rfl
  | some r => exact h r

theorem presentLine_command (img : List Byte) (n : Nat) (f : Fin 6 → StepKind)
    (h : ∀ l, (f l).command.wellFormed = true) :
    (((presentLine img n).map f).getD .nop).command.wellFormed = true := by
  cases presentLine img n with
  | none => rfl
  | some l => exact h l

/-- Whatever bytes a step entry holds, its step is well formed: parameter b lies in the range its kind gives it (R25). -/
theorem parseStep_wellFormed (img : List Byte) (i : Nat) : (parseStep img i).kind.command.wellFormed = true := by
  unfold parseStep parseKind
  simp only
  split
  next => rfl
  next => exact presentRail_command img _ _ fun _ => rfl
  next => exact presentRail_command img _ _ fun _ => rfl
  next h => rw [h]; exact inRange_of_bounds (ranged_value_bounds _ _ (by decide) img)
  next => exact presentLine_command img _ _ fun _ => rfl
  next h => rw [h]; exact presentLine_command img _ _ fun _ => inRange_of_bounds (ranged_value_bounds _ _ (by decide) img)
  next h => rw [h]; exact inRange_of_bounds (ranged_value_bounds _ _ (by decide) img)
  next h => rw [h]; exact inRange_of_bounds (ranged_value_bounds _ _ (by decide) img)
  next => rfl
  next => rfl
  next => rfl

/-! ### The class table -/

/-- The byte and lane counts of a class entry are among those R122 gives. -/
def ClassEntry.Counted (e : ClassEntry) : Prop :=
  (e.addrBytes = 0 ∨ e.addrBytes = 3 ∨ e.addrBytes = 4) ∧ (e.addrLanes = 1 ∨ e.addrLanes = 2 ∨ e.addrLanes = 4) ∧
    (e.dataLanes = 1 ∨ e.dataLanes = 2 ∨ e.dataLanes = 4)

/-- The table holds 16 entries with counts of R122. -/
def ClassTable.Counted (t : ClassTable) : Prop := t.entries.length = 16 ∧ ∀ e ∈ t.entries, e.Counted

theorem builtinClasses_counted : ∀ e ∈ builtinClasses, e.Counted := by
  unfold ClassEntry.Counted; decide

theorem ClassTable.Counted.need {t : ClassTable} (h : t.Counted) (cls : FlashClass) : (t.need cls).Counted := by
  unfold ClassTable.need
  split
  · exact h
  split
  next e he =>
    refine ⟨by simpa using h.1, fun x hx => ?_⟩
    obtain hx | rfl := List.mem_or_eq_of_mem_set hx
    · exact h.2 x hx
    · exact builtinClasses_counted x (List.mem_of_find?_eq_some he)
  · exact h

theorem prepareClasses_counted (img : List Byte) : (prepareClasses img).Counted := by
  refine ClassTable.Counted.need (ClassTable.Counted.need (ClassTable.Counted.need ⟨by simp, fun e he => ?_⟩ _) _) _
  obtain ⟨i, -, rfl⟩ := List.mem_map.1 he
  exact ⟨fitAddrBytes_values _, fitLanes_values _, fitLanes_values _⟩

/-! ### Windows, blocks and the ring -/

theorem parseWindow_aligned (img : List Byte) (i : Nat) :
    12 ≤ (parseWindow img i).sizeLog ∧ (parseWindow img i).sizeLog ≤ 28 ∧
      (parseWindow img i).base % 2 ^ (parseWindow img i).sizeLog = 0 := by
  unfold parseWindow
  split
  · have h := ranged_value_bounds (windowOffset i + 4) 1 (lo := 12) (hi := 28) (by decide) img
    exact ⟨h.1, h.2, alignDown_mod _ _⟩
  · decide

theorem prepareBlock_bounds (img : List Byte) :
    15 ≤ (prepareBlock img).1 ∧ (prepareBlock img).1 ≤ 18 ∧ fSector.value img ≤ (prepareBlock img).1 := by
  have hs : 12 ≤ fSector.value img ∧ fSector.value img ≤ 16 := ranged_value_bounds _ _ (by decide) img
  have hb : 15 ≤ fBlock.value img ∧ fBlock.value img ≤ 18 := ranged_value_bounds _ _ (by decide) img
  unfold prepareBlock
  split_ifs <;> simp only <;> omega

theorem prepareSectors_values (img : List Byte) (entries : List ClassEntry) :
    (prepareSectors img entries).1 = 0 ∨
      (2 ≤ (prepareSectors img entries).1 ∧ (prepareSectors img entries).1 ≤ 16) := by
  unfold prepareSectors
  simp only
  split_ifs
  · exact .inl rfl
  · exact fitSectors_values _
  · exact .inl rfl

theorem prepareTyp_bounds (img : List Byte) (k : Nat) :
    1 ≤ (prepareTyp img k).1 ∧ (prepareTyp img k).1 ≤ (fMax k).value img ∧ (fMax k).value img ≤ 1000000 := by
  have hm := ranged_value_bounds (maxOffset k) 4 (lo := 1) (hi := 1000000) (by decide) img
  have ht := ranged_value_bounds (typOffset k) 4 (lo := 1) (hi := 0xFFFFFFFF) (by decide) img
  exact ⟨le_atMost _ hm.1 ht.1, atMost_le _ _ _, hm.2⟩

/-! ### The whole plan -/

/-- Whatever bytes the image holds, every figure of the plan prepared from it lies in its range (R184). -/
theorem preparePlan_inRange (img : List Byte) : (preparePlan img).InRange where
  unknownClass := by
    simp only [preparePlan]
    split <;> simp
  failBit := ranged_value_le _ _ (by decide) img
  scales := ⟨ranged_value_bounds _ _ (by decide) img, ranged_value_bounds _ _ (by decide) img,
    ranged_value_bounds _ _ (by decide) img⟩
  trims t ht := by
    simp only [preparePlan, List.mem_cons, List.not_mem_nil, or_false] at ht
    obtain rfl | rfl | rfl | rfl := ht <;> exact parseTrim_bounds img _
  busFloor := ranged_value_le _ _ (by decide) img
  supply := ranged_value_le _ _ (by decide) img
  filters := by
    simp only [preparePlan, parseInput]
    omega
  caps := ⟨ranged_value_le _ _ (by decide) img, ranged_value_le _ _ (by decide) img,
    ranged_value_bounds _ _ (by decide) img⟩
  rails ch := by
    have hp := fieldAt_lt img (railOffset ch.val + 5) 2
    simp only [preparePlan, Fin.getElem_fin, Vector.getElem_ofFn, parseRail]
    exact ⟨ranged_value_le _ _ (by decide) img, ranged_value_le _ _ (by decide) img,
      ranged_value_bounds _ _ (by decide) img, ranged_value_bounds _ _ (by decide) img, by omega,
      ranged_value_le _ _ (by decide) img⟩
  slots k := by
    simp only [preparePlan, Fin.getElem_fin, Vector.getElem_ofFn, parseSlot]
    exact ⟨ranged_value_le _ _ (by decide) img, ranged_value_le _ _ (by decide) img⟩
  pool := by
    refine ⟨by simp [preparePlan], fun st hst => ?_⟩
    obtain ⟨i, -, rfl⟩ := List.mem_map.1 hst
    exact parseStep_wellFormed img i
  classes := prepareClasses_counted img
  windows := by
    refine ⟨by simp [preparePlan], fun w hw => ?_⟩
    obtain ⟨i, -, rfl⟩ := List.mem_map.1 hw
    exact parseWindow_aligned img i
  energy := ⟨ranged_value_bounds _ _ (by decide) img, ranged_value_bounds _ _ (by decide) img,
    ranged_value_bounds _ _ (by decide) img, ranged_value_le _ _ (by decide) img, ranged_value_le _ _ (by decide) img⟩
  loads := ⟨ranged_value_le _ _ (by decide) img, ranged_value_le _ _ (by decide) img,
    ranged_value_le _ _ (by decide) img⟩
  levels := ⟨atMost_le _ _ _, atMost_le _ _ _, ranged_value_le _ _ (by decide) img⟩
  ride := ⟨ranged_value_le _ _ (by decide) img, ranged_value_le _ _ (by decide) img,
    ranged_value_bounds _ _ (by decide) img, ranged_value_bounds _ _ (by decide) img⟩
  storm := ⟨ranged_value_bounds _ _ (by decide) img, ranged_value_bounds _ _ (by decide) img⟩
  link := ⟨ranged_value_bounds _ _ (by decide) img, ranged_value_bounds _ _ (by decide) img,
    ranged_value_bounds _ _ (by decide) img⟩
  geometry := by
    obtain ⟨hlo, hhi, hsector⟩ := prepareBlock_bounds img
    exact ⟨ranged_value_bounds _ _ (by decide) img, ranged_value_bounds _ _ (by decide) img, ⟨hlo, hhi⟩, hsector⟩
  times op := by cases op <;> exact prepareTyp_bounds img _
  journal := ⟨prepareSectors_values img _, alignDown_mod _ _, ranged_value_bounds _ _ (by decide) img⟩
  descent := ⟨Nat.min_le_left _ _, Nat.min_le_left _ _⟩

theorem fallbackPool_wellFormed : ∀ st ∈ fallbackPool, st.kind.command.wellFormed = true := by
  intro st hst
  obtain hst | hst := List.mem_append.1 hst
  · obtain ⟨k, hk, rfl⟩ := List.mem_map.1 hst
    clear hst
    revert k
    simp [StepKind.command, Instr.wellFormed, inRange]
  · rw [List.eq_of_mem_replicate hst]; rfl

/-- The built-in plan has every figure in its range (R183). -/
theorem fallbackPlan_inRange : fallbackPlan.InRange where
  unknownClass := by decide
  failBit := by decide
  scales := by decide
  trims := by decide
  busFloor := by decide
  supply := by decide
  filters := by decide
  caps := by decide
  rails := by decide
  slots := by decide
  pool := ⟨rfl, fallbackPool_wellFormed⟩
  classes := by decide
  windows := by decide
  energy := by decide
  loads := by decide
  levels := by decide
  ride := by decide
  storm := by decide
  link := by decide
  geometry := by decide
  times := by intro op; cases op <;> decide
  journal := by decide
  descent := by decide

/-! ### Where a plan comes from -/

/-- A plan is the built-in one or was prepared from an image (R182, R184). -/
def Plan.Sourced (p : Plan) : Prop := p = fallbackPlan ∨ ∃ img, p = preparePlan img

theorem Plan.Sourced.inRange {p : Plan} : p.Sourced → p.InRange
  | .inl h => h ▸ fallbackPlan_inRange
  | .inr ⟨img, h⟩ => h ▸ preparePlan_inRange img

theorem State.applyPlan_sourced (s : State) (j : Journal) (v : Nat) (h : s.plan.Sourced) :
    (s.applyPlan j v).plan.Sourced := by
  simp only [State.applyPlan]
  split
  · exact .inl rfl
  · simpa [State.applyBlocks] using h

theorem State.fallBack_sourced (s : State) (v : Nat) : (s.fallBack v).plan.Sourced :=
  State.applyPlan_sourced _ _ _ (.inl rfl)

theorem State.prepareImage_sourced (s : State) (v : Nat) : (s.prepareImage v).plan.Sourced := by
  simp only [State.prepareImage]
  split
  · exact .inr ⟨_, rfl⟩
  · exact State.applyPlan_sourced _ _ _ (.inr ⟨_, rfl⟩)

/-- A command leaves the plan as it is, or brings the built-in or a prepared one: only part reset and the load write it
(R182, R184, R189). -/
theorem exec_plan (c : Instr) (s t : State) (h : exec c s = .next t) : t.plan = s.plan ∨ t.plan.Sourced := by
  cases c <;> cases h
  case partReset cause =>
    cases cause <;> simp only <;> split
    · exact .inr (.inl rfl)
    · exact .inl rfl
    · exact .inr (.inl rfl)
    · exact .inl rfl
  case partResetRelease p a b ended =>
    simp only
    (repeat' split)
    · exact .inl rfl
    · exact .inl (by simp)
    · exact .inr (.inl rfl)
  case flashWaitStatusRead byte =>
    left
    simp only
    (repeat' split) <;> simp
  case planHeaderReadEnd bytes =>
    simp only
    (repeat' split)
    · exact .inl rfl
    · exact .inr (State.fallBack_sourced _ _)
    · exact .inl rfl
  case planBodyReadEnd bytes v =>
    simp only
    (repeat' split)
    · exact .inr (State.prepareImage_sourced _ _)
    · exact .inr (State.fallBack_sourced _ _)
    · exact .inl rfl
  case journalScanSectorRead bytes v =>
    simp only
    (repeat' split)
    · exact .inl rfl
    · unfold State.applyPlan
      split
      · exact .inr (.inl rfl)
      · exact .inl (by simp [State.applyBlocks])
    · exact .inl rfl
  case scanCompletion =>
    left
    simp only
    (repeat' split) <;> simp
  all_goals
    left
    (repeat' split) <;> simp_all

/-- Settles O13: no command brings a plan that is not the one before, the built-in one or one prepared from an image. -/
theorem everyStepKeepsThePlanInRange : Obligations.EveryStepKeepsThePlanInRange := fun _ _ =>
  step_keeps (P := fun s => s.plan.InRange) (fun _ _ _ _ h => h)
    fun c s t hs h => (exec_plan c s t h).elim (fun same => same ▸ hs) Plan.Sourced.inRange

end Sys2Proof.Machine


/-! ## Before plan application (R3, R40, R57, R70, R72, R92, R120, R150, R168)

Until the plan is applied the blocks are blank: no timer runs, the engine is IDLE, nothing is on the link, and so no
command but those of the load and of what runs from the release has an event. -/

namespace Sys2Proof.Machine

/-- What of the inputs starts at plan application has not started. -/
structure Sense.Blank (m : Sense) : Prop where
  inputs : m.acOk = false ∧ m.aux = Vector.replicate 2 false ∧ m.dipSince = none ∧ m.dipHeld = 0 ∧ m.busBelow = false ∧
    m.busCount = 0
  offers : m.collapse = false ∧ m.bocOffer = false ∧ m.aduOffer = false
  values : m.vbusMv = none ∧ m.vbulkV = none ∧ m.ibusMa = none
  filters : m.supplyCode = 3 ∧ m.filters.pg = Vector.replicate 12 0 ∧ m.filters.aux = Vector.replicate 2 0 ∧
    m.filters.acOk = 0

/-- Every block holds its value for part reset, but for what runs from the release. -/
structure State.Blank (s : State) : Prop where
  rails : s.rails = Vector.replicate 12 Channel.reset
  eng : s.eng = Engine.reset
  hbu : s.hbu = none
  boc : s.boc = BrownOut.reset
  adu : s.adu = Admission.reset
  jnu : s.jnu = Journal.reset
  flb : s.flb = { Bridge.reset with xfer := s.flb.xfer, uOut := s.flb.uOut }
  link : s.flb.xfer.all Xfer.unseen = true
  dpt : s.dpt = Dimming.reset
  sense : s.sense.Blank

/-- Part reset is held exactly while one of its causes persists, and then nothing runs (R56). -/
structure State.ResetHeld (s : State) : Prop where
  causes : s.released = false ↔ s.sense.supplyLow = true ∨ s.sense.resetNLow = true
  load : s.released = false → s.load = Loader.reset
  uptime : s.released = false → s.sense.uptime = 0 ∧ s.sense.ibusRing = [] ∧ s.sense.runReq = false ∧
    s.sense.panelReq = false

theorem heldUntilApplied_iff (s : State) : HeldUntilApplied s ↔ (s.applied = false → s.Blank) ∧ s.ResetHeld :=
  ⟨fun h => ⟨fun a => ⟨h.rails a, h.eng a, h.hbu a, h.boc a, h.adu a, h.jnu a, h.flb a, h.link a, h.dpt a,
      ⟨h.inputs a, h.offers a, h.values a, h.filters a⟩⟩, ⟨h.causes, h.load, h.uptime⟩⟩,
    fun ⟨b, r⟩ => ⟨fun a => (b a).rails, fun a => (b a).eng, fun a => (b a).hbu, fun a => (b a).boc,
      fun a => (b a).adu, fun a => (b a).jnu, fun a => (b a).flb, fun a => (b a).link, fun a => (b a).dpt,
      fun a => (b a).sense.inputs, fun a => (b a).sense.offers, fun a => (b a).sense.values,
      fun a => (b a).sense.filters, r.causes, r.load, r.uptime⟩⟩

/-! ### Nothing has an event in a blank part -/

namespace State.Blank

variable {s : State}

theorem rail (b : s.Blank) (ch : Fin 12) : s.rail ch = Channel.reset := by simp [State.rail, b.rails]

theorem mode (b : s.Blank) : s.flb.mode = .ignore := by rw [b.flb]; rfl

theorem tenure (b : s.Blank) : s.flb.tenure = none := by rw [b.flb]; rfl

theorem issue (b : s.Blank) : s.flb.issue = none := by rw [b.flb]; rfl

theorem inflight (b : s.Blank) : s.flb.inflight = none := by rw [b.flb]; rfl

theorem poll (b : s.Blank) : s.flb.poll = .idle := by rw [b.flb]; rfl

theorem offer (b : s.Blank) : s.flb.offer = none := by rw [b.flb]; rfl

/-- Nothing follows of itself before plan application. -/
theorem settle (b : s.Blank) (held : s.applied = false) : s.settle = s := by
  have nothing : s.react = none := by
    simp [State.react, State.linkReact, State.bocReact, State.engineReact, State.survivalWaitEnd, State.quietWork,
      State.quietWorkAllowed, State.takeOffer, held, b.mode, b.offer, b.jnu, Journal.reset]
  simp [State.settle, settleFuel, State.settleFor, nothing]

theorem ignores (b : s.Blank) : s.linkIgnores = true := by simp [State.linkIgnores, b.mode]

/-- The blocks of a part stay blank where they are left as they are. -/
theorem of_same {t : State} (b : s.Blank) (rails : t.rails = s.rails) (eng : t.eng = s.eng) (hbu : t.hbu = s.hbu)
    (boc : t.boc = s.boc) (flb : t.flb = s.flb) (adu : t.adu = s.adu) (jnu : t.jnu = s.jnu) (dpt : t.dpt = s.dpt)
    (sense : t.sense.Blank) : t.Blank :=
  ⟨rails ▸ b.rails, eng ▸ b.eng, hbu ▸ b.hbu, boc ▸ b.boc, adu ▸ b.adu, jnu ▸ b.jnu, flb ▸ b.flb, flb ▸ b.link,
    dpt ▸ b.dpt, sense⟩

/-- A transaction of which the part has seen nothing changes the transaction in progress alone. -/
theorem of_xfer (b : s.Blank) (x : Option Xfer) (out : UOut) (unseen : x.all Xfer.unseen = true) :
    (s.modFlb fun f => { f with xfer := x, uOut := out }).Blank :=
  ⟨b.rails, b.eng, b.hbu, b.boc, b.adu, b.jnu, by simp only [State.modFlb]; rw [b.flb], unseen, b.dpt, b.sense⟩

end State.Blank

/-- The inputs stay blank where only the measurement of DIM_IN, uptime, the ring, the requests and the moments change. -/
theorem Sense.Blank.of_same {m n : Sense} (b : m.Blank)
    (inputs : n.acOk = m.acOk ∧ n.aux = m.aux ∧ n.dipSince = m.dipSince ∧ n.dipHeld = m.dipHeld ∧
      n.busBelow = m.busBelow ∧ n.busCount = m.busCount)
    (offers : n.collapse = m.collapse ∧ n.bocOffer = m.bocOffer ∧ n.aduOffer = m.aduOffer)
    (values : n.vbusMv = m.vbusMv ∧ n.vbulkV = m.vbulkV ∧ n.ibusMa = m.ibusMa)
    (filters : n.supplyCode = m.supplyCode ∧ n.filters.pg = m.filters.pg ∧ n.filters.aux = m.filters.aux ∧
      n.filters.acOk = m.filters.acOk) : n.Blank := by
  obtain ⟨i, o, v, f⟩ := b
  exact ⟨by simp_all, by simp_all, by simp_all, by simp_all⟩

/-! ### What keeps the hold -/

/-- Part reset is held as before where the load, the causes, uptime, the ring and the requests are as before. -/
theorem State.ResetHeld.of_same {s t : State} (h : s.ResetHeld) (load : t.load = s.load)
    (causes : t.sense.supplyLow = s.sense.supplyLow ∧ t.sense.resetNLow = s.sense.resetNLow)
    (runs : s.released = false → t.sense.uptime = s.sense.uptime ∧ t.sense.ibusRing = s.sense.ibusRing ∧
      t.sense.runReq = s.sense.runReq ∧ t.sense.panelReq = s.sense.panelReq) : t.ResetHeld := by
  have released : t.released = s.released := by rw [State.released, load, State.released]
  refine ⟨?_, fun r => ?_, fun r => ?_⟩
  · rw [released, causes.1, causes.2]; exact h.causes
  · exact load.trans (h.load (released ▸ r))
  · obtain ⟨u, i, q, p⟩ := runs (released ▸ r)
    rw [u, i, q, p]
    exact h.uptime (released ▸ r)

/-- Where part reset is released and stays so, what runs from the release is free. -/
theorem State.ResetHeld.of_released {s t : State} (h : s.ResetHeld) (before : s.released = true) (after : t.released = true)
    (causes : t.sense.supplyLow = s.sense.supplyLow ∧ t.sense.resetNLow = s.sense.resetNLow) : t.ResetHeld := by
  refine ⟨?_, by simp [after], by simp [after]⟩
  rw [causes.1, causes.2, ← h.causes, before, after]

/-- A part whose blocks are at part reset, its cause standing, meets the rule. -/
theorem HeldUntilApplied.resetBlocks (s : State) (cause : s.sense.supplyLow = true ∨ s.sense.resetNLow = true) :
    HeldUntilApplied s.resetBlocks := by
  rw [heldUntilApplied_iff]
  exact ⟨fun _ => ⟨rfl, rfl, rfl, rfl, rfl, rfl, rfl, rfl, rfl,
      ⟨⟨rfl, rfl, rfl, rfl, rfl, rfl⟩, ⟨rfl, rfl, rfl⟩, ⟨rfl, rfl, rfl⟩, ⟨rfl, rfl, rfl, rfl⟩⟩⟩,
    ⟨iff_of_true rfl cause, fun _ => rfl, fun _ => ⟨rfl, rfl, rfl, rfl⟩⟩⟩

theorem HeldUntilApplied.supplyFails (s : State) : HeldUntilApplied s.supplyFails := .resetBlocks _ (.inl rfl)

/-- The release of part reset begins the load with every block blank. -/
theorem HeldUntilApplied.release (s : State) (p : BitVec 2) (u d : Bool) : HeldUntilApplied (s.release p u d) := by
  rw [heldUntilApplied_iff]
  exact ⟨fun _ => ⟨rfl, rfl, rfl, rfl, rfl, rfl, rfl, rfl, rfl,
      ⟨⟨rfl, rfl, rfl, rfl, rfl, rfl⟩, ⟨rfl, rfl, rfl⟩, ⟨rfl, rfl, rfl⟩, ⟨rfl, rfl, rfl, rfl⟩⟩⟩,
    ⟨iff_of_false (by simp [State.release, State.released]) (by simp [State.release, Sense.reset]),
      by simp [State.release, State.released], by simp [State.release, State.released]⟩⟩

/-- A part whose plan is applied, released and without a cause, meets the rule. -/
theorem HeldUntilApplied.of_applied {s : State} (h : s.applied = true)
    (causes : s.sense.supplyLow = false ∧ s.sense.resetNLow = false) : HeldUntilApplied s := by
  have released : s.released = true := by
    simp only [State.applied, beq_iff_eq] at h
    simp [State.released, h]
  rw [heldUntilApplied_iff]
  exact ⟨by simp [h], ⟨by simp [released, causes], by simp [released], by simp [released]⟩⟩

/-- While part reset is released none of its causes stands. -/
theorem State.ResetHeld.noCause {s : State} (h : s.ResetHeld) (released : s.released = true) :
    s.sense.supplyLow = false ∧ s.sense.resetNLow = false := by
  have := h.causes.not
  rw [released] at this
  simpa using this

/-! ### The commands of the load -/

/-- Plan application, or the part reset a low supply brings instead. -/
theorem State.applyPlan_held (s : State) (j : Journal) (v : Nat)
    (causes : s.sense.supplyLow = false ∧ s.sense.resetNLow = false) : HeldUntilApplied (s.applyPlan j v) := by
  unfold State.applyPlan
  split
  · exact .supplyFails s
  · exact .of_applied (by simp [State.applyBlocks, State.applied]) (by simpa [State.applyBlocks, Sense.atApplication])

/-- A blank part whose load goes on stays blank. -/
theorem HeldUntilApplied.ofLoad {s t : State} (h : HeldUntilApplied s) (held : s.applied = false)
    (running : s.released = true ∧ t.released = true)
    (same : t.rails = s.rails ∧ t.eng = s.eng ∧ t.hbu = s.hbu ∧ t.boc = s.boc ∧ t.flb = s.flb ∧ t.adu = s.adu ∧
      t.jnu = s.jnu ∧ t.dpt = s.dpt ∧ t.sense = s.sense) : HeldUntilApplied t := by
  obtain ⟨rails, eng, hbu, boc, flb, adu, jnu, dpt, sense⟩ := same
  obtain ⟨b, r⟩ := (heldUntilApplied_iff s).1 h
  exact (heldUntilApplied_iff t).2
    ⟨fun _ => (b held).of_same rails eng hbu boc flb adu jnu dpt (sense ▸ (b held).sense),
      r.of_released running.1 running.2 (sense ▸ ⟨rfl, rfl⟩)⟩

theorem State.prepareImage_held {s : State} (v : Nat) (h : HeldUntilApplied s) (held : s.applied = false)
    (running : s.released = true) : HeldUntilApplied (s.prepareImage v) := by
  have causes := ((heldUntilApplied_iff s).1 h).2.noCause running
  unfold State.prepareImage
  simp only
  split
  · exact h.ofLoad held ⟨running, rfl⟩ ⟨rfl, rfl, rfl, rfl, rfl, rfl, rfl, rfl, rfl⟩
  · exact State.applyPlan_held _ _ _ causes

end Sys2Proof.Machine


/-! ## Every command keeps the blocks blank until plan application -/

namespace Sys2Proof.Machine

@[simp] theorem Sense.busFloor_causes (m : Sense) (floor vbus : Nat) :
    (m.busFloor floor vbus).supplyLow = m.supplyLow ∧ (m.busFloor floor vbus).resetNLow = m.resetNLow := by
  unfold Sense.busFloor
  (repeat' split) <;> simp

@[simp] theorem State.scanOffers_causes (s : State) :
    s.scanOffers.sense.supplyLow = s.sense.supplyLow ∧ s.scanOffers.sense.resetNLow = s.sense.resetNLow := by
  simp [State.scanOffers]

@[simp] theorem State.takeCodes_causes (s : State) (a b c d : BitVec 12) :
    (s.takeCodes a b c d).sense.supplyLow = s.sense.supplyLow ∧
      (s.takeCodes a b c d).sense.resetNLow = s.sense.resetNLow := by simp [State.takeCodes]

@[simp] theorem State.reachScan_causes (s : State) :
    s.reachScan.sense.supplyLow = s.sense.supplyLow ∧ s.reachScan.sense.resetNLow = s.sense.resetNLow := by
  simp [State.reachScan]

@[simp] theorem State.requestTaken_causes (s : State) (r : Request) (a : Bool) :
    (s.requestTaken r a).sense.supplyLow = s.sense.supplyLow ∧
      (s.requestTaken r a).sense.resetNLow = s.sense.resetNLow := by cases r <;> simp [State.requestTaken]

@[simp] theorem State.requestFiltered_causes (s : State) (r : Request) (p : RawPin) :
    (s.requestFiltered r p).sense.supplyLow = s.sense.supplyLow ∧
      (s.requestFiltered r p).sense.resetNLow = s.sense.resetNLow := by
  cases r <;> simp [State.requestFiltered, State.modFilters]

/-- After plan application the causes of part reset change with part reset alone (R56). -/
theorem exec_causes (c : Instr) (s t : State) (applied : s.applied = true) (noReset : ∀ cause, c ≠ .partReset cause)
    (h : exec c s = .next t) : t.sense.supplyLow = s.sense.supplyLow ∧ t.sense.resetNLow = s.sense.resetNLow := by
  have phase : s.load.phase = some .applied := by simpa [State.applied] using applied
  cases c
  case partReset cause => exact absurd rfl (noReset cause)
  all_goals cases h
  case partResetRelease => simp [State.released, phase]
  case scanCompletion =>
    simp only
    (repeat' split) <;> simp
  case dimInRisingEdge n =>
    obtain ⟨d, edge⟩ := (s.reach n).dimRising_sense
    split <;> simp [edge]
  case dimInFallingEdge n =>
    obtain ⟨d, edge⟩ := (s.reach n).dimFalling_sense
    split <;> simp [edge]
  case dimInSteady =>
    obtain ⟨d, steady⟩ := (s.reach (s.sense.dim.lastEdge + steadyCounts)).dimBecomesSteady_sense
    split <;> simp [steady]
  case auxChange i pin =>
    split <;> simp [State.auxFiltered]
  case uptimeTick => split <;> simp [State.endMs]
  all_goals (repeat' split) <;> simp_all [State.modFilters, State.pgFiltered, State.acOkFiltered]

/-! ### The measurement of DIM_IN before plan application -/

theorem State.fixDuty_blank {s : State} (h : s.dpt = Dimming.reset) : s.fixDuty.dpt = Dimming.reset := by
  simp [State.fixDuty, h, Dimming.reset]

theorem State.dimSteadyOut_blank {s : State} (h : s.dpt = Dimming.reset) : s.dimSteadyOut.dpt = Dimming.reset := by
  unfold State.dimSteadyOut
  split <;> simp [h, Dimming.reset]

theorem State.dimRising_blank {s : State} (h : s.dpt = Dimming.reset) : s.dimRising.dpt = Dimming.reset := by
  unfold State.dimRising
  simp only
  split
  · simpa using h
  · exact State.fixDuty_blank (by simpa using h)
  · exact State.fixDuty_blank (by simpa using h)
  · simp [h, Dimming.reset]
  · simp [h, Dimming.reset]

theorem State.dimFalling_blank {s : State} (h : s.dpt = Dimming.reset) : s.dimFalling.dpt = Dimming.reset := by
  unfold State.dimFalling
  simp only
  split <;> simp [h, Dimming.reset]

theorem State.dimBecomesSteady_blank {s : State} (h : s.dpt = Dimming.reset) :
    s.dimBecomesSteady.dpt = Dimming.reset := State.dimSteadyOut_blank (by simpa using h)

/-- A blank part that is released stays so where only what runs from the release changes. -/
theorem HeldUntilApplied.ofRun {s t : State} (h : HeldUntilApplied s) (held : s.applied = false)
    (running : s.released = true) (load : t.load = s.load) (rails : t.rails = s.rails) (eng : t.eng = s.eng)
    (hbu : t.hbu = s.hbu) (boc : t.boc = s.boc) (flb : t.flb = s.flb) (adu : t.adu = s.adu) (jnu : t.jnu = s.jnu)
    (dpt : s.dpt = Dimming.reset → t.dpt = Dimming.reset) (sense : s.sense.Blank → t.sense.Blank)
    (causes : t.sense.supplyLow = s.sense.supplyLow ∧ t.sense.resetNLow = s.sense.resetNLow) : HeldUntilApplied t := by
  obtain ⟨b, r⟩ := (heldUntilApplied_iff s).1 h
  obtain ⟨rails', eng', hbu', boc', adu', jnu', flb', link', dpt', sense'⟩ := b held
  refine (heldUntilApplied_iff t).2 ⟨fun _ => ?_, r.of_released running ?_ causes⟩
  · exact ⟨rails ▸ rails', eng ▸ eng', hbu ▸ hbu', boc ▸ boc', adu ▸ adu', jnu ▸ jnu', flb ▸ flb', flb ▸ link',
      dpt dpt', sense sense'⟩
  · rw [State.released, load]; exact running

/-- The measurement of DIM_IN goes on in a blank part. -/
theorem HeldUntilApplied.ofDim {s u t : State} (h : HeldUntilApplied s) (held : s.applied = false)
    (running : s.released = true) (before : ∃ n, u = s.reach n)
    (frame : t.load = u.load ∧ t.rails = u.rails ∧ t.eng = u.eng ∧ t.hbu = u.hbu ∧ t.boc = u.boc ∧ t.flb = u.flb ∧
      t.adu = u.adu ∧ t.jnu = u.jnu)
    (dpt : u.dpt = Dimming.reset → t.dpt = Dimming.reset) (sense : ∃ d, t.sense = { u.sense with dim := d }) :
    HeldUntilApplied t := by
  obtain ⟨n, rfl⟩ := before
  obtain ⟨load, rails, eng, hbu, boc, flb, adu, jnu⟩ := frame
  obtain ⟨d, hd⟩ := sense
  exact h.ofRun held running load rails eng hbu boc flb adu jnu dpt
    (fun b => hd ▸ b.of_same ⟨rfl, rfl, rfl, rfl, rfl, rfl⟩ ⟨rfl, rfl, rfl⟩ ⟨rfl, rfl, rfl⟩ ⟨rfl, rfl, rfl, rfl⟩)
    (hd ▸ ⟨rfl, rfl⟩)

/-! ### Requests, the scan and the U-link before plan application -/

theorem State.requestTaken_held {s : State} (h : HeldUntilApplied s) (held : s.applied = false)
    (running : s.released = true) (r : Request) (p : RawPin) :
    HeldUntilApplied ((s.requestFiltered r p).requestTaken r p.high).settle := by
  have eng : s.eng = Engine.reset := h.eng held
  have blank : HeldUntilApplied ((s.requestFiltered r p).requestTaken r p.high) := by
    cases r
    all_goals
      exact h.ofRun held running rfl rfl (by simp [State.requestTaken, State.requestFiltered, State.modFilters, eng,
        Engine.reset]) rfl rfl rfl rfl rfl id
        (fun b => b.of_same ⟨rfl, rfl, rfl, rfl, rfl, rfl⟩ ⟨rfl, rfl, rfl⟩ ⟨rfl, rfl, rfl⟩ ⟨rfl, rfl, rfl, rfl⟩)
        ⟨rfl, rfl⟩
  have held' : ((s.requestFiltered r p).requestTaken r p.high).applied = false := by
    cases r <;> exact held
  rwa [(((heldUntilApplied_iff _).1 blank).1 held').settle held']

theorem State.takeCodes_held {s : State} (h : HeldUntilApplied s) (held : s.applied = false)
    (running : s.released = true) (a b c d : BitVec 12) : HeldUntilApplied (s.reachScan.takeCodes a b c d) := by
  have held' : s.reachScan.applied = false := held
  refine h.ofRun held running rfl rfl rfl rfl rfl rfl rfl rfl id (fun m => ?_) ⟨rfl, rfl⟩
  obtain ⟨inputs, offers, values, filters⟩ := m
  exact ⟨inputs, offers, by simp [State.takeCodes, held'], filters⟩

/-- The part sees nothing of a transaction, whose assertion, opening and deassertion it follows alone. -/
theorem HeldUntilApplied.ofXfer {s : State} (h : HeldUntilApplied s) (held : s.applied = false) (x : Option Xfer)
    (out : UOut) (unseen : x.all Xfer.unseen = true) :
    HeldUntilApplied (s.modFlb fun f => { f with xfer := x, uOut := out }) := by
  obtain ⟨b, r⟩ := (heldUntilApplied_iff s).1 h
  exact (heldUntilApplied_iff _).2 ⟨fun _ => (b held).of_xfer x out unseen, r.of_same rfl ⟨rfl, rfl⟩ fun _ => ⟨rfl, rfl, rfl, rfl⟩⟩

theorem State.assertXfer_held {s : State} (h : HeldUntilApplied s) (held : s.applied = false) :
    HeldUntilApplied s.assertXfer := by
  unfold State.assertXfer
  split
  · exact h
  · exact h.ofXfer held _ _ rfl

theorem State.openXfer_held {s : State} (h : HeldUntilApplied s) (held : s.applied = false) (k : FlashClass) (o : Byte) :
    HeldUntilApplied (s.openXfer k o) := by
  have ignores := (((heldUntilApplied_iff s).1 h).1 held).ignores
  unfold State.openXfer
  split_ifs
  · exact h
  · exact h.ofXfer held _ _ rfl

/-- The end of a transaction of which the part has seen nothing has no further effect. -/
theorem State.endXfer_unseen {s : State} {x : Xfer} {bytes : List Byte} (h : x.unseen = true) :
    s.endXfer x bytes = s.modFlb fun f => { f with xfer := none } := by
  cases x
  case selected | ignored => rfl
  case relayed | intake | failAnswer | localAnswer | violation => exact absurd h Bool.false_ne_true

theorem State.closeXfer_held {s : State} (h : HeldUntilApplied s) (held : s.applied = false) (o : Option Byte)
    (bytes : List Byte) : HeldUntilApplied (s.closeXfer o bytes) := by
  unfold State.closeXfer
  split
  · rename_i x hx
    split
    · have unseen : x.unseen = true := by simpa [hx] using h.link held
      have ended : s.endXfer x bytes = s.modFlb fun f => { f with xfer := none } := State.endXfer_unseen unseen
      have keeps : HeldUntilApplied (s.endXfer x bytes) := ended ▸ h.ofXfer held none s.flb.uOut rfl
      have held' : (s.endXfer x bytes).applied = false := ended ▸ held
      rwa [(((heldUntilApplied_iff _).1 keeps).1 held').settle held']
    · exact h
  · exact h

theorem State.linkEvent_held {s : State} (h : HeldUntilApplied s) (held : s.applied = false) (k : FlashClass) (p : Span)
    (o : Byte) (bytes : List Byte) : HeldUntilApplied (s.linkEvent k p o bytes) := by
  cases p <;> simp only [State.linkEvent]
  case asserted => exact State.assertXfer_held h held
  case opening => exact State.openXfer_held h held k o
  case closing => exact State.closeXfer_held h held _ bytes
  case whole =>
    split
    · have held' : (s.openXfer k o).applied = false := by simpa [State.applied] using held
      exact State.closeXfer_held (State.openXfer_held h held k o) held' _ bytes
    · exact h

/-- The end of one cause of part reset changes nothing else. -/
theorem State.Blank.causeEnds {s : State} (b : s.Blank) (ended : ResetInput) :
    (s.causeEnds ended).Blank ∧ (s.causeEnds ended).sense.uptime = s.sense.uptime ∧
      (s.causeEnds ended).sense.ibusRing = s.sense.ibusRing ∧ (s.causeEnds ended).sense.runReq = s.sense.runReq ∧
      (s.causeEnds ended).sense.panelReq = s.sense.panelReq := by
  cases ended <;> simp only [State.causeEnds] <;> split
  case vstby.isFalse | resetN.isFalse => exact ⟨b, rfl, rfl, rfl, rfl⟩
  all_goals
    refine ⟨b.of_same rfl rfl rfl rfl rfl rfl rfl rfl (b.sense.of_same ?_ ?_ ?_ ?_), rfl, rfl, rfl, rfl⟩
    · exact ⟨rfl, rfl, rfl, rfl, rfl, rfl⟩
    · exact ⟨rfl, rfl, rfl⟩
    · exact ⟨rfl, rfl, rfl⟩
    · exact ⟨rfl, rfl, rfl, rfl⟩

/-! ### Every command -/

/-- Part reset, where its cause arises, holds every block. -/
theorem execPartReset_held {cause : ResetInput} {s t : State} (h : HeldUntilApplied s)
    (next : exec (.partReset cause) s = .next t) : HeldUntilApplied t := by
  have result := Host.Outcome.next.inj next
  cases cause <;> simp only at result <;> rw [← result] <;> split
  · exact .supplyFails _
  · exact h
  · rename_i low
    exact .resetBlocks _ (.inr (by simp_all [State.resetNFiltered]))
  · exact h

/-- After plan application a command leaves the part applied and without a cause of part reset, or brings part reset. -/
theorem exec_applied_held {c : Instr} {s t : State} (h : HeldUntilApplied s) (applied : s.applied = true)
    (next : exec c s = .next t) : HeldUntilApplied t := by
  have running : s.released = true := by
    simp only [State.applied, beq_iff_eq] at applied
    simp [State.released, applied]
  by_cases reset : ∃ cause, c = .partReset cause
  · obtain ⟨cause, rfl⟩ := reset
    exact execPartReset_held h next
  · have noReset : ∀ cause, c ≠ .partReset cause := fun cause e => reset ⟨cause, e⟩
    obtain ⟨-, load⟩ := planIsFixedAfterApplication c s t applied noReset next
    have causes := exec_causes c s t applied noReset next
    obtain ⟨supply, resetN⟩ := ((heldUntilApplied_iff s).1 h).2.noCause running
    refine .of_applied ?_ ⟨causes.1.trans supply, causes.2.trans resetN⟩
    rw [State.applied] at applied ⊢
    rwa [load]

/-- Before plan application a command of part reset, of the load, or of what runs from the release has its event; every
other finds none. -/
theorem exec_held {c : Instr} {s t : State} (h : HeldUntilApplied s) (held : s.applied = false)
    (next : exec c s = .next t) : HeldUntilApplied t := by
  obtain ⟨blank, resets⟩ := (heldUntilApplied_iff s).1 h
  have b := blank held
  have atStep : ∀ k, s.atStep k = false := by simp [State.atStep, held]
  cases c
  case partReset cause => exact execPartReset_held h next
  all_goals cases next
  case partResetRelease p u d ended =>
    simp only
    split
    · exact h
    · rename_i notReleased
      have load : (s.causeEnds ended).load = s.load := by simp
      split
      · rename_i cause
        obtain ⟨blank', runs⟩ := b.causeEnds ended
        have unreleased : s.released = false := by simpa using notReleased
        refine (heldUntilApplied_iff _).2 ⟨fun _ => blank', ⟨iff_of_true ?_ (by simpa using cause), fun _ => ?_, fun _ => ?_⟩⟩
        · rw [State.released, load]; exact unreleased
        · exact load.trans (resets.load unreleased)
        · rw [runs.1, runs.2.1, runs.2.2.1, runs.2.2.2]; exact resets.uptime unreleased
      · exact .release _ p u d
  case oscWaitEnd =>
    simp only
    split
    · rename_i phase
      exact h.ofLoad held ⟨by simp [State.released, phase], rfl⟩ ⟨rfl, rfl, rfl, rfl, rfl, rfl, rfl, rfl, rfl⟩
    · exact h
  case flashWaitStatusRead byte =>
    simp only
    split
    · rename_i phase
      have running : s.released = true := by simp [State.released, phase]
      (repeat' split)
      all_goals
        exact h.ofLoad held ⟨running, by simp [State.released, phase]⟩ ⟨rfl, rfl, rfl, rfl, rfl, rfl, rfl, rfl, rfl⟩
    · exact h
  case planHeaderReadEnd bytes =>
    simp only
    split
    · rename_i phase
      have running : s.released = true := by simp [State.released, phase]
      split
      · exact h.ofLoad held ⟨running, running⟩ ⟨rfl, rfl, rfl, rfl, rfl, rfl, rfl, rfl, rfl⟩
      · exact State.applyPlan_held _ _ _ (resets.noCause running)
    · exact h
  case planBodyReadEnd bytes v =>
    simp only
    split
    · rename_i phase
      have running : s.released = true := by simp [State.released, phase]
      split
      · refine State.prepareImage_held v ?_ held running
        exact h.ofLoad held ⟨running, running⟩ ⟨rfl, rfl, rfl, rfl, rfl, rfl, rfl, rfl, rfl⟩
      · exact State.applyPlan_held _ _ _ (resets.noCause running)
    · exact h
  case journalScanSectorRead bytes v =>
    simp only
    split
    · rename_i phase
      have running : s.released = true := by simp [State.released, phase]
      split
      · exact h.ofLoad held ⟨running, running⟩ ⟨rfl, rfl, rfl, rfl, rfl, rfl, rfl, rfl, rfl⟩
      · exact State.applyPlan_held _ _ _ (resets.noCause running)
    · exact h
  case scanCompletion x y z w =>
    simp only
    split
    · rename_i running
      rw [if_neg (by simpa [State.applied] using held)]
      exact State.takeCodes_held h held running x y z w
    · exact h
  case uptimeTick =>
    split
    · rename_i running
      exact h.ofRun held running rfl rfl rfl rfl rfl rfl rfl rfl id
        (fun m => m.of_same ⟨rfl, rfl, rfl, rfl, rfl, rfl⟩ ⟨rfl, rfl, rfl⟩ ⟨rfl, rfl, rfl⟩ ⟨rfl, rfl, rfl, rfl⟩) ⟨rfl, rfl⟩
    · exact h
  case requestChange r pin =>
    split
    · rename_i event
      exact State.requestTaken_held h held (Bool.and_eq_true_iff.1 event).1 r pin
    · exact h
  case dimInRisingEdge n =>
    split
    · rename_i event
      exact h.ofDim held (Bool.and_eq_true_iff.1 event).1 ⟨n, rfl⟩ (by simp) State.dimRising_blank
        (State.dimRising_sense _)
    · exact h
  case dimInFallingEdge n =>
    split
    · rename_i event
      exact h.ofDim held (Bool.and_eq_true_iff.1 event).1 ⟨n, rfl⟩ (by simp) State.dimFalling_blank
        (State.dimFalling_sense _)
    · exact h
  case dimInSteady =>
    split
    · rename_i event
      exact h.ofDim held (Bool.and_eq_true_iff.1 event).1 ⟨_, rfl⟩ (by simp) State.dimBecomesSteady_blank
        (State.dimBecomesSteady_sense _)
    · exact h
  case read | statusRead | writeEnable | writeDisable | otherPass | program | eraseSector | eraseBlock | eraseDevice |
      regWrite | otherBlock => exact State.linkEvent_held h held _ _ _ _
  case cutTransaction p =>
    cases p <;> simp only
    case asserted | opening => exact State.assertXfer_held h held
    case closing => exact State.closeXfer_held h held none []
    case whole =>
      split
      · have held' : s.assertXfer.applied = false := by simpa [State.applied] using held
        exact State.closeXfer_held (State.assertXfer_held h held) held' none []
      · exact h
  all_goals simpa [State.stepEvent, State.pgFollowed, atStep, held, b.rail, b.eng, b.boc, b.hbu, b.adu, b.dpt, b.issue,
    b.inflight, b.poll, b.tenure, b.sense.offers, Channel.reset, Engine.reset, BrownOut.reset, Admission.reset,
    Dimming.reset, State.staleDue, State.inPhase] using h

/-- Settles O12: before plan application the blocks are blank, so that nothing but the load and what runs from the release
goes on; afterwards the rule says only that no cause of part reset stands. -/
theorem everyStepKeepsHeldUntilApplied : Obligations.EveryStepKeepsHeldUntilApplied := by
  refine fun _ _ => step_keeps (P := HeldUntilApplied) (fun s n d q h => ?_) fun c s t h next => ?_
  · exact ⟨h.rails, h.eng, h.hbu, h.boc, h.adu, h.jnu, h.flb, h.link, h.dpt, h.inputs, h.offers, h.values, h.filters,
      h.causes, h.load, h.uptime⟩
  · cases applied : s.applied
    · exact exec_held h applied next
    · exact exec_applied_held h applied next

end Sys2Proof.Machine


/-! ## What follows of itself comes to an end

`State.turns` counts what may still follow: the link's turn to its line, the engine's waits and choices, the controller's
passage towards NORMAL, and the chores of the Journal Unit. Everything that follows lowers it, and it never exceeds the
length to which an event is followed. -/

namespace Sys2Proof.Machine

/-! ### The measure -/

/-- The link has still to turn to its line. -/
def State.linkTurns (s : State) : Nat :=
  match s.flb.mode with
  | .tenure => 0
  | .relay => if s.mainActive then 1 else 0
  | .ignore => if s.mainActive then 0 else 1

/-- The domains still to go down. -/
def Engine.downs (e : Engine) : Nat := (if e.panel = .down then 0 else 1) + (if e.board = .down then 0 else 1)

/-- The domains still to be moved by the engine's own choice in NORMAL. -/
def State.moves (s : State) : Nat :=
  if s.eng.descent || !s.boardDesired then s.eng.downs
  else if s.eng.board = .down then 2 + (if s.eng.panel = .down then 0 else 1)
  else if s.panelDesired then (if s.eng.panel = .down then 1 else 0)
  else if s.eng.panel = .down then 0 else 1

/-- The claims still to be taken. -/
def Engine.claims (e : Engine) : Nat :=
  (if e.trip.isSome then 1 else 0) + (if e.claimBoard || e.claimPanel then 1 else 0)

/-- The choices an IDLE engine has still before it. -/
def State.choices (s : State) : Nat :=
  if s.boc.state = .normal then 4 * s.eng.claims + s.moves else s.eng.claims + s.eng.downs

/-- What the engine has still to do of itself. -/
def State.engineTurns (s : State) : Nat :=
  match s.eng.mode with
  | .idle => s.choices
  | .suspended => if s.boc.state = .normal then 12 else 0
  | .running =>
    match s.eng.step with
    | .beginWait | .lineWait => if s.internalWork then 0 else if s.boc.state = .normal then 14 else 6
    | .linkWait => if s.boc.state = .normal then 14 else 6
    | .idle | .ready | .railWait _ | .delaying _ | .pulsing _ _ | .awaiting _ _ _ => 0

/-- The controller's passage towards NORMAL, with what the engine may do at each stage. -/
def BocState.turns : BocState → Nat
  | .normal | .dip | .recover => 0
  | .init | .dark => 16
  | .descent => 26
  | .commit => 34

/-- What the SURVIVAL work has still to do of itself. -/
def SurvivalStage.turns : SurvivalStage → Nat
  | .waiting _ _ => 3
  | .ready _ => 2
  | .none | .padding _ | .writing => 0

/-- The chores of the Journal Unit: the SURVIVAL work, work to begin, and an operation offered. -/
def State.chores (s : State) : Nat :=
  s.jnu.survival.turns + (if s.jnu.work.isNone then 2 else 0) + (if s.flb.offer.isSome then 1 else 0)

/-- What may still follow of itself. -/
def State.turns (s : State) : Nat := s.linkTurns + s.boc.state.turns + s.engineTurns + s.chores

/-! ### Its bounds -/

theorem State.linkTurns_le (s : State) : s.linkTurns ≤ 1 := by
  unfold State.linkTurns
  split <;> (try split) <;> omega

theorem Engine.downs_le (e : Engine) : e.downs ≤ 2 := by
  unfold Engine.downs
  split <;> split <;> omega

theorem State.moves_le (s : State) : s.moves ≤ 3 := by
  have := s.eng.downs_le
  unfold State.moves
  split_ifs <;> omega

theorem Engine.claims_le (e : Engine) : e.claims ≤ 2 := by
  unfold Engine.claims
  split <;> split <;> omega

/-- What an IDLE engine has before it, in NORMAL and elsewhere. -/
theorem State.choices_le (s : State) : s.choices ≤ if s.boc.state = .normal then 11 else 4 := by
  have := s.eng.downs_le
  have := s.moves_le
  have := s.eng.claims_le
  unfold State.choices
  split <;> omega

theorem State.engineTurns_le (s : State) : s.engineTurns ≤ if s.boc.state = .normal then 14 else 6 := by
  have := s.choices_le
  unfold State.engineTurns
  split
  · split at this <;> split <;> omega
  · split <;> omega
  · split
    · split_ifs <;> omega
    · split_ifs <;> omega
    · split_ifs <;> omega
    all_goals exact Nat.zero_le _

theorem State.chores_le (s : State) : s.chores ≤ 6 := by
  have : s.jnu.survival.turns ≤ 3 := by unfold SurvivalStage.turns; split <;> omega
  unfold State.chores
  split <;> split <;> omega

/-- An event is followed far enough. -/
theorem State.turns_le (s : State) : s.turns ≤ settleFuel := by
  have link := s.linkTurns_le
  have chores := s.chores_le
  have engine := s.engineTurns_le
  unfold State.turns settleFuel
  cases hs : s.boc.state <;> simp [hs] at engine <;> simp only [BocState.turns] <;> omega

/-! ### What leaves a part of the measure as it is -/

theorem State.linkTurns_of_same {s t : State} (load : t.load = s.load) (plan : t.plan = s.plan)
    (lines : t.eng.lines = s.eng.lines) (mode : t.flb.mode = s.flb.mode) : t.linkTurns = s.linkTurns := by
  unfold State.linkTurns
  rw [State.mainActive_of_same load plan lines, mode]

theorem State.chores_of_same {s t : State} (survival : t.jnu.survival = s.jnu.survival) (work : t.jnu.work = s.jnu.work)
    (offer : t.flb.offer = s.flb.offer) : t.chores = s.chores := by
  unfold State.chores
  rw [survival, work, offer]

theorem State.choices_of_same {s t : State} (eng : t.eng = s.eng) (sense : t.sense = s.sense)
    (state : t.boc.state = s.boc.state) : t.choices = s.choices := by
  unfold State.choices State.moves State.boardDesired State.panelDesired
  rw [eng, sense, state]

/-- Work that is begun while quiet may only hold the engine. -/
theorem State.engineTurns_of_same {s t : State} (eng : t.eng = s.eng) (sense : t.sense = s.sense)
    (state : t.boc.state = s.boc.state) (work : s.internalWork = true → t.internalWork = true) :
    t.engineTurns ≤ s.engineTurns := by
  unfold State.engineTurns
  rw [eng, state, State.choices_of_same eng sense state]
  split
  · exact le_rfl
  · exact le_rfl
  · have wait (n : Nat) : (if t.internalWork then 0 else n) ≤ if s.internalWork then 0 else n := by
      cases held : s.internalWork
      · simp only [Bool.false_eq_true, if_false]
        split_ifs <;> omega
      · simp [work held]
    split
    · exact wait _
    · exact wait _
    · exact Nat.le_refl _
    all_goals exact Nat.zero_le _

theorem State.internalWork_of_same {s t : State} (work : t.jnu.work = s.jnu.work) : t.internalWork = s.internalWork := by
  unfold State.internalWork
  rw [work]

theorem State.internalWork_of_idle {s : State} (idle : s.jnu.work = none) : s.internalWork = false := by
  simp [State.internalWork, idle]

/-! ### The link, the Journal Unit's work and the offer -/

theorem State.modFlb_mainActive (s : State) (f : Bridge → Bridge) : (s.modFlb f).mainActive = s.mainActive := rfl

/-- The chores alone go on: the link, the engine and the controller's state stay. -/
theorem State.turns_lt_of_chores {s t : State} (eng : t.eng = s.eng)
    (sense : t.sense = s.sense) (state : t.boc.state = s.boc.state)
    (work : s.jnu.work = none ∨ t.jnu.work = s.jnu.work) (link : t.linkTurns ≤ s.linkTurns)
    (chores : t.chores < s.chores) : t.turns < s.turns := by
  have engine := State.engineTurns_of_same eng sense state fun held => by
    obtain idle | same := work
    · rw [State.internalWork_of_idle idle] at held; cases held
    · rwa [State.internalWork_of_same same]
  simp only [State.turns, state]
  omega

/-- A record that is offered touches the queue and the lost count alone. -/
@[simp] theorem State.offerRecord_work (s : State) (b : RecordBody) :
    (s.offerRecord b).jnu.work = s.jnu.work ∧ (s.offerRecord b).jnu.survival = s.jnu.survival ∧
      (s.offerRecord b).jnu.ring = s.jnu.ring ∧ (s.offerRecord b).jnu.nextErased = s.jnu.nextErased := by
  unfold State.offerRecord State.addLost
  (repeat' split) <;> simp

theorem State.chores_lt_of_survival {s t : State} (lower : t.jnu.survival.turns < s.jnu.survival.turns)
    (work : t.jnu.work = s.jnu.work) (offer : t.flb.offer = s.flb.offer) : t.chores < s.chores := by
  simp only [State.chores, work, offer]
  omega

theorem State.chores_lt_of_begun {s t : State} (idle : s.jnu.work = none) (busy : t.jnu.work.isSome = true)
    (survival : t.jnu.survival.turns ≤ s.jnu.survival.turns) : t.chores < s.chores := by
  have notIdle : t.jnu.work.isNone = false := by simpa using busy
  simp only [State.chores, idle, notIdle, Option.isNone_none, if_true, Bool.false_eq_true, if_false]
  split <;> split <;> omega

theorem State.chores_lt_of_taken {s t : State} (offered : s.flb.offer.isSome = true) (taken : t.flb.offer = none)
    (jnu : t.jnu = s.jnu) : t.chores < s.chores := by
  simp [State.chores, offered, taken, jnu]

/-- An operation that is taken leaves the offer, and the link where it stands or in TENURE. -/
theorem State.takeOffer_some {s t : State} (h : s.takeOffer = some t) :
    s.flb.offer.isSome = true ∧ t.flb.offer = none ∧ (t.flb.mode = s.flb.mode ∨ t.flb.mode = .tenure) := by
  unfold State.takeOffer at h
  split at h
  · cases h
  · rename_i i offer
    simp only at h
    (repeat' split at h) <;> cases h
    · exact ⟨by simp [offer], rfl, .inl rfl⟩
    · exact ⟨by simp [offer], rfl, .inr rfl⟩

theorem State.linkReact_some {s t : State} (h : s.linkReact = some t) :
    t.linkTurns < s.linkTurns ∧ t.flb.offer = s.flb.offer := by
  unfold State.linkReact at h
  (repeat' split at h) <;> cases h
  all_goals
    rename_i mode turn
    simp only [Bool.and_eq_true, Bool.not_eq_true'] at turn
    simp [State.linkTurns, State.modFlb_mainActive, mode, turn]

theorem State.linkReact_turns {s t : State} (h : s.linkReact = some t) : t.turns < s.turns := by
  obtain ⟨link, offer⟩ := State.linkReact_some h
  obtain ⟨f, rfl⟩ := State.linkReact_frame h
  have engine := State.engineTurns_of_same (s := s) (t := { s with flb := f }) rfl rfl rfl id
  have chores := State.chores_of_same (s := s) (t := { s with flb := f }) rfl rfl offer
  simp only [State.turns, chores]
  omega

theorem State.takeOffer_turns {s t : State} (h : s.takeOffer = some t) : t.turns < s.turns := by
  obtain ⟨offered, taken, mode⟩ := State.takeOffer_some h
  obtain ⟨f, rfl⟩ := State.takeOffer_frame h
  refine State.turns_lt_of_chores (s := s) (t := { s with flb := f }) rfl rfl rfl (.inr rfl) ?_ ?_
  · obtain mode | mode := mode
    · exact (State.linkTurns_of_same (s := s) (t := { s with flb := f }) rfl rfl rfl mode).le
    · have closed : ({ s with flb := f } : State).linkTurns = 0 := by unfold State.linkTurns; rw [mode]
      omega
  · exact State.chores_lt_of_taken offered taken rfl

/-- Where a record is handed the unit's work is under way, and the SURVIVAL work stands where it did. -/
theorem State.handRecord_work {s t : State} {r : Record} {k : WorkKind} {i : Issue} (h : s.handRecord r k = some (i, t)) :
    t.jnu.work.isSome = true ∧ t.jnu.survival = s.jnu.survival := by
  unfold State.handRecord at h
  split at h <;> cases h
  exact ⟨rfl, rfl⟩

theorem State.quietWork_turns {s t : State} (h : s.quietWork = some t) : t.turns < s.turns := by
  have mode := (Bridge.link_eq_iff.1 (State.quietWork_link h)).1
  have done : s.jnu.work = none ∧ t.jnu.work.isSome = true ∧ t.jnu.survival = s.jnu.survival := by
    unfold State.quietWork at h
    split at h
    · rename_i allowed
      have idle : s.jnu.work = none := by
        simp only [State.quietWorkAllowed, Bool.and_eq_true, Option.isNone_iff_eq_none] at allowed
        exact allowed.2
      split at h
      · rename_i i u handed
        cases h
        unfold State.handHead at handed
        split at handed
        · cases handed
        · exact ⟨idle, (State.handRecord_work handed).1, (State.handRecord_work handed).2⟩
      · split at h <;> cases h
        rename_i i u handed
        unfold State.handErase at handed
        split at handed
        · split at handed <;> cases handed
          exact ⟨idle, rfl, rfl⟩
        · cases handed
    · cases h
  obtain ⟨j, f, rfl⟩ := State.quietWork_frame h
  obtain ⟨idle, busy, survival⟩ := done
  refine State.turns_lt_of_chores (s := s) (t := { s with jnu := j, flb := f }) rfl rfl rfl (.inl idle) ?_ ?_
  · exact (State.linkTurns_of_same (s := s) (t := { s with jnu := j, flb := f }) rfl rfl rfl mode).le
  · exact State.chores_lt_of_begun idle busy (survival ▸ le_rfl)

/-- The hand-over of a SURVIVAL record that is ready leaves it ready no more; the work it begins is under way. -/
theorem State.survivalHand_chores (s : State) (r : Record) :
    (s.survivalHand r).jnu.survival.turns = 0 ∧
      ((s.survivalHand r).jnu.work.isSome = true ∨
        ((s.survivalHand r).jnu.work = s.jnu.work ∧ (s.survivalHand r).flb.offer = s.flb.offer)) := by
  unfold State.survivalHand
  split
  · exact ⟨rfl, .inr ⟨rfl, rfl⟩⟩
  · split
    · exact ⟨rfl, .inl rfl⟩
    · split
      · split
        · rename_i i t handed
          exact ⟨rfl, .inl (State.handRecord_work handed).1⟩
        · exact ⟨rfl, .inr ⟨rfl, rfl⟩⟩
      · exact ⟨rfl, .inl rfl⟩

theorem State.survivalWaitEnd_turns {s t : State} (h : s.survivalWaitEnd = some t) : t.turns < s.turns := by
  have mode := (Bridge.link_eq_iff.1 (State.survivalWaitEnd_link h)).1
  have chores : t.chores < s.chores ∧ (s.jnu.work = none ∨ t.jnu.work = s.jnu.work) := by
    unfold State.survivalWaitEnd at h
    split at h
    · rename_i r since waiting
      split at h
      · split at h <;> cases h
        rename_i flight _ _
        have work : (s.survivalOverrun flight).jnu.work = s.jnu.work := by
          simp [State.survivalOverrun, State.survivalEnd, State.addLost]
        refine ⟨State.chores_lt_of_survival ?_ work (by simp), .inr work⟩
        rw [waiting]
        exact Nat.zero_lt_succ 2
      · split at h <;> cases h
        unfold State.survivalJudge
        split
        · refine ⟨State.chores_lt_of_survival ?_ rfl rfl, .inr rfl⟩
          rw [waiting]; exact Nat.lt_succ_self 2
        · refine ⟨State.chores_lt_of_survival ?_ rfl rfl, .inr rfl⟩
          rw [waiting]; exact Nat.zero_lt_succ 2
    · rename_i r ready
      split at h <;> cases h
      rename_i idle
      simp only [Option.isNone_iff_eq_none] at idle
      obtain ⟨stage, begun⟩ := s.survivalHand_chores r
      have lower : (s.survivalHand r).jnu.survival.turns < s.jnu.survival.turns := by
        rw [stage, ready]; exact Nat.zero_lt_two
      obtain busy | same := begun
      · exact ⟨State.chores_lt_of_begun idle busy lower.le, .inl idle⟩
      · exact ⟨State.chores_lt_of_survival lower same.1 same.2, .inl idle⟩
    all_goals cases h
  obtain ⟨j, f, v, rfl⟩ := State.survivalWaitEnd_frame h
  exact State.turns_lt_of_chores (s := s) (t := { s with jnu := j, flb := f, boc := { s.boc with survival := v } }) rfl rfl rfl
    chores.2 (State.linkTurns_of_same (s := s)
      (t := { s with jnu := j, flb := f, boc := { s.boc with survival := v } }) rfl rfl rfl mode).le chores.1

/-! ### The engine -/

/-- A completed sequence leaves the engine IDLE; one that has a step to begin does nothing of itself. -/
theorem State.engineTurns_ready {s : State} (mode : s.eng.mode = .running) (step : s.eng.step = .ready) :
    s.engineTurns = 0 := by simp [State.engineTurns, mode, step]

theorem State.engineTurns_idle {s : State} (mode : s.eng.mode = .idle) : s.engineTurns = s.choices := by
  simp [State.engineTurns, mode]

/-- A sequence that begins has a step to begin, or is empty and complete at once. -/
theorem State.seqStart_turns (s : State) (n : SlotName) : (s.seqStart n).engineTurns = 0 ∨
    (s.seqStart n = (s.modEng fun e => e.domainsBegin n).seqComplete n ∧
      (s.seqStart n).engineTurns = (s.seqStart n).choices) := by
  simp only [State.seqStart]
  split
  · exact .inr ⟨rfl, State.engineTurns_idle rfl⟩
  · exact .inl (State.engineTurns_ready rfl rfl)

/-- The state after the sequence of a slot, empty, has begun and completed. -/
def State.passedOver (s : State) (n : SlotName) : State := (s.modEng fun e => e.domainsBegin n).seqComplete n

theorem Engine.domains_claims (e : Engine) (n : SlotName) :
    ((e.domainsBegin n).domainsComplete n).idled.claims = e.claims := by cases n <;> rfl

/-- The domain states a sequence that begins and completes at once leaves (R37). -/
theorem State.passedOver_domains (s : State) (n : SlotName) : n ≠ .trip →
    (s.passedOver n).eng.panel = (match n with
      | .panelUp => s.eng.panel.goUp.arriveUp
      | .panelDown | .panelSwift => s.eng.panel.goDown.arriveDown
      | _ => s.eng.panel) ∧
    (s.passedOver n).eng.board = (match n with
      | .boardUp => s.eng.board.goUp.arriveUp
      | .boardDown | .boardSwift => s.eng.board.goDown.arriveDown
      | _ => s.eng.board) := by
  intro h
  cases n
  case trip => exact absurd rfl h
  all_goals exact ⟨rfl, rfl⟩

theorem DomainState.goDown_arriveDown (d : DomainState) : d.goDown.arriveDown = .down := by cases d <;> rfl

/-- Outside NORMAL the engine chooses among the sequences that take a domain down. -/
theorem State.choice_downs {s : State} {n : SlotName} (chosen : s.choice = some (.begin n)) (trip : n ≠ .trip)
    (state : s.boc.state ≠ .normal) : (s.passedOver n).eng.downs < s.eng.downs := by
  obtain ⟨panel, board⟩ := s.passedOver_domains n trip
  unfold State.choice at chosen
  (repeat' split at chosen) <;> cases chosen <;>
    simp_all [Engine.downs, DomainState.goDown_arriveDown]

/-- Every choice of a sequence but TRIP leaves a domain less to be moved. -/
theorem State.choice_moves {s : State} {n : SlotName} (chosen : s.choice = some (.begin n)) (trip : n ≠ .trip) :
    (s.passedOver n).moves < s.moves := by
  obtain ⟨panel, board⟩ := s.passedOver_domains n trip
  have same : (s.passedOver n).eng.descent = s.eng.descent ∧ (s.passedOver n).boardDesired = s.boardDesired := by
    cases n <;> exact ⟨rfl, rfl⟩
  have unsought : s.eng.board = .down → s.panelDesired = false := fun h => by simp [State.panelDesired, h]
  have sought : (s.passedOver n).eng.board = s.eng.board → (s.passedOver n).panelDesired = s.panelDesired := fun h => by
    simp only [State.panelDesired, h]; cases n <;> rfl
  unfold State.choice at chosen
  (repeat' split at chosen) <;> cases chosen <;>
    simp_all [State.moves, Engine.downs, DomainState.goDown_arriveDown]
  case isFalse.isFalse.isFalse.isTrue.refl => split_ifs <;> omega
  case isFalse.isFalse.isFalse.isFalse.isFalse.isTrue.refl =>
    simp only [DomainState.goUp, DomainState.arriveUp]
    split_ifs <;> simp_all
  case isFalse.isFalse.isFalse.isFalse.isFalse.isFalse.isTrue.refl => exact nofun

/-- A sequence other than TRIP that is chosen and is empty leaves fewer choices. -/
theorem State.choice_choices {s : State} {n : SlotName} (chosen : s.choice = some (.begin n)) (trip : n ≠ .trip) :
    (s.passedOver n).choices < s.choices := by
  have claims : (s.passedOver n).eng.claims = s.eng.claims := Engine.domains_claims s.eng n
  have state : (s.passedOver n).boc.state = s.boc.state := rfl
  have moves := State.choice_moves chosen trip
  unfold State.choices
  rw [claims, state]
  split
  · omega
  · rename_i state
    have := State.choice_downs chosen trip state
    omega

end Sys2Proof.Machine


/-! ### The engine's turns, one thing after another -/

namespace Sys2Proof.Machine

@[simp] theorem State.driveLine_offer (s : State) (l : Fin 6) (a : Bool) :
    (s.driveLine l a).flb.offer = s.flb.offer ∧ (s.driveLine l a).flb.mode = s.flb.mode := by
  unfold State.driveLine State.lineActive State.lineInactive
  (repeat' split) <;> simp

@[simp] theorem State.performLine_offer (s : State) :
    s.performLine.flb.offer = s.flb.offer ∧ s.performLine.flb.mode = s.flb.mode := by
  unfold State.performLine
  split <;> simp

theorem State.engineReact_offer {s t : State} (h : s.engineReact = some t) :
    t.flb.offer = s.flb.offer ∧ t.flb.mode = s.flb.mode := by
  unfold State.engineReact at h
  (repeat' split at h) <;> cases h <;> simp

/-- An engine that is IDLE, or begins its next step, or is SUSPENDED outside NORMAL, has no more than its choices before
it. -/
theorem State.engineTurns_boundary {s : State} (slot : s.eng.slot ≠ none) :
    s.boundary.engineTurns ≤ if s.boc.state = .normal then 11 else 4 := by
  have idle (u : State) (mode : u.eng.mode = .idle) (state : u.boc.state = s.boc.state) :
      u.engineTurns ≤ if s.boc.state = .normal then 11 else 4 := by
    rw [State.engineTurns_idle mode, ← state]
    exact u.choices_le
  have next (u : State) (n : SlotName) (state : u.boc.state = s.boc.state) :
      (u.nextStep n).engineTurns ≤ if s.boc.state = .normal then 11 else 4 := by
    unfold State.nextStep
    split
    · rw [State.engineTurns_ready rfl rfl]; exact Nat.zero_le _
    · exact idle _ rfl state
  have state : s.takeClaims.boc.state = s.boc.state := by simp
  have held : s.takeClaims.eng.slot = s.eng.slot := by simp [Engine.run_eq_iff.1 s.takeClaims_run]
  unfold State.boundary
  simp only
  split
  · rename_i none
    exact absurd (held ▸ none) slot
  · rename_i n _
    split
    · split
      · rename_i outside
        have outside : s.boc.state ≠ .normal := by simpa [state] using outside
        simp [State.suspend, State.engineTurns, outside]
      · split
        · exact idle _ rfl (by simp)
        · exact next _ n state
    · exact next _ n state

theorem State.engineTurns_stepDone {s : State} (slot : s.eng.slot ≠ none) :
    s.stepDone.engineTurns ≤ if s.boc.state = .normal then 11 else 4 :=
  State.engineTurns_boundary (s := s.modEng fun e => { e with index := e.index + 1, step := .idle, quietHold := false }) slot

theorem State.engineTurns_seqStart (s : State) (n : SlotName) :
    (s.seqStart n).engineTurns ≤ if s.boc.state = .normal then 11 else 4 := by
  obtain ready | ⟨-, complete⟩ := s.seqStart_turns n
  · rw [ready]; exact Nat.zero_le _
  · rw [complete]
    have := (s.seqStart n).choices_le
    simpa using this

/-- TRIP begins: its claim is taken, and both domains are DOWN where it has no step. -/
theorem State.seqBegin_trip_turns {s : State} (trip : s.eng.trip.isSome = true) (idle : s.eng.mode = .idle) :
    (s.seqBegin .trip).engineTurns < s.engineTurns := by
  rw [State.engineTurns_idle idle]
  have more : 0 < s.choices := by
    unfold State.choices Engine.claims
    rw [if_pos trip]
    split <;> omega
  simp only [State.seqBegin]
  generalize hu : (if s.eng.trip = some .rail then _ else _ : State) = u
  have taken : u.eng.trip = none ∧ u.eng.claimBoard = s.eng.claimBoard ∧ u.eng.claimPanel = s.eng.claimPanel ∧
      u.boc.state = s.boc.state := by
    rw [← hu]; split <;> exact ⟨rfl, rfl, rfl, rfl⟩
  obtain ready | ⟨passed, complete⟩ := u.seqStart_turns .trip
  · omega
  · rw [complete, passed]
    have bound := (u.passedOver .trip).moves_le
    have claims : (u.passedOver .trip).eng.claims + 1 = s.eng.claims := by
      have same : (u.passedOver .trip).eng.claims = u.eng.claims := Engine.domains_claims u.eng .trip
      obtain ⟨trip', board, panel, -⟩ := taken
      rw [same]
      unfold Engine.claims
      rw [trip', board, panel, if_pos trip]
      simp only [Option.isSome_none, Bool.false_eq_true, if_false]
      omega
    have down : (u.passedOver .trip).eng.downs = 0 := rfl
    have state : (u.passedOver .trip).boc.state = s.boc.state := taken.2.2.2
    change (u.passedOver .trip).choices < _
    unfold State.choices
    rw [state, down]
    split <;> omega

/-- Where BOARD_UP does not wait for quiet it begins, with or without the quiet hold. -/
theorem State.seqBegin_boardUp (s : State) : (s.internalWork = true ∧ (s.seqBegin .boardUp).engineTurns = 0) ∨
    ∃ b, s.seqBegin .boardUp = (s.modEng fun e => { e with quietHold := b }).seqStart .boardUp := by
  simp only [State.seqBegin]
  split
  · split
    · rename_i held
      refine .inl ⟨held, ?_⟩
      exact if_pos held
    · exact .inr ⟨true, rfl⟩
  · exact .inr ⟨s.eng.quietHold, rfl⟩

/-- Any other sequence begins, and waits for its first step or for quiet, or is complete with fewer choices left. -/
theorem State.seqBegin_turns {s : State} {n : SlotName} (chosen : s.choice = some (.begin n)) (idle : s.eng.mode = .idle) :
    (s.seqBegin n).engineTurns < s.engineTurns := by
  by_cases trip : n = .trip
  · subst trip
    refine State.seqBegin_trip_turns ?_ idle
    unfold State.choice at chosen
    (repeat' split at chosen) <;> cases chosen
    assumption
  have fewer := State.choice_choices chosen trip
  have start (b : Bool) : ((s.modEng fun e => { e with quietHold := b }).seqStart n).engineTurns < s.choices := by
    obtain ready | ⟨passed, complete⟩ := (s.modEng fun e => { e with quietHold := b }).seqStart_turns n
    · omega
    · have same : (s.modEng fun e => { e with quietHold := b }).passedOver n = s.passedOver n := by cases n <;> rfl
      rw [complete, passed]
      change ((s.modEng fun e => { e with quietHold := b }).passedOver n).choices < _
      rwa [same]
  rw [State.engineTurns_idle idle]
  cases n
  case trip => exact absurd rfl trip
  case boardUp =>
    obtain ⟨-, none⟩ | ⟨b, begun⟩ := s.seqBegin_boardUp
    · omega
    · rw [begun]; exact start b
  all_goals exact start s.eng.quietHold

theorem State.choice_takeClaims {s : State} (chosen : s.choice = some .takeClaims) :
    s.eng.trip = none ∧ (s.eng.claimBoard || s.eng.claimPanel) = true := by
  unfold State.choice at chosen
  (repeat' split at chosen) <;> cases chosen
  simp_all

/-- The fault claims are gone once taken; a TRIP claim and the domains stay. -/
theorem State.takeClaims_claims (s : State) : s.takeClaims.eng.trip = s.eng.trip ∧
    s.takeClaims.eng.claimBoard = false ∧ s.takeClaims.eng.claimPanel = false ∧
    s.takeClaims.eng.board = s.eng.board ∧ s.takeClaims.eng.panel = s.eng.panel := by
  simp only [State.takeClaims]
  (repeat' split) <;> exact ⟨rfl, rfl, rfl, rfl, rfl⟩

theorem State.takeClaims_turns {s : State} (chosen : s.choice = some .takeClaims) (idle : s.eng.mode = .idle) :
    s.takeClaims.engineTurns < s.engineTurns := by
  have mode : s.takeClaims.eng.mode = .idle := by simp [Engine.run_eq_iff.1 s.takeClaims_run, idle]
  rw [State.engineTurns_idle idle, State.engineTurns_idle mode]
  have taken : s.eng.claims = 1 ∧ s.takeClaims.eng.claims = 0 ∧ s.takeClaims.eng.downs = s.eng.downs := by
    obtain ⟨trip, pending⟩ := State.choice_takeClaims chosen
    obtain ⟨trip', board, panel, domains⟩ := s.takeClaims_claims
    unfold Engine.claims Engine.downs
    rw [trip', board, panel, domains.1, domains.2, trip, pending]
    exact ⟨rfl, rfl, rfl⟩
  have := s.takeClaims.moves_le
  have state : s.takeClaims.boc.state = s.boc.state := by simp
  unfold State.choices
  rw [state]
  split <;> omega

/-- The line of a LINE step that waited goes to its level, or that of a pulse goes active; the link may have to turn. -/
theorem State.performLine_turns {s : State} (running : s.eng.mode = .running) (slot : s.eng.slot ≠ none)
    (line : (s.currentStep.map Step.kind).any StepKind.drivesLine = true) :
    s.performLine.engineTurns ≤ if s.boc.state = .normal then 11 else 4 := by
  unfold State.performLine
  split
  · rename_i l a _ _
    have := State.engineTurns_stepDone (s := s.driveLine l a) (by simpa [Engine.run_eq_iff.1 (s.driveLine_run l a)])
    simpa using this
  · rename_i l ms _ _
    have mode : (s.driveLine l true).eng.mode = .running := by
      rw [(Engine.run_eq_iff.1 (s.driveLine_run l true)).1, running]
    simp [State.engineTurns, mode]
  · rename_i neither pulse
    exfalso
    cases hstep : s.currentStep with
    | none => simp [hstep] at line
    | some st =>
      obtain ⟨k, a⟩ := st
      cases k <;> simp_all [StepKind.drivesLine]

/-- What the engine does of itself lowers what it has still to do, and by more where the link may have to turn. -/
theorem State.engineReact_turns_of {s t : State} (slotted : s.eng.slot = none → s.eng.mode = .idle)
    (line : s.applied = true → s.eng.mode = .running → s.eng.step = .lineWait →
      (s.currentStep.map Step.kind).any StepKind.drivesLine = true)
    (h : s.engineReact = some t) : t.turns < s.turns := by
  obtain ⟨offer, mode⟩ := State.engineReact_offer h
  have frame : t.load = s.load ∧ t.plan = s.plan ∧ t.boc = s.boc ∧ t.jnu = s.jnu := by
    obtain ⟨e, f, rfl⟩ := State.engineReact_frame h
    exact ⟨rfl, rfl, rfl, rfl⟩
  obtain ⟨load, plan, boc, jnu⟩ := frame
  have chores := State.chores_of_same (s := s) (t := t) (by rw [jnu]) (by rw [jnu]) offer
  have lower : t.engineTurns < s.engineTurns ∧ t.eng.lines = s.eng.lines ∨ t.engineTurns + 1 < s.engineTurns := by
    unfold State.engineReact at h
    split at h
    · cases h
    rename_i applied
    split at h
    · rename_i idle
      split at h <;> cases h
      · rename_i chosen
        exact .inl ⟨State.seqBegin_turns chosen idle, by simp⟩
      · rename_i chosen
        exact .inl ⟨State.takeClaims_turns chosen idle, by simp⟩
    · rename_i suspended
      split at h <;> cases h
      rename_i normal
      have slot : s.eng.slot ≠ none := fun none => by simp [slotted none] at suspended
      have bound := State.engineTurns_boundary slot
      rw [if_pos normal] at bound
      have before : s.engineTurns = 12 := by simp [State.engineTurns, suspended, normal]
      exact .inl ⟨by omega, by simp⟩
    · rename_i running
      have slot : s.eng.slot ≠ none := fun none => by simp [slotted none] at running
      split at h
      · rename_i step
        split at h
        · cases h
        rename_i free
        have before : s.engineTurns = if s.boc.state = .normal then 14 else 6 := by
          simp [State.engineTurns, running, step, free]
        split at h <;> cases h
        · rename_i normal
          have bound := s.engineTurns_seqStart .boardUp
          rw [if_pos normal] at bound before
          exact .inl ⟨by omega, by simp⟩
        · rename_i outside
          have bound := s.seqEnd.choices_le
          have after : s.seqEnd.engineTurns = s.seqEnd.choices := State.engineTurns_idle rfl
          have same : s.seqEnd.boc.state = s.boc.state := rfl
          rw [same, if_neg outside] at bound
          rw [if_neg outside] at before
          exact .inl ⟨by omega, by simp⟩
      · rename_i step
        split at h <;> cases h
        rename_i free
        have before : s.engineTurns = if s.boc.state = .normal then 14 else 6 := by
          simp [State.engineTurns, running, step, free]
        have bound := State.performLine_turns running slot (line (by simpa using applied) running step)
        right
        split at before <;> simp_all <;> omega
      · rename_i step
        split at h <;> cases h
        have before : s.engineTurns = if s.boc.state = .normal then 14 else 6 := by
          simp [State.engineTurns, running, step]
        have bound := State.engineTurns_stepDone slot
        left
        refine ⟨?_, by simp⟩
        split at before <;> simp_all <;> omega
      all_goals cases h
  have links := State.linkTurns_le t
  simp only [State.turns, chores, boc]
  obtain ⟨fewer, lines⟩ | fewer := lower
  · rw [State.linkTurns_of_same load plan lines mode]
    omega
  · omega

theorem State.engineReact_turns {s t : State} (safe : EngineSafe s) (h : s.engineReact = some t) : t.turns < s.turns :=
  State.engineReact_turns_of safe.slot.1 (fun applied _ => safe.line applied) h

/-! ### The controller's passage -/

/-- A parked command that is admitted or refused touches neither the link mode nor the offer, nor the unit's work. -/
@[simp] theorem State.parkedAtState_offer (s : State) :
    s.parkedAtState.flb.offer = s.flb.offer ∧ s.parkedAtState.flb.mode = s.flb.mode ∧
      s.parkedAtState.jnu.work = s.jnu.work ∧ s.parkedAtState.jnu.survival = s.jnu.survival := by
  unfold State.parkedAtState State.admitParked State.fateAdmitted State.refuseCommand State.emptySlot State.fateRefuse
    State.startIssue State.setPhase
  (repeat' split) <;> simp

@[simp] theorem State.stepFail_offer (s : State) (c : FailCause) :
    (s.stepFail c).flb = s.flb ∧ (s.stepFail c).jnu.work = s.jnu.work ∧ (s.stepFail c).jnu.survival = s.jnu.survival := by
  simp only [State.stepFail]
  (repeat' split) <;> simp

/-- An answer that ends a step offers at most a record. -/
@[simp] theorem State.endOnAnswer_offer (s : State) (ch : Fin 12) (a : Answer) :
    (s.endOnAnswer ch a).flb = s.flb ∧ (s.endOnAnswer ch a).jnu.work = s.jnu.work ∧
      (s.endOnAnswer ch a).jnu.survival = s.jnu.survival := by
  unfold State.endOnAnswer
  split <;> simp

@[simp] theorem State.setShed_offer (s : State) (n : Nat) :
    (s.setShed n).flb = s.flb ∧ (s.setShed n).jnu.work = s.jnu.work ∧ (s.setShed n).jnu.survival = s.jnu.survival := by
  unfold State.setShed
  simp only
  (repeat' split) <;> simp

@[simp] theorem State.placeDescent_offer (s : State) :
    s.placeDescent.flb.offer = s.flb.offer ∧ s.placeDescent.flb.mode = s.flb.mode ∧ s.placeDescent.jnu = s.jnu := by
  simp only [State.placeDescent, State.preempt, State.dropStep]
  (repeat' split) <;> simp

@[simp] theorem State.survivalBegin_work (s : State) :
    s.survivalBegin.jnu.work = s.jnu.work ∧ s.survivalBegin.boc.state = s.boc.state := by
  unfold State.survivalBegin State.survivalEnd
  split <;> simp

/-- The SURVIVAL work is what the entry to DARK adds to the chores. -/
theorem State.enterDark_work (s : State) :
    s.enterDark.jnu.work = s.jnu.work ∧ s.enterDark.flb.offer = s.flb.offer ∧ s.enterDark.flb.mode = s.flb.mode := by
  simp [State.enterDark]

theorem State.enterDark_state (s : State) : s.enterDark.boc.state = .dark := by simp [State.enterDark]

theorem State.enterDark_chores (s : State) : s.enterDark.chores ≤ s.chores + 3 := by
  obtain ⟨work, offer, -⟩ := s.enterDark_work
  have survival : s.enterDark.jnu.survival.turns ≤ 3 := by unfold SurvivalStage.turns; split <;> omega
  simp only [State.chores, work, offer]
  omega

theorem State.rearm_work (s : State) : s.rearm.jnu.work = s.jnu.work ∧ s.rearm.jnu.survival = s.jnu.survival ∧
    s.rearm.flb.offer = s.flb.offer ∧ s.rearm.flb.mode = s.flb.mode ∧ s.rearm.eng.lines = s.eng.lines := by
  simp only [State.rearm]
  split <;> simp

/-- The controller passes on: its stage leaves room for whatever the engine, the link and the chores may then do. -/
theorem State.bocReact_turns {s t : State} (h : s.bocReact = some t) : t.turns < s.turns := by
  have after := t.engineTurns_le
  unfold State.bocReact at h
  split at h
  · cases h
  · split at h
    · rename_i state
      split at h <;> cases h
      have normal := s.normalFromInit_state
      rw [if_pos normal] at after
      have link := State.linkTurns_of_same (s := s) (t := s.normalFromInit) (by simp) (by simp)
        (by simp [State.normalFromInit]) (by simp [State.normalFromInit])
      have chores := State.chores_of_same (s := s) (t := s.normalFromInit) (by simp [State.normalFromInit])
        (by simp [State.normalFromInit]) (by simp [State.normalFromInit])
      simp only [State.turns, BocState.turns, state, normal, link, chores]
      omega
    · rename_i state
      split at h <;> cases h
      have descent := s.enterDescent_state
      rw [if_neg (by simp [descent])] at after
      have link := s.enterDescent.linkTurns_le
      have chores := State.chores_of_same (s := s) (t := s.enterDescent) (by simp [State.enterDescent])
        (by simp [State.enterDescent]) (by simp [State.enterDescent])
      simp only [State.turns, BocState.turns, state, descent, chores]
      omega
    · rename_i state
      split at h <;> cases h
      have dark := s.enterDark_state
      rw [if_neg (by simp [dark])] at after
      have link := State.linkTurns_of_same (s := s) (t := s.enterDark) (by simp) (by simp)
        (by simp [State.enterDark]) s.enterDark_work.2.2
      have chores := s.enterDark_chores
      simp only [State.turns, BocState.turns, state, dark, link]
      omega
    · rename_i state
      split at h <;> cases h
      have normal := s.rearm_normal.1
      rw [if_pos normal] at after
      have link := State.linkTurns_of_same (s := s) (t := s.rearm) (by simp) (by simp) s.rearm_work.2.2.2.2
        s.rearm_work.2.2.2.1
      have chores := State.chores_of_same (s := s) (t := s.rearm) s.rearm_work.2.1 s.rearm_work.1 s.rearm_work.2.2.1
      simp only [State.turns, BocState.turns, state, normal, link, chores]
      omega
    all_goals cases h

/-- Whatever follows of itself lowers the count of what may still follow. -/
theorem State.react_turns {s t : State} (safe : EngineSafe s) (h : s.react = some t) : t.turns < s.turns := by
  rcases State.react_cases h with h | h | h | h | h | h
  · exact State.linkReact_turns h
  · exact State.bocReact_turns h
  · exact State.engineReact_turns safe h
  · exact State.survivalWaitEnd_turns h
  · exact State.quietWork_turns h
  · exact State.takeOffer_turns h

theorem State.settleFor_ends {n : Nat} {s : State} (safe : EngineSafe s) (fuel : s.turns ≤ n) :
    (s.settleFor n).react = none := by
  induction n generalizing s with
  | zero =>
    unfold State.settleFor
    cases h : s.react with
    | none => rfl
    | some t => exact absurd (State.react_turns safe h) (by omega)
  | succ n ih =>
    unfold State.settleFor
    split
    · rename_i t h
      have := State.react_turns safe h
      exact ih ((State.react_holds h).engine safe) (by omega)
    · assumption

/-- Settles O60: the order is that of `react`; the count of what may still follow goes down with each thing, and the event
is followed through more things than it can count. -/
theorem settleFollowsToTheEnd : Obligations.SettleFollowsToTheEnd := by
  intro t s
  refine ⟨fun h => ?_, fun h => ?_, ?_, ?_, ?_, fun safe => State.settleFor_ends safe s.turns_le⟩
  · simp [State.settle, settleFuel, State.settleFor, h]
  · simp [State.settle, settleFuel, State.settleFor, h]
  · rintro (h | ⟨h, g⟩) <;> simp [State.react, *]
  · rintro ⟨h, g, k⟩
    simp [State.react, *]
  · rintro ⟨h, g, k⟩
    simp [State.react, h, g, k, Option.or_assoc]

end Sys2Proof.Machine


/-! ## Part reset and the load (chapter 9) -/

namespace Sys2Proof.Machine

/-! ### The reset state -/

/-- Part reset meets the rule of the blocks before plan application. -/
theorem reset_held : HeldUntilApplied State.reset := by
  have same : State.reset = State.reset.resetBlocks := rfl
  rw [same]
  exact .resetBlocks _ (.inl rfl)

/-- Settles O4: every channel is blank, and the rest of the reset state is written out. -/
theorem resetValues : Obligations.ResetValues := by
  refine ⟨(((heldUntilApplied_iff _).1 reset_held).1 rfl).rail, ?_, ?_, ?_, rfl, ?_, ?_, ?_, ?_, rfl⟩
  all_goals decide

/-- Settles O5: before plan application the rules of the rails and most of the others ask nothing, and the rest are read
off the reset values. -/
theorem resetMeetsTheInvariants : Obligations.ResetMeetsTheInvariants := by
  refine ⟨?_, RailsSafe.of_held rfl, ?_, reset_held, ?_, ?_, .of_reset ⟨rfl, rfl, rfl, rfl, rfl, rfl⟩, fallbackPlan_inRange⟩
  · constructor <;> decide
  · constructor <;> decide
  · constructor <;> decide
  · exact .of_reset (by decide) rfl rfl

/-! ### Part reset and its release (R56) -/

theorem tripMv_eq (code : Nat) : tripMv code = [2950, 2900, 2850].getD code 2800 := by
  match code with
  | 0 | 1 | 2 | _ + 3 => rfl

theorem releaseMv_eq (code : Nat) : releaseMv code = [3050, 3000, 2950].getD code 2900 := by
  match code with
  | 0 | 1 | 2 | _ + 3 => rfl

/-- While part reset is held, the end of its last cause releases it; the end of one of two does not. -/
theorem exec_partResetRelease {s : State} (held : s.released = false) (p : BitVec 2) (u d : Bool) (ended : ResetInput) :
    exec (.partResetRelease p u d ended) s = .next
      (if (s.causeEnds ended).sense.supplyLow || (s.causeEnds ended).sense.resetNLow then s.causeEnds ended
        else (s.causeEnds ended).release p u d) :=
  congrArg Host.Outcome.next (if_neg (by simp [held]))

/-- Settles O16: by cause, its two conditions, and whether the other cause persists. -/
theorem partResetAndRelease : Obligations.PartResetAndRelease := by
  intro ended mv at_ high since planSel planUnlock dimIn s m trip release vAt filtered held released byVstby byResetN down
  have released_none : s.load.phase = none → s.released = false := fun h => by simp [State.released, h]
  refine ⟨?_, ?_, ?_, ?_, ?_, ?_, ?_, ?_, ?_, ?_, ?_⟩
  · rintro ⟨low, below⟩
    have arises : (!s.sense.supplyLow && decide (mv < tripMv s.sense.supplyCode)) = true := by
      simpa [tripMv_eq] using ⟨low, below⟩
    exact congrArg Host.Outcome.next (if_pos arises)
  · rintro ⟨up, low⟩
    have arises : (!s.sense.resetNLow && !high) = true := by simpa using ⟨up, low⟩
    subst low
    exact congrArg Host.Outcome.next (if_pos arises)
  · intro cause
    have none : ¬(!s.sense.supplyLow && decide (mv < tripMv s.sense.supplyCode)) = true := by
      simp only [tripMv_eq, Bool.and_eq_true, Bool.not_eq_true', decide_eq_true_eq]
      rintro ⟨low, below⟩
      obtain held | above := cause
      · exact absurd (low.symm.trans held) Bool.false_ne_true
      · exact absurd below (Nat.not_lt.2 above)
    exact congrArg Host.Outcome.next (if_neg none)
  · intro cause
    have none : ¬(!s.sense.resetNLow && !high) = true := by
      obtain held | high := cause
      · simp [show s.sense.resetNLow = true from held]
      · simp [high]
    exact congrArg Host.Outcome.next (if_neg none)
  · rintro ⟨none, low, above, other⟩
    have ends : s.causeEnds (.vstby mv at_) = (s.reach at_).modSense fun m => { m with supplyLow := false } :=
      if_pos (by simpa [releaseMv_eq] using ⟨low, above⟩)
    refine (exec_partResetRelease (released_none none) _ _ _ _).trans (congrArg Host.Outcome.next ?_)
    rw [ends]
    exact if_neg (by simpa using other)
  · rintro ⟨none, low, above, other⟩
    have ends : s.causeEnds (.vstby mv at_) = (s.reach at_).modSense fun m => { m with supplyLow := false } :=
      if_pos (by simpa [releaseMv_eq] using ⟨low, above⟩)
    refine (exec_partResetRelease (released_none none) _ _ _ _).trans (congrArg Host.Outcome.next ?_)
    rw [ends]
    exact if_pos (by simpa using other)
  · rintro ⟨none, low, up, other⟩
    have ends : s.causeEnds (.resetN high since) = s.resetNFiltered high since := if_pos (by simpa using ⟨low, up⟩)
    refine (exec_partResetRelease (released_none none) _ _ _ _).trans (congrArg Host.Outcome.next ?_)
    subst up
    rw [ends]
    refine (if_neg ?_).trans ?_
    · simpa [State.resetNFiltered] using other
    · have zero : (s.resetNFiltered true since).sense.filters.resetN - (s.resetNFiltered true since).clock = 0 := by
        simp [State.resetNFiltered]
      unfold State.release
      rw [zero]
      rfl
  · rintro ⟨none, low, up, other⟩
    have ends : s.causeEnds (.resetN high since) = s.resetNFiltered high since := if_pos (by simpa using ⟨low, up⟩)
    refine (exec_partResetRelease (released_none none) _ _ _ _).trans (congrArg Host.Outcome.next ?_)
    subst up
    rw [ends]
    exact if_pos (by simpa [State.resetNFiltered] using other)
  · rintro ⟨none, low, below⟩
    have ends : s.causeEnds (.vstby mv at_) = s := by
      refine if_neg fun ends => absurd (of_decide_eq_true (Bool.and_eq_true_iff.1 ends).2) (Nat.not_le.2 ?_)
      rw [releaseMv_eq]
      exact below
    refine (exec_partResetRelease (released_none none) _ _ _ _).trans (congrArg Host.Outcome.next ?_)
    rw [ends]
    exact if_pos (by simp [show s.sense.supplyLow = true from low])
  · rintro ⟨none, low, up⟩
    have ends : s.causeEnds (.resetN high since) = s := if_neg (by simp [up])
    refine (exec_partResetRelease (released_none none) _ _ _ _).trans (congrArg Host.Outcome.next ?_)
    rw [ends]
    exact if_pos (by simp [show s.sense.resetNLow = true from low])
  · intro phase
    exact congrArg Host.Outcome.next (if_pos (by simpa [State.released, Option.isSome_iff_ne_none] using phase))

end Sys2Proof.Machine


/-! ### The waits and the reads of the load (R178 to R182) -/

namespace Sys2Proof.Machine

/-- Settles O17: by the load phase and the busy bit. -/
theorem waitsOfTheLoad : Obligations.WaitsOfTheLoad := by
  intro status s osc begun now first waiting busy
  have counts : statusReadCounts = 64 := by decide
  refine ⟨?_, ?_, ?_, ?_⟩
  · intro phase
    exact congrArg Host.Outcome.next (if_pos phase)
  · rintro ⟨phase, ready⟩
    refine congrArg Host.Outcome.next ((if_pos phase).trans ?_)
    rw [counts]
    have clear : busyBit status = false := eq_false_of_ne_true ready
    exact if_pos (by simp [clear])
  · rintro ⟨phase, set, late⟩
    refine congrArg Host.Outcome.next ((if_pos phase).trans ?_)
    rw [counts]
    exact (if_neg (by simp [busyBit, show status.getLsbD 0 = true from set])).trans (if_pos late)
  · rintro ⟨phase, set, early⟩
    refine congrArg Host.Outcome.next ((if_pos phase).trans ?_)
    rw [counts]
    exact (if_neg (by simp [busyBit, show status.getLsbD 0 = true from set])).trans (if_neg (Nat.not_le.2 early))

/-! ### Plan application -/

/-- A read that returns as many bytes as the transaction has cuts and fills nothing. -/
theorem readBytes_length {n : Nat} {bytes : List Byte} (h : bytes.length = n) : readBytes n bytes = bytes := by
  subst h
  simp [readBytes]

/-- The blocks at plan application are those of the tables. -/
theorem State.applyBlocks_eq (s : State) (ring : Option Ring) (erased : Bool) :
    s.applyBlocks ⟨[], 0, ring, erased, none, .none⟩ = s.atApplication s.plan s.load ring erased [] := rfl

/-- Nothing follows of itself where the controller is in INIT without mains, the engine is at rest, the link in IGNORE
with the MAIN_RESET line active, and the plan has no journal. -/
theorem State.settle_fallback (s : State) (l : Loader) :
    (s.atApplication fallbackPlan l none false []).settle = s.atApplication fallbackPlan l none false [] := by
  generalize hu : s.atApplication fallbackPlan l none false [] = u
  have main : u.mainActive = true := by rw [← hu]; rfl
  have link : u.linkReact = none := by
    have mode : u.flb.mode = .ignore := by rw [← hu]; rfl
    simp [State.linkReact, mode, main]
  have boc : u.bocReact = none := by rw [← hu]; rfl
  have engine : u.engineReact = none := by rw [← hu]; rfl
  have survival : u.survivalWaitEnd = none := by rw [← hu]; rfl
  have quiet : u.quietWork = none := by
    have journal : u.plan.hasJournal = false := by rw [← hu]; rfl
    simp [State.quietWork, State.quietWorkAllowed, journal]
  have offer : u.takeOffer = none := by rw [← hu]; rfl
  have nothing : u.react = none := by simp [State.react, link, boc, engine, survival, quiet, offer]
  exact (settleFollowsToTheEnd u u).1 nothing

/-- A plan that is applied: the blocks of the tables, the PLAN record offered, and what follows of it. -/
theorem State.applyPlan_applied {s : State} {v : Nat} (stays : s.plan.tripsAt v = false) (ring : Option Ring) (erased : Bool) :
    s.applyPlan ⟨[], 0, ring, erased, none, .none⟩ v =
      ((s.atApplication s.plan s.load ring erased []).offerRecord
        (s.atApplication s.plan s.load ring erased []).planRecord).settle :=
  if_neg (by simp [stays])

/-- With no journal the PLAN record is discarded. -/
theorem State.offerRecord_noJournal {s : State} (h : s.plan.hasJournal = false) (b : RecordBody) : s.offerRecord b = s :=
  if_pos (by simp [h])

/-- The fallback plan has no journal and needs no level of VSTBY: it is applied, and nothing follows. -/
theorem State.fallBack_eq (s : State) (v : Nat) :
    s.fallBack v = s.atApplication fallbackPlan { s.load with source := some .fallback } none false [] := by
  refine (State.applyPlan_applied (s := (s.setPlan fallbackPlan).modLoad _) rfl none false).trans ?_
  rw [State.offerRecord_noJournal rfl]
  exact State.settle_fallback s { s.load with source := some .fallback }

theorem Plan.tripsAt_iff (p : Plan) (v : Nat) : p.tripsAt v = true ↔ p.supplyLevel < 3 ∧ v < tripMv p.supplyLevel := by
  simp [Plan.tripsAt]

/-! ### The reads of the image -/

/-- The checks of the header, over its bytes (R181). -/
theorem headerPasses_iff (img : List Byte) : headerPasses img = true ↔
    img.take 4 = [0x4D, 0x54, 0x50, 0x4E] ∧ img.getD 4 0 = 1 ∧ 973 ≤ leNat ((img.drop 6).take 2) ∧
      leNat ((img.drop 6).take 2) ≤ 16384 := by
  have one : byteAt img 4 = 1 ↔ img.getD 4 0 = 1 := by
    unfold byteAt
    exact ⟨fun h => BitVec.eq_of_toNat_eq h, fun h => by rw [h]; rfl⟩
  simp only [headerPasses, Bool.and_eq_true, beq_iff_eq, decide_eq_true_eq, one, and_assoc]
  rfl

/-- Settles O18: by the checks of the header. -/
theorem planHeaderRead : Obligations.PlanHeaderRead := by
  intro bytes s phase empty length passes
  have whole : readBytes headerSize bytes = bytes := readBytes_length length
  refine ⟨fun pass => ?_, fun fail => ?_⟩
  · refine congrArg Host.Outcome.next ((if_pos ⟨phase, empty⟩).trans ?_)
    rw [whole]
    exact if_pos ((headerPasses_iff bytes).2 pass)
  · refine congrArg Host.Outcome.next ((if_pos ⟨phase, empty⟩).trans ?_)
    rw [whole]
    refine (if_neg fun pass => fail ((headerPasses_iff bytes).1 pass)).trans ?_
    exact State.fallBack_eq _ _

/-- Settles O19: by the CRC-32, the journal and the level of VSTBY. -/
theorem planBodyRead : Obligations.PlanBodyRead := by
  intro bytes vstby s phase begun long length image p loaded
  have whole : readBytes (imageLength s.load.image - headerSize) bytes = bytes := readBytes_length length
  have read : exec (.planBodyReadEnd bytes vstby) s = .next
      (if crcPasses image then (s.modLoad fun l => { l with image := image }).prepareImage vstby
        else (s.modLoad fun l => { l with image := image }).fallBack vstby) := by
    refine congrArg Host.Outcome.next ((if_pos ⟨phase, begun⟩).trans ?_)
    have kept : (s.modLoad fun l =>
        { l with image := l.image ++ readBytes (imageLength l.image - headerSize) bytes }) =
          s.modLoad fun l => { l with image := image } := by
      simp only [State.modLoad, whole]
      rfl
    change (fun t : State => if crcPasses t.load.image then t.prepareImage vstby else t.fallBack vstby) (s.modLoad _) = _
    rw [kept]
    rfl
  rw [read]
  refine ⟨fun fail => ?_, ?_, ?_, ?_⟩
  · simp only [fail, Bool.false_eq_true, if_false]
    exact congrArg Host.Outcome.next (State.fallBack_eq _ _)
  · rintro ⟨pass, journal⟩
    simp only [pass, if_true]
    exact congrArg Host.Outcome.next (if_pos (by simpa [Plan.hasJournal] using journal))
  · rintro ⟨pass, journal, level⟩
    have unjournalled : p.hasJournal = false := by simpa [Plan.hasJournal] using journal
    simp only [pass, if_true]
    refine congrArg Host.Outcome.next ((if_neg (by exact Bool.eq_false_iff.1 unjournalled)).trans ?_)
    refine (State.applyPlan_applied ?_ none false).trans ?_
    · have := (Plan.tripsAt_iff p vstby).not
      refine eq_false_of_ne_true (this.2 ?_)
      omega
    · exact congrArg State.settle (State.offerRecord_noJournal unjournalled _)
  · rintro ⟨pass, journal, low⟩
    simp only [pass, if_true]
    refine congrArg Host.Outcome.next ((if_neg (by simpa [Plan.hasJournal] using journal)).trans ?_)
    exact if_pos ((Plan.tripsAt_iff p vstby).2 low)

end Sys2Proof.Machine


/-! ### The start-up scan (R173, R174, R186) -/

namespace Sys2Proof.Machine

/-! #### The classes of a sector's slots -/

theorem cutSlots_length (n : Nat) (bytes : List Byte) : (cutSlots n bytes).length = n := by
  induction n generalizing bytes with
  | zero => rfl
  | succ n ih => simp [cutSlots, ih]

theorem cutSlots_getElem? {n i : Nat} (bytes : List Byte) (h : i < n) :
    (cutSlots n bytes)[i]? = some ((bytes.drop (64 * i)).take 64) := by
  induction n generalizing i bytes with
  | zero => omega
  | succ n ih =>
    cases i with
    | zero => simp [cutSlots]
    | succ i =>
      simp only [cutSlots, List.getElem?_cons_succ]
      rw [ih _ (by omega), List.drop_drop]
      congr 3
      omega

/-- A slot with which a record of two slots begins. -/
def SlotClass.beginsTwo : SlotClass → Bool
  | .begins _ 2 => true
  | _ => false

/-- The slot before this one begins a record of two slots. -/
def secondSlot (classes : List SlotClass) : Nat → Bool
  | 0 => false
  | i + 1 => classes[i]?.any SlotClass.beginsTwo

/-- The class of the slot at a place, by whether it is the second of a record and by the slot after it (R173). -/
def slotRule (slots : List (List Byte)) (second : Bool) (i : Nat) : Option SlotClass :=
  slots[i]?.map fun a =>
    if second then .continues
    else if slots[i + 1]?.any fun b => validRecord (a ++ b) 2 then .begins (recordSeq a) 2
    else classSlot a

theorem classSlot_beginsTwo (a : List Byte) : (classSlot a).beginsTwo = false := by
  unfold classSlot
  split_ifs <;> rfl

theorem classSlots_length (slots : List (List Byte)) : (classSlots slots).length = slots.length := by
  induction slots using classSlots.induct with
  | case1 => rfl
  | case2 a => rfl
  | case3 a b rest valid ih => simp [classSlots, valid, ih]
  | case4 a b rest invalid ih => simp [classSlots, invalid, ih]

/-- Every slot of a sector is classed by the rule. -/
theorem classSlots_getElem? (slots : List (List Byte)) (i : Nat) :
    (classSlots slots)[i]? = slotRule slots (secondSlot (classSlots slots) i) i := by
  induction slots using classSlots.induct generalizing i with
  | case1 => rfl
  | case2 a => cases i <;> rfl
  | case3 a b rest valid ih =>
    have classes : classSlots (a :: b :: rest) = .begins (recordSeq a) 2 :: .continues :: classSlots rest := by
      simp [classSlots, valid]
    rw [classes]
    match i with
    | 0 => simp [slotRule, secondSlot, valid]
    | 1 => rfl
    | i + 2 =>
      rw [List.getElem?_cons_succ, List.getElem?_cons_succ, ih]
      cases i <;> rfl
  | case4 a b rest invalid ih =>
    have classes : classSlots (a :: b :: rest) = classSlot a :: classSlots (b :: rest) := by
      simp [classSlots, invalid]
    rw [classes]
    match i with
    | 0 => simp [slotRule, secondSlot, invalid]
    | 1 =>
      rw [List.getElem?_cons_succ, ih]
      simp [slotRule, secondSlot, classSlot_beginsTwo]
    | i + 2 =>
      rw [List.getElem?_cons_succ, ih]
      rfl

/-! #### The records of the ring -/

/-- The records of a ring stand at the slots that begin one. -/
theorem foundRecords_eq (ring : List SlotClass) (pos : Nat) :
    foundRecords pos ring = (List.range ring.length).flatMap fun q =>
      match ring.getD q .used with
      | .begins seq slots => [⟨pos + q, seq, slots⟩]
      | _ => [] := by
  induction ring generalizing pos with
  | nil => rfl
  | cons c cs ih =>
    rw [List.length_cons, List.range_succ_eq_map, List.flatMap_cons, List.flatMap_map]
    cases c <;> simp [foundRecords, ih, Nat.add_assoc, Nat.add_comm 1]

theorem mem_foundRecords_pos {ring : List SlotClass} {pos : Nat} {f : Found} (h : f ∈ foundRecords pos ring) : pos ≤ f.pos := by
  rw [foundRecords_eq] at h
  obtain ⟨q, -, hq⟩ := List.mem_flatMap.1 h
  split at hq
  · simp only [List.mem_singleton] at hq
    subst hq
    exact Nat.le_add_right _ _
  · cases hq

/-- They stand in ring order. -/
theorem foundRecords_sorted (ring : List SlotClass) (pos : Nat) :
    (foundRecords pos ring).Pairwise fun f g => f.pos < g.pos := by
  induction ring generalizing pos with
  | nil => exact .nil
  | cons c cs ih =>
    cases c <;> simp only [foundRecords]
    case begins => exact List.pairwise_cons.2 ⟨fun g hg => mem_foundRecords_pos hg, ih _⟩
    all_goals exact ih _

/-- The greatest sequence number of some records, the last of equals: it is one of them, and no other is greater or
equal and later. -/
theorem greatest_of_foldl (fs : List Found) (f : Found) (sorted : (f :: fs).Pairwise fun f g => f.pos < g.pos) :
    fs.foldl Found.greater f ∈ f :: fs ∧ ∀ g ∈ f :: fs, g.seq.toNat < (fs.foldl Found.greater f).seq.toNat ∨
      (g.seq = (fs.foldl Found.greater f).seq ∧ g.pos ≤ (fs.foldl Found.greater f).pos) := by
  induction fs generalizing f with
  | nil => simp
  | cons g gs ih =>
    obtain ⟨first, rest⟩ := List.pairwise_cons.1 sorted
    obtain ⟨second, tail⟩ := List.pairwise_cons.1 rest
    have before : f.pos < g.pos := first g (.head _)
    rw [List.foldl_cons]
    by_cases less : f.seq.toNat ≤ g.seq.toNat
    · have chosen : f.greater g = g := if_pos less
      rw [chosen]
      obtain ⟨mem, most⟩ := ih g rest
      refine ⟨List.mem_cons_of_mem _ mem, fun x hx => ?_⟩
      obtain rfl | hx := List.mem_cons.1 hx
      · obtain fewer | ⟨same, later⟩ := most g (.head _)
        · exact .inl (by omega)
        · obtain under | equal := Nat.lt_or_eq_of_le less
          · exact .inl (same ▸ under)
          · exact .inr ⟨(BitVec.eq_of_toNat_eq equal).trans same, by omega⟩
      · exact most x hx
    · have chosen : f.greater g = f := if_neg less
      rw [chosen]
      obtain ⟨mem, most⟩ := ih f (List.pairwise_cons.2 ⟨fun x hx => first x (List.mem_cons_of_mem _ hx), tail⟩)
      refine ⟨?_, fun x hx => ?_⟩
      · obtain eq | mem := List.mem_cons.1 mem
        · rw [eq]; exact .head _
        · exact List.mem_cons_of_mem _ (List.mem_cons_of_mem _ mem)
      · obtain rfl | hx := List.mem_cons.1 hx
        · exact most x (.head _)
        · obtain rfl | hx := List.mem_cons.1 hx
          · obtain fewer | ⟨same, -⟩ := most f (.head _)
            · exact .inl (by omega)
            · exact .inl (by rw [← same]; omega)
          · exact most x (List.mem_cons_of_mem _ hx)

/-- One record is newer than another by the difference of their sequence numbers, modulo 2^32 (R174). -/
theorem Found.newer_eq (f g : Found) :
    f.newer g = (decide (1 ≤ (f.seq - g.seq).toNat) && decide ((f.seq - g.seq).toNat < 2 ^ 31)) := by
  unfold Found.newer uptimeAge
  refine congrArg (_ && ·) (decide_eq_decide.2 ?_)
  omega

/-- The record is newer than every other of the ring. -/
def Found.newest (fs : List Found) (f : Found) : Bool := fs.all fun g => g.pos == f.pos || f.newer g

/-- The newest record of a ring that holds one: newer than every other, or, where none is, of the greatest sequence
number, the last of equals (R174). -/
theorem newestOf_some {fs : List Found} (sorted : fs.Pairwise fun f g => f.pos < g.pos) (some_ : fs ≠ []) :
    ∃ f ∈ fs, newestOf fs = some f ∧ (f.newest fs = true ∨ ((∀ g ∈ fs, g.newest fs = false) ∧
      ∀ g ∈ fs, g.seq.toNat < f.seq.toNat ∨ (g.seq = f.seq ∧ g.pos ≤ f.pos))) := by
  cases h : fs.find? fun f => f.newest fs with
  | some f =>
    refine ⟨f, List.mem_of_find?_eq_some h, ?_, .inl (List.find?_some h)⟩
    unfold Found.newest at h
    simp only [newestOf, h]
  | none =>
    have none : ∀ g ∈ fs, g.newest fs = false := fun g hg => by
      simpa using List.find?_eq_none.1 h g hg
    unfold Found.newest at h
    cases fs with
    | nil => exact absurd rfl some_
    | cons f fs =>
      obtain ⟨mem, most⟩ := greatest_of_foldl fs f sorted
      exact ⟨_, mem, by simp only [newestOf, h], .inr ⟨none, most⟩⟩

/-! #### The write position -/

theorem flatten_length {n : Nat} {sectors : List (List SlotClass)} (uniform : ∀ sector ∈ sectors, sector.length = n) :
    sectors.flatten.length = sectors.length * n := by
  induction sectors with
  | nil => simp
  | cons a as ih =>
    rw [List.flatten_cons, List.length_append, ih fun x hx => uniform x (.tail _ hx), uniform a (.head _), List.length_cons,
      Nat.succ_mul, Nat.add_comm]

/-- A slot of the ring stands in its sector, where the sectors have as many slots. -/
theorem flatten_getD {n : Nat} {sectors : List (List SlotClass)} (uniform : ∀ sector ∈ sectors, sector.length = n) (q r : Nat)
    (h : r < n) (d : SlotClass) : sectors.flatten.getD (q * n + r) d = (sectors.getD q []).getD r d := by
  induction sectors generalizing q with
  | nil => simp
  | cons a as ih =>
    have la := uniform a (.head _)
    cases q with
    | zero =>
      simp only [List.flatten_cons, Nat.zero_mul, Nat.zero_add]
      rw [List.getD_append _ _ _ _ (by omega)]
      rfl
    | succ q =>
      rw [List.flatten_cons, List.getD_append_right _ _ _ _ (by rw [la, Nat.succ_mul]; omega)]
      have place : (q + 1) * n + r - a.length = q * n + r := by rw [la, Nat.succ_mul]; omega
      rw [place, ih fun x hx => uniform x (.tail _ hx)]
      rfl

/-- The erased slots at the front of a list, and what stops them. -/
theorem erasedRun_spec (cs : List SlotClass) : erasedRun cs ≤ cs.length ∧
    (∀ i < erasedRun cs, cs.getD i .used = .erased) ∧
    (erasedRun cs < cs.length → cs.getD (erasedRun cs) .used ≠ .erased) := by
  induction cs with
  | nil => simp [erasedRun]
  | cons c cs ih =>
    obtain ⟨bound, run, stop⟩ := ih
    cases c
    case erased =>
      refine ⟨by simpa [erasedRun] using bound, fun i hi => ?_, fun h => ?_⟩
      · cases i with
        | zero => rfl
        | succ i => exact run i (by simpa [erasedRun] using hi)
      · exact stop (by simpa [erasedRun] using h)
    all_goals exact ⟨Nat.zero_le _, fun i hi => absurd hi (Nat.not_lt_zero _), fun _ => by simp [erasedRun]⟩

/-- The search for the write position: the first erased slot from the start on, around the ring, or the start. -/
def writePosition (ring : List SlotClass) (start : Nat) : Nat :=
  (((List.range ring.length).map fun i => (start + i) % ring.length).find? fun pos => ringAt ring pos == .erased).getD start

theorem writePosition_first {ring : List SlotClass} {start j : Nat} (hj : j < ring.length)
    (erased : ring.getD ((start + j) % ring.length) .used = .erased)
    (before : ∀ i < j, ring.getD ((start + i) % ring.length) .used ≠ .erased) :
    writePosition ring start = (start + j) % ring.length := by
  have found : (List.range ring.length).find? (fun i => ringAt ring ((start + i) % ring.length) == .erased) = some j := by
    rw [List.find?_range_eq_some]
    refine ⟨by simpa [ringAt] using erased, by simpa using hj, fun i hi => ?_⟩
    simpa [ringAt] using before i hi
  unfold writePosition
  rw [List.find?_map]
  exact congrArg (fun o => Option.getD (Option.map _ o) start) found

theorem writePosition_full {ring : List SlotClass} {start : Nat} (none : ∀ q < ring.length, ring.getD q .used ≠ .erased) :
    writePosition ring start = start := by
  unfold writePosition
  rw [List.find?_eq_none.2]
  · rfl
  · intro pos mem
    obtain ⟨i, hi, rfl⟩ := List.mem_map.1 mem
    have size : 0 < ring.length := Nat.lt_of_le_of_lt (Nat.zero_le i) (List.mem_range.1 hi)
    simpa [ringAt] using none _ (Nat.mod_lt (start + i) size)

/-- What the room of a write position counts: erased slots from it on, to one that is not or the end of its sector. -/
theorem room_spec {n : Nat} {sectors : List (List SlotClass)} (uniform : ∀ sector ∈ sectors, sector.length = n) (n_pos : 0 < n)
    {pos : Nat} (hpos : pos < sectors.flatten.length) (room : Nat)
    (hroom : room = erasedRun ((sectors.getD (pos / n) []).drop (pos % n))) :
    pos % n + room ≤ n ∧ (∀ i < room, sectors.flatten.getD (pos + i) .used = .erased) ∧
      (pos % n + room < n → sectors.flatten.getD (pos + room) .used ≠ .erased) ∧
      (sectors.flatten.getD pos .used ≠ .erased → room = 0) := by
  have slot : pos % n < n := Nat.mod_lt _ n_pos
  have inside : pos / n < sectors.length := by
    rw [flatten_length uniform] at hpos
    exact Nat.div_lt_of_lt_mul (by rwa [Nat.mul_comm])
  have length : (sectors.getD (pos / n) []).length = n := by
    rw [List.getD_eq_getElem _ _ inside]
    exact uniform _ (List.getElem_mem inside)
  obtain ⟨bound, run, stop⟩ := erasedRun_spec ((sectors.getD (pos / n) []).drop (pos % n))
  rw [← hroom, List.length_drop, length] at bound stop
  rw [← hroom] at run
  have at_ (i : Nat) (h : pos % n + i < n) : sectors.flatten.getD (pos + i) .used =
      ((sectors.getD (pos / n) []).drop (pos % n)).getD i .used := by
    have place : pos + i = pos / n * n + (pos % n + i) := by
      have := Nat.div_add_mod' pos n
      omega
    rw [place, flatten_getD uniform _ _ h]
    simp
  refine ⟨by omega, fun i hi => ?_, fun h => ?_, fun h => ?_⟩
  · rw [at_ i (by omega)]
    exact run i hi
  · rw [at_ room h]
    exact stop (by omega)
  · by_contra some_
    have := run 0 (by omega)
    rw [← at_ 0 (by omega)] at this
    exact h this

/-- What the scan finds, by the newest record (R174). -/
theorem Plan.findRing_eq (p : Plan) (sectors : List (List SlotClass)) (start : Nat) (next : Word32)
    (hstart : start = match newestOf (foundRecords 0 sectors.flatten) with
      | some f => (f.pos + f.slots) % sectors.flatten.length
      | none => 0)
    (hnext : next = match newestOf (foundRecords 0 sectors.flatten) with
      | some f => f.seq + 1
      | none => 1) :
    p.findRing sectors =
      { nextSeq := next
        sector := writePosition sectors.flatten start / p.slotsPerSector
        slot := writePosition sectors.flatten start % p.slotsPerSector
        room := erasedRun ((sectors.getD (writePosition sectors.flatten start / p.slotsPerSector) []).drop
          (writePosition sectors.flatten start % p.slotsPerSector)) } := by
  subst hstart hnext
  rfl

/-! #### The three parts of O20 -/

/-- The PLAN record joins the empty queue. -/
theorem State.offerRecord_atApplication {s : State} {l : Loader} {ring : Option Ring} {erased : Bool}
    (journal : s.plan.sectorCount ≠ 0) :
    (s.atApplication s.plan l ring erased []).offerRecord (s.atApplication s.plan l ring erased []).planRecord =
      s.atApplication s.plan l ring erased [⟨(s.atApplication s.plan l ring erased []).planRecord, .init, s.sense.uptime⟩] := by
  refine (if_neg ?_).trans ((if_pos (show 0 < Config.queueSlots by decide)).trans rfl)
  simpa [Plan.hasJournal, State.atApplication] using journal

theorem journalScanSectorRead_application (bytes : List Byte) (vstby : Nat) (s : State) (phase : s.load.phase = some .scan)
    (journal : s.plan.sectorCount ≠ 0) (length : bytes.length = s.plan.sectorSize) :
    let scanned := s.load.scanned ++ [classSlots (cutSlots (s.plan.sectorSize / 64) bytes)]
    let ring := s.plan.findRing scanned
    let record : Record :=
      ⟨.plan (s.load.source.getD .fallback) s.load.generation s.load.clamps s.load.firstClamped s.load.strap s.load.unlockHeld
          s.planRegionLocked s.load.busyAtLoad s.sense.vstbyMv, .init, s.sense.uptime⟩
    (scanned.length < s.plan.sectorCount →
      exec (.journalScanSectorRead bytes vstby) s = .next { s with load := { s.load with scanned := scanned } }) ∧
    (s.plan.sectorCount ≤ scanned.length ∧ (3 ≤ s.plan.supplyLevel ∨ tripMv s.plan.supplyLevel ≤ vstby) →
      exec (.journalScanSectorRead bytes vstby) s = .next
        (s.atApplication s.plan { s.load with scanned := scanned } (some ring)
          (sectorErased scanned ((ring.sector + 1) % s.plan.sectorCount)) [record]).settle) ∧
    (s.plan.sectorCount ≤ scanned.length ∧ s.plan.supplyLevel < 3 ∧ vstby < tripMv s.plan.supplyLevel →
      exec (.journalScanSectorRead bytes vstby) s = .next
        (s.modLoad fun l => { l with scanned := scanned }).supplyFails) := by
  intro scanned ring record
  have read : exec (.journalScanSectorRead bytes vstby) s = .next
      (if scanned.length < s.plan.sectorCount then s.modLoad fun l => { l with scanned := scanned }
        else (s.modLoad fun l => { l with scanned := scanned }).applyPlan (s.plan.startJournal scanned) vstby) := by
    refine congrArg Host.Outcome.next ((if_pos phase).trans ?_)
    have whole : readBytes s.plan.sectorSize bytes = bytes := readBytes_length length
    simp only [whole]
    rfl
  rw [read]
  refine ⟨fun before => congrArg Host.Outcome.next (if_pos before), ?_, ?_⟩
  · rintro ⟨last, level⟩
    refine congrArg Host.Outcome.next ((if_neg (Nat.not_lt.2 last)).trans ?_)
    refine (State.applyPlan_applied (s := s.modLoad fun l => { l with scanned := scanned }) ?_ (some ring) _).trans ?_
    · refine eq_false_of_ne_true fun trips => ?_
      have := (Plan.tripsAt_iff s.plan vstby).1 trips
      omega
    · exact congrArg State.settle
        (State.offerRecord_atApplication (s := s.modLoad fun l => { l with scanned := scanned }) journal)
  · rintro ⟨last, low⟩
    refine congrArg Host.Outcome.next ((if_neg (Nat.not_lt.2 last)).trans ?_)
    exact if_pos ((Plan.tripsAt_iff s.plan vstby).2 low)

/-- The kind byte of a record of one slot, and of two (R165). -/
theorem slotsOfKind_one (kind : Byte) :
    (slotsOfKind kind == some 1) = (decide (1 ≤ kind.toNat ∧ kind.toNat ≤ 10) && kind != 9) := by
  unfold slotsOfKind
  split_ifs with nine range <;> simp_all

theorem slotsOfKind_two (kind : Byte) : (slotsOfKind kind == some 2) = (kind == 9) := by
  unfold slotsOfKind
  split_ifs with nine range <;> simp_all

theorem secondSlot_eq (classes : List SlotClass) (i : Nat) : secondSlot classes i =
    match classes[i - 1]? with
    | some (.begins _ 2) => decide (1 ≤ i)
    | _ => false := by
  cases i with
  | zero => simp only [secondSlot]; split <;> rfl
  | succ i =>
    simp only [secondSlot, Nat.add_sub_cancel]
    split
    · rename_i h; simp [h, SlotClass.beginsTwo]
    · rename_i h
      cases hc : classes[i]? with
      | none => rfl
      | some c =>
        cases c with
        | begins seq slots =>
          by_cases two : slots = 2
          · exact absurd (two ▸ hc) (h seq)
          · simp only [Option.any_some]
            unfold SlotClass.beginsTwo
            split
            · rename_i eq; cases eq; exact absurd rfl two
            · rfl
        | erased | used | continues => rfl

/-- Settles O20: the application by the sectors scanned so far, the classes by the rule of each slot, the ring by its newest
record. -/
theorem journalScanSectorRead : Obligations.JournalScanSectorRead := by
  refine ⟨fun bytes vstby s phase journal length => journalScanSectorRead_application bytes vstby s phase journal length, ?_, ?_⟩
  · intro n i bytes inside slot classes valid seq second two
    have valid_one (b : List Byte) : valid b 1 = validRecord b 1 := by
      simp only [valid, validRecord, slotsOfKind_one]
      rfl
    have valid_two (b : List Byte) : valid b 2 = validRecord b 2 := by
      simp only [valid, validRecord, slotsOfKind_two]
      rfl
    have here : (cutSlots n bytes)[i]? = some (slot i) := cutSlots_getElem? bytes inside
    have next : ((cutSlots n bytes)[i + 1]?.any fun b => validRecord (slot i ++ b) 2) = true ↔ two := by
      by_cases more : i + 1 < n
      · simp [cutSlots_getElem? bytes more, two, more, valid_two, slot]
      · have none : (cutSlots n bytes)[i + 1]? = none := List.getElem?_eq_none (by rw [cutSlots_length]; omega)
        simp [none, two, more]
    have rule : classes[i]? = some (if second = true then .continues else if two then .begins seq 2 else classSlot (slot i)) := by
      have := classSlots_getElem? (cutSlots n bytes) i
      rw [slotRule, here, secondSlot_eq] at this
      simp only [Option.map_some, next] at this
      exact this
    rw [rule]
    refine ⟨(classSlots_length _).trans (cutSlots_length n bytes), ?_, ?_, ?_, ?_, ?_, by decide +kernel⟩
    · intro follows
      rw [if_pos follows]
    · rintro ⟨first, both⟩
      rw [if_neg (by simp [first]), if_pos both]
    · rintro ⟨first, single, blank⟩
      rw [if_neg (by simp [first]), if_neg single]
      exact congrArg some (if_pos blank)
    · rintro ⟨first, single, written, holds⟩
      rw [if_neg (by simp [first]), if_neg single]
      exact congrArg some ((if_neg (Bool.eq_false_iff.1 written)).trans (if_pos (valid_one _ ▸ holds)))
    · rintro ⟨first, single, written, fails⟩
      rw [if_neg (by simp [first]), if_neg single]
      exact congrArg some ((if_neg (Bool.eq_false_iff.1 written)).trans (if_neg (Bool.eq_false_iff.1 (valid_one _ ▸ fails))))
  · intro p k sectors some_ n_pos uniform n ring size found records newer qualifies newest erased placed writesFrom
    have size_pos : 0 < size := by
      have length := flatten_length uniform
      have := Nat.mul_pos (List.length_pos_iff.2 some_) n_pos
      exact this.trans_eq length.symm
    have records_eq : records = (foundRecords 0 ring).map fun f => (f.pos, f.seq, f.slots) := by
      rw [foundRecords_eq, List.map_flatMap]
      refine List.flatMap_congr fun q _ => ?_
      cases ring.getD q .used <;> simp
    have writes (start : Nat) (next : Word32) (hstart : start < size)
        (heq : start = match newestOf (foundRecords 0 ring) with
          | some f => (f.pos + f.slots) % ring.length
          | none => 0)
        (hnext : next = match newestOf (foundRecords 0 ring) with
          | some f => f.seq + 1
          | none => 1) : writesFrom start next := by
      have eq : found = _ := p.findRing_eq sectors start next heq hnext
      refine ⟨by rw [eq], fun j hj ⟨here, before⟩ => ?_, fun none => ?_⟩
      · have position := writePosition_first hj (by simpa [erased] using here) fun i hi => by simpa [erased] using before i hi
        have pos_lt : (start + j) % size < size := Nat.mod_lt _ size_pos
        obtain ⟨bound, run, stop, -⟩ := room_spec uniform n_pos pos_lt _ rfl
        simp only [placed, eq]
        rw [position]
        exact ⟨rfl, rfl, bound, fun i hi => by simpa [erased] using run i hi, fun h => beq_eq_false_iff_ne.2 (stop h)⟩
      · have blank : ∀ q < ring.length, ring.getD q .used ≠ .erased := fun q hq => by simpa [erased] using none q hq
        obtain ⟨-, -, -, empty⟩ := room_spec uniform n_pos hstart _ rfl
        simp only [eq]
        rw [writePosition_full blank]
        exact ⟨rfl, rfl, empty (blank start hstart)⟩
    refine ⟨fun empty => ?_, fun some_ => ?_, ?_⟩
    · have none : foundRecords 0 ring = [] := by simpa [records_eq] using empty
      refine writes 0 1 size_pos ?_ ?_ <;> rw [none] <;> rfl
    · have some_ : foundRecords 0 ring ≠ [] := fun none => some_ (by rw [records_eq, none]; rfl)
      obtain ⟨f, mem, chosen, best⟩ := newestOf_some (foundRecords_sorted ring 0) some_
      have qualifies_eq (g : Found) : qualifies (g.pos, g.seq, g.slots) = g.newest (foundRecords 0 ring) := by
        simp only [qualifies, records_eq, List.all_map, Found.newest]
        refine congrArg (List.all _) (funext fun h => ?_)
        exact congrArg (h.pos == g.pos || ·) (Found.newer_eq g h).symm
      refine ⟨(f.pos, f.seq, f.slots), by rw [records_eq]; exact List.mem_map_of_mem mem, ?_, ?_⟩
      · obtain best | ⟨none, most⟩ := best
        · exact .inl (by rw [qualifies_eq, best])
        · refine .inr ⟨?_, ?_⟩
          · rw [records_eq, List.all_map, List.all_eq_true]
            intro g hg
            simp [qualifies_eq, none g hg]
          · rw [records_eq]
            intro y hy
            obtain ⟨g, hg, rfl⟩ := List.mem_map.1 hy
            exact most g hg
      · refine writes _ _ (Nat.mod_lt _ size_pos) ?_ ?_ <;> rw [chosen]
    · simp [sectorErased]

end Sys2Proof.Machine


/-! ### A record as it is written (R165, R166, R191) -/

namespace Sys2Proof.Machine

/-- A number in bytes reads back, modulo what they can hold. -/
theorem leNat_of_leBytes (n v : Nat) : leNat (leBytes n v) = v % 256 ^ n := by
  induction n generalizing v with
  | zero => simp [leBytes, leNat, Nat.mod_one]
  | succ n ih =>
    have low : (BitVec.ofNat 8 (v % 256)).toNat = v % 256 := by simp
    rw [leBytes, leNat, ih, low, pow_succ', Nat.mod_mul]

theorem padBytes_length (n : Nat) (bytes : List Byte) : (padBytes n bytes).length = n := by
  simp only [padBytes, List.length_append, List.length_take, List.length_replicate]
  omega

/-- The header of a record: kind, slot count, lost count, controller state, sequence and uptime (R165). -/
def Record.header (r : Record) (lost : Nat) (seq : Word32) : List Byte :=
  [r.body.kindCode, natByte r.body.slots, natByte lost, r.boc.code] ++ wordBytes seq ++ wordBytes r.uptime

/-- The bytes of a record but for its trailer: the header, and then the payload with zeros after it. -/
def Record.front (r : Record) (lost : Nat) (seq : Word32) : List Byte :=
  padBytes (64 * r.body.slots - 2) (r.header lost seq ++ r.body.payload)

theorem Record.bytes_eq (r : Record) (lost : Nat) (seq : Word32) :
    r.bytes lost seq = r.front lost seq ++ leBytes 2 (crc16 (r.front lost seq)).toNat := rfl

theorem RecordBody.slots_cases (b : RecordBody) : b.slots = 1 ∨ b.slots = 2 := by cases b <;> simp [RecordBody.slots]

theorem RecordBody.slotsOfKind (b : RecordBody) : slotsOfKind b.kindCode = some b.slots := by cases b <;> rfl

theorem Record.front_length (r : Record) (lost : Nat) (seq : Word32) :
    (r.front lost seq).length = 64 * r.body.slots - 2 := padBytes_length _ _

/-- The padding keeps the header in front. -/
theorem Record.front_header (r : Record) (lost : Nat) (seq : Word32) :
    ∃ rest, r.front lost seq = r.header lost seq ++ rest := by
  have fits : (r.header lost seq).length ≤ 64 * r.body.slots - 2 := by
    have length : (r.header lost seq).length = 12 := by simp [Record.header, wordBytes]
    obtain h | h := r.body.slots_cases <;> rw [h, length] <;> decide
  unfold Record.front padBytes
  rw [List.take_append, List.take_of_length_le fits, List.append_assoc]
  exact ⟨_, rfl⟩

/-- Settles O22: the trailer is the CRC of the bytes before it, and the header is found in its place. -/
theorem writtenRecordReadsBack : Obligations.WrittenRecordReadsBack := by
  intro r lost seq
  obtain ⟨rest, front⟩ := r.front_header lost seq
  have bytes : r.bytes lost seq = r.header lost seq ++ (rest ++ leBytes 2 (crc16 (r.front lost seq)).toNat) := by
    rw [r.bytes_eq, ← List.append_assoc, ← front]
  refine ⟨?_, ?_, ?_⟩
  · rw [r.bytes_eq, List.length_append, r.front_length, leBytes_length]
    obtain h | h := r.body.slots_cases <;> rw [h]
  · have kind : (r.bytes lost seq).getD 0 0xFF = r.body.kindCode := by rw [bytes]; rfl
    have count : ((r.bytes lost seq).getD 1 0).toNat = r.body.slots := by
      have byte : (r.bytes lost seq).getD 1 0 = natByte r.body.slots := by rw [bytes]; rfl
      rw [byte]
      obtain h | h := r.body.slots_cases <;> rw [h] <;> rfl
    have before : (r.bytes lost seq).take (64 * r.body.slots - 2) = r.front lost seq := by
      rw [r.bytes_eq, ← r.front_length lost seq]
      exact List.take_left
    have trailer : (r.bytes lost seq).drop (64 * r.body.slots - 2) = leBytes 2 (crc16 (r.front lost seq)).toNat := by
      rw [r.bytes_eq, ← r.front_length lost seq]
      exact List.drop_left
    have crc : leNat ((leBytes 2 (crc16 (r.front lost seq)).toNat).take 2) = (crc16 (r.front lost seq)).toNat := by
      rw [List.take_of_length_le (by simp), leNat_of_leBytes]
      exact Nat.mod_eq_of_lt (crc16 (r.front lost seq)).isLt
    unfold validRecord
    rw [kind, count, before, trailer, crc, r.body.slotsOfKind]
    simp
  · have field : ((r.bytes lost seq).drop 4).take 4 = wordBytes seq := by rw [bytes]; rfl
    unfold recordSeq
    rw [field, wordBytes, leNat_of_leBytes]
    exact BitVec.eq_of_toNat_eq (by simpa using seq.isLt)

end Sys2Proof.Machine


/-! ### The scan, uptime and the budget (chapters 3 and 4) -/

namespace Sys2Proof.Machine

/-! #### The bus-floor check (R61) -/

theorem Sense.busFloor_agrees {m : Sense} {floor vbus : Nat} (on : floor ≠ 0) (agrees : m.busBelow = true ↔ vbus < floor) :
    m.busFloor floor vbus = { m with busCount := 0 } := by
  have same : (decide (vbus < floor) == m.busBelow) = true := by
    cases h : m.busBelow <;> simp_all
  exact (if_neg on).trans (if_pos same)

/-- A scan that is contrary to the check's state counts, or, the third in a row, changes the state. -/
theorem Sense.busFloor_contrary {m : Sense} {floor vbus : Nat} (on : floor ≠ 0)
    (contrary : ¬(m.busBelow = true ↔ vbus < floor)) : m.busFloor floor vbus =
      if m.busCount + 1 < 3 then { m with busCount := m.busCount + 1 }
      else if m.busBelow then { m with busBelow := false, busCount := 0 }
      else { m with busBelow := true, busCount := 0, collapse := true } := by
  have differs : ¬(decide (vbus < floor) == m.busBelow) = true := by
    cases h : m.busBelow <;> simp_all
  exact (if_neg on).trans (if_neg differs)

/-- Settles O23: before plan application a scan measures; after it, it checks the bus and computes. -/
theorem scanCompletionMeasures : Obligations.ScanCompletionMeasures := by
  refine ⟨?_, ?_⟩
  · intro vbus vbulk ibus vstby s released now code ring kept measured inputs
    have trimmed (raw : BitVec 12) (after : Nat) (trim : Int) :
        trimCode raw (s.reachScan.trimFor (s.reachScan.clock - after * Config.countsPerConversion) trim) =
          code raw after trim := by
      have same : s.reachScan.trimFor (s.reachScan.clock - after * Config.countsPerConversion) trim =
          if s.applied = true ∧ s.load.appliedAt + after * 2400 < now then trim else 0 := by
        change (if (s.applied && decide (s.load.appliedAt < now - after * 2400)) = true then trim else 0) = _
        refine if_congr ?_ rfl rfl
        rw [Bool.and_eq_true, decide_eq_true_eq]
        exact and_congr_right' (by omega)
      rw [same]
      rfl
    have pushed : pushCode s.sense.ibusRing (code ibus 1 s.plan.trimIbus) = kept := by
      simp only [pushCode, kept, ring, List.length_append, List.length_singleton]
    have taken : s.reachScan.takeCodes vbus vbulk ibus vstby = { s with clock := now, sense := measured } := by
      unfold State.takeCodes
      simp only [trimmed]
      change s.reachScan.modSense (fun m => { m with
        ibusRing := pushCode s.sense.ibusRing (code ibus 1 s.plan.trimIbus)
        vbusMv := measured.vbusMv, vbulkV := measured.vbulkV
        ibusMa := if s.applied then some (toUnits (averageCode (pushCode s.sense.ibusRing (code ibus 1 s.plan.trimIbus)))
          s.plan.scaleIbus) else none
        vstbyMv := measured.vstbyMv }) = _
      rw [pushed]
      rfl
    have scanned : exec (.scanCompletion vbus vbulk ibus vstby) s = .next
        (if s.applied then ({ s with clock := now, sense := measured } : State).scanOffers
          else { s with clock := now, sense := measured }) := by
      refine congrArg Host.Outcome.next ((if_pos released).trans ?_)
      rw [taken]
      rfl
    refine ⟨fun held => ?_, fun applied => ?_⟩
    · rw [scanned, if_neg (by simp [held])]
    · rw [scanned, if_pos applied]
      rfl
  · intro m floor vbus
    refine ⟨fun off => if_pos off, fun ⟨on, agrees⟩ => Sense.busFloor_agrees on agrees, ?_, ?_, ?_⟩
    · rintro ⟨on, contrary, few⟩
      rw [Sense.busFloor_contrary on contrary, if_pos (by omega)]
    · rintro ⟨on, above, low, third⟩
      rw [Sense.busFloor_contrary on (by simp [above, low]), if_neg (by omega), if_neg (by simp [above])]
    · rintro ⟨on, below, high, third⟩
      rw [Sense.busFloor_contrary on (by simp [below]; omega), if_neg (by omega), if_pos below]

/-- Settles O24: by the release of part reset, and by the entry at the position. -/
theorem uptimeAndTheStaleMark : Obligations.UptimeAndTheStaleMark := by
  refine ⟨fun s => ⟨fun released => congrArg Host.Outcome.next (if_pos released),
    fun held => congrArg Host.Outcome.next (if_neg (by simp [held]))⟩, ?_⟩
  intro pos e s held
  have due (h : held) : s.staleDue pos.val = (!e.stale && decide (staleAge ≤ uptimeAge s.sense.uptime e.start)) := by
    simp only [State.staleDue, show s.boc.history[pos.val]? = some e from h]
  refine ⟨?_, ?_, fun none => ?_⟩
  · rintro ⟨h, fresh, old⟩
    have mark : s.staleDue pos.val = true := by
      rw [due h]
      rw [fresh]
      exact decide_eq_true old
    refine congrArg Host.Outcome.next ((if_pos mark).trans ?_)
    have entry : (s.boc.history.modify pos.val fun e => { e with stale := true }) =
        s.boc.history.set pos.val { e with stale := true } := by
      rw [List.modify_eq_set_getElem?, show s.boc.history[pos.val]? = some e from h]
      rfl
    simp [State.markStale, State.modBoc, entry]
  · rintro ⟨h, young⟩
    refine congrArg Host.Outcome.next (if_neg ?_)
    rw [due h]
    obtain stale | young := young
    · simp [stale]
    · simp only [Bool.and_eq_true, decide_eq_true_eq, not_and, Nat.not_le]
      exact fun _ => young
  · exact congrArg Host.Outcome.next (if_neg (by simp [State.staleDue, none]))

/-! #### The stages of the budget (R76 to R87) -/

theorem ceilDiv_le {a b n : Nat} (hb : 0 < b) (h : a ≤ n * b) : ceilDiv a b ≤ n := by
  unfold ceilDiv
  exact Nat.lt_succ_iff.1 ((Nat.div_lt_iff_lt_mul hb).2 (by rw [Nat.succ_mul]; omega))

theorem Plan.admissionCosts_at (p : Plan) (load : Nat) (op : OpClass) :
    (p.admissionCosts load).at op = flashEnergy load (p.maxTime.at op) := by cases op <;> rfl

/-- The measured load of a VBUS and an IBUS in range. -/
theorem measuredLoad_le {vbus ibus : Nat} (hv : vbus ≤ 32767) (hi : ibus ≤ 32767) : measuredLoad vbus ibus ≤ 1073677 :=
  ceilDiv_le (by decide) ((Nat.mul_le_mul hv hi).trans (by decide))

/-- The modelled load of figures in range. -/
theorem Plan.modelledLoad_le {p : Plan} {i : Inputs} (hp : p.InRange) (hi : i.InRange) : p.modelledLoad i ≤ 1111420 := by
  obtain ⟨base, flash, full⟩ := hp.loads
  have light : ceilDiv (p.blFullMw * i.duty) 1000 ≤ 300000 := ceilDiv_le (by decide) (Nat.mul_le_mul full hi.duty)
  have rails := hi.rails
  unfold Plan.modelledLoad
  split <;> omega

/-- Settles O27: the stages are the definitions; their ranges follow from those of the figures, of E_us (O25) and of the
committed energy (O26). -/
theorem budgetStagesAndRanges : Obligations.BudgetStagesAndRanges := by
  intro p i b
  refine ⟨⟨?_, rfl, ?_, rfl, rfl, rfl, ?_, ?_, rfl, fun op => p.admissionCosts_at _ op⟩, fun ⟨hp, hi⟩ => ?_⟩
  · change p.capUf * (i.vbulkV ^ 2 - p.dropoutV ^ 2) / 2000 = _
    split
    · rfl
    · rename_i low
      have none : i.vbulkV ^ 2 - p.dropoutV ^ 2 = 0 := Nat.sub_eq_zero_of_le (Nat.pow_le_pow_left (Nat.not_lt.1 low) 2)
      simp [none]
  · change p.baseMw + i.railsMw + _ + _ = _
    cases i.flight <;> rfl
  · change (b.eUs : Int) - ((b.dCost + p.recordCost + p.margin : Nat) : Int) = _
    push_cast
    rfl
  · exact decide_eq_true_iff
  · obtain ⟨-, -, -, stored⟩ := usableEnergyOfTheStored p i
    obtain ⟨sum, dCost, fCost, -, -, committed⟩ := committedEnergyIsTheSum p i
    obtain ⟨eSt, eUs⟩ := stored hp hi
    have eCm := committed hp
    obtain ⟨-, -, -, margin, record⟩ := hp.energy
    have pMeas : b.pMeas ≤ 1073677 := measuredLoad_le hi.vbus hi.ibus
    have pModel : b.pModel ≤ 1111420 := Plan.modelledLoad_le hp hi
    have pLoad : b.pLoad = max b.pMeas b.pModel := rfl
    have tDesc : b.tDesc ≤ 131070 := by
      obtain ⟨panel, board⟩ := hp.descent
      change (if i.panelDown then 0 else p.tPanelSwift) + (if i.boardDown then 0 else p.tBoardSwift) ≤ _
      split <;> split <;> omega
    have tDd : b.tDd ≤ 65535 := by
      change timeToDropout b.eUs b.pLoad ≤ 65535
      unfold timeToDropout
      split
      · exact le_rfl
      · exact Nat.min_le_left _ _
    have reserve : b.reserve = (b.eUs : Int) - b.eCm := rfl
    have free : b.flashFree = (b.eUs : Int) - ((b.dCost + p.recordCost + p.margin : Nat) : Int) := rfl
    change b.eCm = b.dCost + b.fCost + p.recordCost + p.margin at sum
    change b.eSt ≤ 261121 at eSt
    change b.eUs ≤ b.eSt at eUs
    change b.eCm ≤ 2011000 at eCm
    change b.dCost ≤ 1000000 at dCost
    change b.fCost ≤ 1000000 at fCost
    have costs (op : OpClass) : b.aCost.at op ≤ 1000000 := by
      rw [show b.aCost.at op = _ from p.admissionCosts_at _ op]
      exact flashEnergy_le _ _
    refine ⟨eSt, pMeas, pModel, by omega, tDesc, ⟨by omega, by omega⟩, ⟨by omega, by omega⟩, by omega, tDd,
      fun op => ⟨costs op, fun full => by omega⟩⟩

end Sys2Proof.Machine

namespace Sys2Proof.Machine

/-! ## The end of a step

A step that completes brings the engine to the boundary after it; `State.passed` says once what the engine is then, and
every command that ends a step cites it. -/

/-- The fault claims taken at a boundary write the engine alone (R45). -/
theorem State.takeClaims_eq (s : State) : s.takeClaims = { s with eng := s.claimsTaken } := by
  unfold State.takeClaims State.claimsTaken
  cases s.boc.state with
  | init | normal =>
    cases hb : s.eng.claimBoard <;> cases hp : s.eng.claimPanel <;>
      simp [State.lockBoth, State.lockBoard, State.lockPanel, State.modEng]
  | dip | recover | commit | descent | dark => simp [State.modEng]

/-- The domain states after a sequence has completed, as `Engine.passed` writes them (R37). -/
theorem Engine.domainsComplete_idled (e : Engine) (n : SlotName) :
    (e.domainsComplete n).idled =
      { e with
        mode := .idle, slot := none, index := 0, step := .idle, quiesceHold := false, quietHold := false
        board :=
          match n with
          | .boardUp => if e.board = .goingUp then .up else e.board
          | .boardDown | .boardSwift => if e.board = .goingDown then .down else e.board
          | .trip => .down
          | .panelUp | .panelDown | .panelSwift => e.board
        panel :=
          match n with
          | .panelUp => if e.panel = .goingUp then .up else e.panel
          | .panelDown | .panelSwift => if e.panel = .goingDown then .down else e.panel
          | .trip => .down
          | .boardUp | .boardDown | .boardSwift => e.panel } := by
  have up (d : DomainState) : d.arriveUp = if d = .goingUp then .up else d := by cases d <;> rfl
  have down (d : DomainState) : d.arriveDown = if d = .goingDown then .down else d := by cases d <;> rfl
  cases n <;> simp only [Engine.domainsComplete, Engine.idled, up, down]

/-- After a completed step the next one is to begin, or the sequence completes (R42). -/
theorem State.nextStep_passed {s : State} {e : Engine} (n : SlotName) (run : e.mode = .running)
    (eng : s.eng = { e with index := e.index + 1, step := .idle, quietHold := false }) :
    s.nextStep n = { s with eng := e.passed n (s.plan.slotRange n).count } := by
  unfold State.nextStep Engine.passed
  rw [show s.eng.index = e.index + 1 by rw [eng]]
  split
  · simp [eng, run, State.modEng]
  · simp only [State.seqComplete, State.modEng, Engine.domainsComplete_idled, eng] <;> (cases n <;> rfl)

/-- The boundary of a sequence, by its direction, the controller's state and its domain (R42, R45 to R47). -/
theorem State.boundary_eq {s : State} {n : SlotName} (slot : s.eng.slot = some n) :
    s.boundary =
      if n.isUp = true ∧ s.boc.state ≠ .normal then s.takeClaims.suspend
      else if n.isUp = true ∧ ({ s with eng := s.claimsTaken } : State).seqDesired n = false then s.takeClaims.seqEnd
      else s.takeClaims.nextStep n := by
  have held : s.takeClaims.eng.slot = some n := by simp [State.takeClaims_eq, State.claimsTaken, slot]
  have desired : s.takeClaims.seqDesired n = ({ s with eng := s.claimsTaken } : State).seqDesired n := by
    rw [State.takeClaims_eq]
  unfold State.boundary
  simp only [held, desired, State.takeClaims_frame]
  cases n.isUp <;> simp

/-- A step that completes brings the engine to the boundary after it (R25, R42). -/
theorem State.stepDone_eq {s : State} {n : SlotName} (run : s.eng.mode = .running) (slot : s.eng.slot = some n) :
    s.stepDone = { s with eng := s.passed n } := by
  let u : State := s.modEng fun e => { e with index := e.index + 1, step := .idle, quietHold := false }
  have claims : u.claimsTaken = { s.claimsTaken with index := s.eng.index + 1, step := .idle, quietHold := false } := rfl
  have desired : ({ u with eng := u.claimsTaken } : State).seqDesired n =
      ({ s with eng := s.claimsTaken } : State).seqDesired n := by cases n <;> rfl
  change u.boundary = _
  rw [State.boundary_eq (s := u) slot, State.takeClaims_eq]
  unfold State.passed
  by_cases waits : n.isUp = true ∧ s.boc.state ≠ .normal
  · rw [if_pos (show n.isUp = true ∧ u.boc.state ≠ .normal from waits), if_pos waits]
    rfl
  · rw [if_neg (show ¬ (n.isUp = true ∧ u.boc.state ≠ .normal) from waits), if_neg waits]
    by_cases dropped : n.isUp = true ∧ ({ s with eng := s.claimsTaken } : State).seqDesired n = false
    · rw [if_pos dropped, if_pos (show n.isUp = true ∧ _ from ⟨dropped.1, desired.trans dropped.2⟩)]
      rfl
    · rw [if_neg dropped, if_neg (fun h => dropped ⟨h.1, desired.symm.trans h.2⟩)]
      exact State.nextStep_passed (e := s.claimsTaken) n run rfl

end Sys2Proof.Machine

namespace Sys2Proof.Machine

/-! ## The beginning of a step -/

/-- The boundary reads the engine, the controller's state, the requests and the plan, and nothing else. -/
theorem State.passed_of_same {s t : State} (n : SlotName) (eng : t.eng = s.eng) (boc : t.boc.state = s.boc.state)
    (run : t.sense.runReq = s.sense.runReq) (panel : t.sense.panelReq = s.sense.panelReq) (plan : t.plan = s.plan) :
    t.passed n = s.passed n := by
  have claims : t.claimsTaken = s.claimsTaken := by simp only [State.claimsTaken, eng, boc, run, panel]
  have desired (e : Engine) : ({ t with eng := e } : State).seqDesired n = ({ s with eng := e } : State).seqDesired n := by
    cases n <;> simp only [State.seqDesired, State.boardDesired, State.panelDesired, run, panel]
  unfold State.passed
  simp only [claims, boc, desired]
  rw [plan]

/-- A step that completes leaves the quiet hold released, whether it stood or not (R35). -/
theorem State.passed_beginning (s : State) (n : SlotName) : ({ s with eng := s.beginning } : State).passed n = s.passed n := by
  have claims : ({ s with eng := s.beginning } : State).claimsTaken = { s.claimsTaken with quietHold := false } := rfl
  have desired : ({ s with eng := { s.claimsTaken with quietHold := false } } : State).seqDesired n =
      ({ s with eng := s.claimsTaken } : State).seqDesired n := by cases n <;> rfl
  simp only [State.passed, claims, desired]
  rfl

/-- The lines a step drives stay as it drove them over its boundary. -/
theorem State.passed_lines (s : State) (n : SlotName) (v : Vector Bool 6) :
    ({ s with eng := { s.eng with lines := v } } : State).passed n = { s.passed n with lines := v } := by
  have claims : ({ s with eng := { s.eng with lines := v } } : State).claimsTaken = { s.claimsTaken with lines := v } := rfl
  have desired : ({ s with eng := { s.claimsTaken with lines := v } } : State).seqDesired n =
      ({ s with eng := s.claimsTaken } : State).seqDesired n := by cases n <;> rfl
  simp only [State.passed, claims, desired, Engine.passed]
  split
  · rfl
  · split
    · rfl
    · split <;> rfl

theorem Engine.unclaimed {e : Engine} (claims : e.claimBoard = false ∧ e.claimPanel = false) :
    ({ e with claimBoard := false, claimPanel := false } : Engine) = e := by
  obtain ⟨hb, hp⟩ := claims
  cases e
  simp_all

theorem State.claimsTaken_of_none {s : State} (claims : s.eng.claimBoard = false ∧ s.eng.claimPanel = false) :
    s.claimsTaken = s.eng := by
  obtain ⟨hb, hp⟩ := claims
  simpa [State.claimsTaken, hb, hp] using Engine.unclaimed ⟨hb, hp⟩

section
variable {s : State} {n : SlotName} {k : StepKind} (ready : StepReady s n k)
include ready

/-- Where the boundary before a step lets it begin, the boundary after it lets the sequence go on (R42). -/
theorem StepReady.goesOn {e : Engine} (claims : e.claimBoard = false ∧ e.claimPanel = false)
    (locks : e.boardLock = s.eng.boardLock ∧ e.panelLock = s.eng.panelLock ∧ e.board = s.eng.board) :
    ({ s with eng := e } : State).passed n = e.passed n (s.plan.slotRange n).count := by
  obtain ⟨lockBoard, lockPanel, board⟩ := locks
  have taken : ({ s with eng := e } : State).claimsTaken = e := State.claimsTaken_of_none (s := { s with eng := e }) claims
  have desired : ({ s with eng := e } : State).seqDesired n = s.seqDesired n := by
    cases n <;> simp [State.seqDesired, State.boardDesired, State.panelDesired, lockBoard, lockPanel, board]
  unfold State.passed
  rw [taken]
  cases hup : n.isUp with
  | false => simp
  | true =>
    obtain ⟨normal, wanted⟩ := ready.up hup
    simp [normal, desired, wanted]

theorem StepReady.atStep : s.atStep k = true := by
  simp [State.atStep, ready.applied, ready.running, ready.ready, ready.kind]

theorem StepReady.index : s.eng.index < (s.plan.slotRange n).count := by
  have kind := ready.kind
  unfold State.currentStep at kind
  simp only [ready.slot] at kind
  by_contra beyond
  simp [beyond] at kind

/-- The boundary before a step that is ready, judged again, changes nothing (R42). -/
theorem StepReady.rejudge : s.rejudge = s := by
  unfold State.rejudge
  split
  · rw [ready.slot]
    cases hup : n.isUp with
    | false => simp [hup]
    | true => simp [hup, (ready.up hup).1]
  · rw [State.boundary_eq ready.slot, State.takeClaims_eq, State.claimsTaken_of_none ready.claims]
    have next : s.nextStep n = s := by
      unfold State.nextStep
      rw [if_pos ready.index, ← ready.running, ← ready.ready]
      rfl
    cases hup : n.isUp with
    | false => simp [next]
    | true => simp [(ready.up hup).1, (ready.up hup).2, next]

/-- A step that is ready begins at its command, and the hold of its sequence's beginning is released (R25, R35). -/
theorem StepReady.stepEvent : s.stepEvent k = (({ s with eng := s.beginning } : State).beginStep k).settle := by
  unfold State.stepEvent State.takeStep
  rw [if_pos ready.atStep, ready.rejudge]
  simp only [ready.atStep, if_true]
  rfl

/-- A step that is ready and completes in its beginning. -/
theorem StepReady.stepDone : ({ s with eng := s.beginning } : State).stepDone = { s with eng := s.passed n } := by
  rw [State.stepDone_eq (s := { s with eng := s.beginning }) ready.running ready.slot, State.passed_beginning]

end

end Sys2Proof.Machine

namespace Sys2Proof.Machine

/-! ## The Dimming Path -/

theorem Plan.shedCap_eq (p : Plan) (level : Nat) :
    p.shedCap level = (match level with | 0 => 1000 | 1 => p.cap1 | 2 => p.cap2 | _ => 0) := rfl

/-- A target below the applied cap is taken at once (R66, R67). -/
theorem State.retarget_of_lt {s : State} (h : s.dimTarget < s.dpt.applied) :
    s.retarget = ({ s with dpt := { s.dpt with applied := s.dimTarget, ramp := none } } : State).dimFall := by
  unfold State.retarget
  exact if_pos h

/-- Settles O45: the three orders of the target and the applied cap, and for a fall the state of the measurement. -/
theorem capChangesActAtOnce : Obligations.CapChangesActAtOnce := by
  intro s small t fallen duty until_ cut
  have target : s.dimTarget = t := rfl
  have falls (h : t < s.dpt.applied) : s.retarget = ({ s with dpt := fallen } : State).dimFall := State.retarget_of_lt h
  have cuts (h : cut) : s.retarget = ({ s with dpt := fallen } : State).cutPeriod := by
    rw [falls h.1]
    unfold State.dimFall
    simp only [h.2]
  refine ⟨fun h => ?rises, fun h => ?stays, fun ⟨h, waiting⟩ => ?waits, fun ⟨h, steady⟩ => ?steady,
    fun ⟨h, low⟩ => ?low, fun ⟨h, high, more⟩ => ?more, fun ⟨h, high, past⟩ => ?past⟩
  case rises => exact (if_neg (Nat.lt_asymm h)).trans (if_pos h)
  case stays => exact (if_neg h.not_gt).trans (if_neg h.not_lt)
  case waits =>
    rw [falls h]
    unfold State.dimFall
    simp only [waiting]
  case steady =>
    have below : t ≠ 1000 := by omega
    rw [falls h]
    unfold State.dimFall State.dimSteadyOut
    rcases steady with low | high
    · simp only [low]; rfl
    · simp only [high]
      exact if_neg below
  case low =>
    rw [cuts h]
    exact congrArg (fun d => ({ s with dpt := d } : State)) (if_pos (by simpa [fallen] using low))
  case more =>
    rw [cuts h]
    exact congrArg (fun d => ({ s with dpt := d } : State)) ((if_neg (by simp [fallen, high])).trans (if_pos more))
  case past =>
    rw [cuts h]
    exact congrArg (fun d => ({ s with dpt := d } : State)) ((if_neg (by simp [fallen, high])).trans (if_neg past.not_gt))

/-- At a period start the duty in force is fixed by the duty just measured and the applied cap (R64, R67). -/
theorem State.dimRising_measured {s : State} {start : Nat} (begun : s.sense.dim.start = some start)
    (runs : s.sense.dim.state = .waiting ∨ s.sense.dim.state = .periodic) :
    s.dimRising =
      (s.modSense fun m =>
        { m with dim := ({ m.dim with high := true, lastEdge := s.clock } : DimIn).measure start s.clock }).fixDuty := by
  unfold State.dimRising
  rcases runs with waiting | periodic
  · simp only [waiting, begun]; rfl
  · simp only [periodic, begun]; rfl

/-- The first rising edge of a measurement keeps its count alone (R63). -/
theorem State.dimRising_first {s : State} (waiting : s.sense.dim.state = .waiting) (start : s.sense.dim.start = none) :
    s.dimRising =
      s.modSense fun m =>
        { m with dim := { m.dim with high := true, lastEdge := s.clock, start := some s.clock, fall := none } } := by
  simp only [State.dimRising]
  split
  · rfl
  all_goals simp_all

/-- A falling edge within a measurement keeps its count alone (R63). -/
theorem State.dimFalling_runs {s : State} (runs : s.sense.dim.state = .waiting ∨ s.sense.dim.state = .periodic) :
    s.dimFalling =
      s.modSense fun m => { m with dim := { m.dim with high := false, lastEdge := s.clock, fall := some s.clock } } := by
  simp only [State.dimFalling]
  split
  · rfl
  · rfl
  all_goals simp_all

/-- A steady state has DIM_OUT high only for a high level under an applied cap of 1,000 (R68). -/
theorem State.dimSteadyOut_eq {s : State} (steady : s.sense.dim.state = .steadyLow ∨ s.sense.dim.state = .steadyHigh) :
    s.dimSteadyOut =
      { s with dpt :=
          if s.sense.dim.state = .steadyHigh ∧ s.dpt.applied = 1000 then
            { s.dpt with duty := 1000, outHigh := true, highEnd := none }
          else { s.dpt with duty := 0, outHigh := false, highEnd := none } } := by
  unfold State.dimSteadyOut
  rcases steady with low | high
  · simp [low, State.modDpt]
  · by_cases full : s.dpt.applied = 1000 <;> simp [high, full, State.modDpt]

theorem State.dimSteadyOut_runs {s : State} (runs : s.sense.dim.state = .waiting ∨ s.sense.dim.state = .periodic) :
    s.dimSteadyOut = s := by
  unfold State.dimSteadyOut
  rcases runs with h | h <;> simp [h]

theorem DimState.steady_iff {d : DimState} : d.steady = true ↔ d = .steadyLow ∨ d = .steadyHigh := by
  cases d <;> simp [DimState.steady]

theorem DimState.runs_iff {d : DimState} : d.steady = false ↔ d = .waiting ∨ d = .periodic := by
  cases d <;> simp [DimState.steady]

/-- Settles O46: each command by its guard, with the state of the measurement. -/
theorem dimmingFollowsDimIn : Obligations.DimmingFollowsDimIn := by
  intro at_ due start s released m now up down dark lit steady period duty inForce fixed held target raised ramped after
  have runs (h : ¬ steady) : m.state.steady = false := Bool.eq_false_iff.mpr (mt DimState.steady_iff.mp h)
  have rises (h : m.high = false) : exec (.dimInRisingEdge at_) s = .next (s.reach at_).dimRising :=
    congrArg Host.Outcome.next (if_pos (by simp [released, show s.sense.dim.high = false from h]))
  have drops (h : m.high = true) : exec (.dimInFallingEdge at_) s = .next (s.reach at_).dimFalling :=
    congrArg Host.Outcome.next (if_pos (by simp [released, show s.sense.dim.high = true from h]))
  refine ⟨fun ⟨low, waiting, start⟩ => ?first, fun ⟨low, runs, begun⟩ => ?next, fun ⟨low, stood⟩ => ?leaves,
    fun ⟨high, moves⟩ => ?falls, fun ⟨high, stood⟩ => ?drops, fun moves => ?holds, fun ⟨high, ends⟩ => ?ends,
    fun ⟨ramp, moves⟩ => ?ramps, fun ⟨ramp, stood⟩ => ?steps⟩
  case first =>
    rw [rises low, State.dimRising_first (s := s.reach at_) waiting start]
    rfl
  case next =>
    rw [rises low, State.dimRising_measured (s := s.reach at_) begun runs.symm.symm]
    rfl
  case leaves =>
    rw [rises low]
    unfold State.dimRising
    rcases stood with h | h <;> simp only [State.reach_sense, show s.sense.dim.state = _ from h] <;> rfl
  case falls =>
    rw [drops high, State.dimFalling_runs (s := s.reach at_) (DimState.runs_iff.mp (runs moves))]
    rfl
  case drops =>
    rw [drops high]
    unfold State.dimFalling
    rcases stood with h | h <;> simp only [State.reach_sense, show s.sense.dim.state = _ from h] <;> rfl
  case holds =>
    refine congrArg Host.Outcome.next ((if_pos ?_).trans ?_)
    · simp [released, show s.sense.dim.state.steady = false from runs moves]
    · unfold State.dimBecomesSteady
      rw [State.dimSteadyOut_eq (by simp only [State.modSense_sense]; split <;> simp)]
      have level : (if m.high = true then DimState.steadyHigh else .steadyLow) = .steadyHigh ↔ m.high = true := by
        split <;> simp_all
      change ({ s with
          clock := _, sense := _
          dpt := if (if m.high = true then DimState.steadyHigh else .steadyLow) = .steadyHigh ∧ s.dpt.applied = 1000
            then _ else _ } : State) = _
      simp only [level]
      rfl
  case ends =>
    refine congrArg Host.Outcome.next ((if_pos ?_).trans ?_)
    · simp [high, ends]
    · rw [ends]; rfl
  case ramps =>
    have expires : exec .rampExpiry s = .next ((s.reach due).rampStep due) := by
      change Host.Outcome.next _ = _
      rw [ramp]
    rw [expires]
    unfold State.rampStep
    rw [State.dimSteadyOut_runs (by exact DimState.runs_iff.mp (runs moves))]
    rfl
  case steps =>
    have expires : exec .rampExpiry s = .next ((s.reach due).rampStep due) := by
      change Host.Outcome.next _ = _
      rw [ramp]
    rw [expires]
    unfold State.rampStep
    rw [State.dimSteadyOut_eq (by exact stood)]
    refine congrArg Host.Outcome.next (congrArg (fun o => ({ s with clock := max s.clock due, dpt := o } : State)) ?_)
    by_cases full : m.state = .steadyHigh ∧ raised = 1000
    · rw [if_pos full]
      exact if_pos full
    · rw [if_neg full]
      exact if_neg full

end Sys2Proof.Machine

namespace Sys2Proof.Machine

/-! ## The steps that name no channel and no line -/

/-- What a fall of the applied cap does to DIM_OUT follows from the Dimming Path, the measurement and the clock (R67). -/
theorem State.dimFall_of_same {s t : State} (d : Dimming) (dim : t.sense.dim = s.sense.dim) (clock : t.clock = s.clock) :
    ({ t with dpt := d } : State).dimFall = { t with dpt := ({ s with dpt := d } : State).dimFall.dpt } := by
  unfold State.dimFall State.dimSteadyOut
  simp only [dim]
  cases hm : s.sense.dim.state with
  | waiting | steadyLow => rfl
  | periodic =>
    simp only [State.cutPeriod, State.modDpt, dim, clock]
  | steadyHigh => by_cases full : d.applied = 1000 <;> simp [full, State.modDpt]

/-- The target acts on the Dimming Path alone, and by the cap, the shed level, the measurement and the clock (R66). -/
theorem State.retarget_of_same {s t : State} (target : t.dimTarget = s.dimTarget) (dpt : t.dpt = s.dpt)
    (dim : t.sense.dim = s.sense.dim) (clock : t.clock = s.clock) : t.retarget = { t with dpt := s.retarget.dpt } := by
  unfold State.retarget
  simp only [target, dpt, State.modDpt]
  by_cases falls : s.dimTarget < s.dpt.applied
  · rw [if_pos falls, if_pos falls]
    exact State.dimFall_of_same _ dim clock
  · rw [if_neg falls, if_neg falls]
    by_cases rises : s.dpt.applied < s.dimTarget
    · rw [if_pos rises, if_pos rises, clock]
    · rw [if_neg rises, if_neg rises]

/-- An engine that passes a step has released its quiet hold, whether it stood or not (R35). -/
theorem Engine.passed_quietHold (e : Engine) (n : SlotName) (count : Nat) :
    ({ e with quietHold := false } : Engine).passed n count = e.passed n count := by
  unfold Engine.passed
  split <;> rfl

/-- A step that is ready, does its work and completes in its beginning: over its boundary the sequence goes on (R25). -/
theorem StepReady.stepDone_at {s t : State} {n : SlotName} {k : StepKind} (ready : StepReady s n k) {e : Engine}
    {hold : Bool} (eng : t.eng = { e with quietHold := hold }) (at_ : e.mode = s.eng.mode ∧ e.slot = s.eng.slot)
    (claims : e.claimBoard = s.eng.claimBoard ∧ e.claimPanel = s.eng.claimPanel)
    (locks : e.boardLock = s.eng.boardLock ∧ e.panelLock = s.eng.panelLock ∧ e.board = s.eng.board)
    (boc : t.boc = s.boc) (sense : t.sense = s.sense) (plan : t.plan = s.plan) :
    t.stepDone = { t with eng := e.passed n (s.plan.slotRange n).count } := by
  obtain ⟨mode, slot⟩ := at_
  obtain ⟨claimBoard, claimPanel⟩ := claims
  have held : ({ e with quietHold := hold } : Engine).passed n (s.plan.slotRange n).count =
      e.passed n (s.plan.slotRange n).count := by
    rw [← Engine.passed_quietHold, ← Engine.passed_quietHold e]
  have passed : t.passed n = e.passed n (s.plan.slotRange n).count := by
    rw [State.passed_of_same (s := { s with eng := { e with quietHold := hold } }) n eng (congrArg _ boc)
      (congrArg _ sense) (congrArg _ sense) plan, ready.goesOn (e := { e with quietHold := hold })
        ⟨claimBoard.trans ready.claims.1, claimPanel.trans ready.claims.2⟩ locks, held]
  rw [State.stepDone_eq (n := n) (by rw [eng]; exact mode.trans ready.running) (by rw [eng]; exact slot.trans ready.slot),
    passed]

/-- The link is free for FLASH_QUIESCE (R48). -/
theorem State.linkFree_iff {s : State} :
    s.linkFree = true ↔ s.flb.inflight = none ∧ s.adu.parked = none ∧ ∀ t, s.flb.tenure = some t → t.owner = .internal := by
  have owner (o : Owner) : ¬ o = .requested ↔ o = .internal := by cases o <;> simp
  unfold State.linkFree
  cases s.flb.tenure <;> simp [owner, and_assoc]

theorem SlotName.descends_iff {n : SlotName} : n.descends = true ↔ n = .panelSwift ∨ n = .boardSwift ∨ n = .trip := by
  cases n <;> simp [SlotName.descends]

theorem State.quiesceStep_eq {s : State} {n : SlotName} (slot : s.eng.slot = some n) :
    s.quiesceStep =
      if n.descends || s.linkFree then (s.modEng fun e => { e with quiesceHold := true }).stepDone
      else s.modEng fun e => { e with quiesceHold := true, step := .linkWait } := by
  unfold State.quiesceStep
  rw [slot]
  rfl

/-- Settles O41: the beginning of each step, and the end of a DELAY. -/
theorem otherStepsRun : Obligations.OtherStepsRun := by
  refine ⟨fun ms due value input active n s => ⟨fun ready => ?delay, fun ⟨run, slot, step⟩ => ?expires,
      fun ⟨ready, met⟩ => ?met, fun ⟨ready, unmet⟩ => ?awaits, fun ready => ?limit⟩,
    fun n s => ⟨fun ⟨ready, lets⟩ => ?quiet, fun ⟨ready, goesOn, busy⟩ => ?waits, fun ready => ?resume,
      fun ready => ?nop⟩⟩
  case delay => exact congrArg Host.Outcome.next ready.stepEvent
  case expires =>
    have ends : exec .delayExpiry s = .next (s.reach due).stepDone.settle := by
      change Host.Outcome.next _ = _
      rw [step]
    rw [ends, State.stepDone_eq (s := s.reach due) run slot, State.passed_of_same n rfl rfl rfl rfl rfl]
    rfl
  case met =>
    refine congrArg Host.Outcome.next (ready.stepEvent.trans (congrArg State.settle ?_))
    exact (if_pos met).trans ready.stepDone
  case awaits =>
    refine congrArg Host.Outcome.next (ready.stepEvent.trans (congrArg State.settle ?_))
    exact if_neg unmet
  case limit =>
    refine congrArg Host.Outcome.next (ready.stepEvent.trans (congrArg State.settle ?_))
    let capped : State := { s with eng := { s.eng with cap := value } }
    let begun : State := { s with eng := { s.beginning with cap := value } }
    have acts : begun.retarget = { begun with dpt := capped.retarget.dpt } := State.retarget_of_same rfl rfl rfl rfl
    change begun.retarget.stepDone = _
    rw [acts]
    exact ready.stepDone_at (e := capped.eng) rfl ⟨rfl, rfl⟩ ⟨rfl, rfl⟩ ⟨rfl, rfl, rfl⟩ rfl rfl rfl
  case quiet =>
    refine congrArg Host.Outcome.next (ready.stepEvent.trans (congrArg State.settle ?_))
    have goes : (n.descends || s.linkFree) = true := by rwa [Bool.or_eq_true, SlotName.descends_iff, State.linkFree_iff]
    exact ((State.quiesceStep_eq (s := { s with eng := s.beginning }) ready.slot).trans (if_pos goes)).trans
      (ready.stepDone_at (e := { s.eng with quiesceHold := true }) rfl ⟨rfl, rfl⟩ ⟨rfl, rfl⟩ ⟨rfl, rfl, rfl⟩ rfl rfl rfl)
  case waits =>
    refine congrArg Host.Outcome.next (ready.stepEvent.trans (congrArg State.settle ?_))
    have stays : ¬ (n.descends || s.linkFree) = true := by
      rw [Bool.or_eq_true, SlotName.descends_iff, State.linkFree_iff]
      exact not_or.mpr ⟨goesOn, busy⟩
    exact (State.quiesceStep_eq (s := { s with eng := s.beginning }) ready.slot).trans (if_neg stays)
  case resume =>
    refine congrArg Host.Outcome.next (ready.stepEvent.trans (congrArg State.settle ?_))
    exact ready.stepDone_at (e := { s.eng with quiesceHold := false }) rfl ⟨rfl, rfl⟩ ⟨rfl, rfl⟩ ⟨rfl, rfl, rfl⟩ rfl rfl rfl
  case nop => exact congrArg Host.Outcome.next (ready.stepEvent.trans (congrArg State.settle ready.stepDone))

end Sys2Proof.Machine

namespace Sys2Proof.Machine

/-! ## Boundaries and suspension -/

/-- Settles O43: the boundary by the direction of the sequence, the controller's state and the domain. -/
theorem boundariesJudgeTheSequence : Obligations.BoundariesJudgeTheSequence := by
  intro n due s slot ends g desired normal count after abandoned judged
  have wanted : desired = ({ s with eng := g } : State).seqDesired n := by cases n <;> rfl
  have passes (h : ends) : exec .delayExpiry s = after (s.passed n) := by
    obtain ⟨run, step⟩ := h
    have expires : exec .delayExpiry s = .next (s.reach due).stepDone.settle := by
      change Host.Outcome.next _ = _
      rw [step]
    rw [expires, State.stepDone_eq (s := s.reach due) run slot, State.passed_of_same n rfl rfl rfl rfl rfl]
    rfl
  have judge (h : judged) : s.engineReact = some s.boundary := by
    obtain ⟨applied, suspended, -, normal, -⟩ := h
    simp [State.engineReact, applied, suspended, show s.boc.state = .normal from normal]
  have bound (h : judged) :
      s.boundary = if desired = false then s.takeClaims.seqEnd else s.takeClaims.nextStep n := by
    obtain ⟨-, -, up, normal, -⟩ := h
    rw [State.boundary_eq slot, wanted]
    simp [up, show s.boc.state = .normal from normal, g]
  have next (h : judged) (yes : desired = true) : s.engineReact = some (s.takeClaims.nextStep n) := by
    rw [judge h, bound h, if_neg (by simp [yes])]
  have index : s.takeClaims.eng.index = s.eng.index := by rw [State.takeClaims_eq]; rfl
  refine ⟨fun ⟨h, down⟩ => ?down, fun ⟨h, up, busy⟩ => ?suspends, fun ⟨h, up, free, no⟩ => ?gives,
    fun ⟨h, up, free, yes⟩ => ?goes, passes, fun ⟨h, yes, more⟩ => ?resumes, fun ⟨h, yes, last⟩ => ?completes,
    fun ⟨h, no⟩ => ?drops⟩
  case down =>
    rw [passes h]
    exact congrArg after ((if_neg (by simp [down])).trans (if_neg (by simp [down])))
  case suspends =>
    rw [passes h]
    exact congrArg after (if_pos ⟨up, busy⟩)
  case gives =>
    rw [passes h]
    exact congrArg after ((if_neg fun w => w.2 free).trans (if_pos ⟨up, wanted ▸ no⟩))
  case goes =>
    rw [passes h]
    exact congrArg after ((if_neg fun w => w.2 free).trans (if_neg (by rw [← wanted]; simp [yes])))
  case resumes =>
    rw [next h yes, State.nextStep, index, State.takeClaims_eq, if_pos more]
    rfl
  case completes =>
    rw [next h yes, State.nextStep, index, State.takeClaims_eq, if_neg (by simpa using last)]
    obtain ⟨-, -, up, -, -⟩ := h
    unfold State.seqComplete
    simp only [State.modEng, Engine.domainsComplete_idled]
    cases n with
    | boardUp | panelUp => simp [abandoned, g]
    | boardDown | panelDown | panelSwift | boardSwift | trip => cases up
  case drops =>
    rw [judge h, bound h, if_pos no, State.takeClaims_eq]
    rfl

/-- What a suspended sequence keeps while the controller is outside NORMAL: everything of the engine, the rails and
DIM_OUT (R47). -/
structure State.Suspends (s t : State) : Prop where
  eng : t.eng = s.eng
  rails : t.rails = s.rails
  dpt : t.dpt = s.dpt
  boc : t.boc.state = s.boc.state
  flight : t.flb.inflight.isSome = s.flb.inflight.isSome

theorem State.takeOffer_inflight {s t : State} (h : s.takeOffer = some t) : t.flb.inflight = s.flb.inflight := by
  unfold State.takeOffer at h
  split at h
  · cases h
  · simp only at h
    (repeat' split at h) <;> cases h <;> rfl

theorem State.linkReact_inflight {s t : State} (h : s.linkReact = some t) : t.flb.inflight = s.flb.inflight := by
  unfold State.linkReact at h
  (repeat' split at h) <;> cases h <;> rfl

theorem Bridge.link_inflight {f g : Bridge} (h : f.link = g.link) : f.inflight.isSome = g.inflight.isSome := by
  obtain ⟨-, -, -, -, flight, -⟩ := Bridge.link_eq_iff.mp h
  exact flight

theorem State.Suspends.react {s t u : State} (h : s.Suspends t)
    (suspended : s.eng.mode = .suspended)
    (busy : s.boc.state = .dip ∨ s.boc.state = .recover ∨ (s.boc.state = .commit ∧ s.flb.inflight.isSome = true))
    (react : t.react = some u) : s.Suspends u := by
  obtain ⟨eng, rails, dpt, boc, flight⟩ := h
  rcases State.react_cases react with r | r | r | r | r | r
  · have same := State.linkReact_inflight r
    obtain ⟨f, rfl⟩ := State.linkReact_frame r
    exact ⟨eng, rails, dpt, boc, (congrArg _ same).trans flight⟩
  · have none : t.bocReact = none := by
      unfold State.bocReact
      rcases busy with h | h | ⟨h, hf⟩ <;> rw [boc, h]
      · simp
      · simp
      · rw [hf] at flight
        simp [Option.isSome_iff_ne_none.mp flight]
    simp [none] at r
  · have none : t.engineReact = none := by
      unfold State.engineReact
      rw [eng, suspended, boc]
      rcases busy with h | h | ⟨h, -⟩ <;> simp [h]
    simp [none] at r
  · have same := Bridge.link_inflight (State.survivalWaitEnd_link r)
    obtain ⟨j, f, v, rfl⟩ := State.survivalWaitEnd_frame r
    exact ⟨eng, rails, dpt, boc, same.trans flight⟩
  · have same := Bridge.link_inflight (State.quietWork_link r)
    obtain ⟨j, f, rfl⟩ := State.quietWork_frame r
    exact ⟨eng, rails, dpt, boc, same.trans flight⟩
  · have same := State.takeOffer_inflight r
    obtain ⟨f, rfl⟩ := State.takeOffer_frame r
    exact ⟨eng, rails, dpt, boc, (congrArg _ same).trans flight⟩

/-- Settles O44: the step's command judges the boundary again and suspends, and nothing that follows of itself acts on a
suspended sequence outside NORMAL. -/
theorem upSequenceSuspendsOutsideNormal : Obligations.UpSequenceSuspendsOutsideNormal := by
  intro k n s applied run slot up step kind busy
  have outside : s.boc.state ≠ .normal := by rcases busy with h | h | ⟨h, -⟩ <;> simp [h]
  have ready : s.atStep k = true := State.atStep_iff.mpr ⟨applied, run, step, kind⟩
  have suspends : s.rejudge = (if s.eng.index = 0 then s else s.takeClaims).suspend := by
    unfold State.rejudge
    split
    · simp [slot, up, outside]
    · rw [State.boundary_eq slot, if_pos ⟨up, outside⟩]
  let u : State := (if s.eng.index = 0 then s else s.takeClaims).suspend
  have taken : s.takeStep k = u := by
    have notReady : u.atStep k = false := by simp [u, State.atStep, State.suspend]
    unfold State.takeStep
    simp only [suspends, u] at notReady ⊢
    simp [notReady]
  have event : exec k.command s = .next u.settle := by
    have command : exec k.command s = .next (s.stepEvent k) := by cases k <;> rfl
    rw [command, State.stepEvent, if_pos ready, taken]
  have kept : u.Suspends u.settle := by
    refine State.settle_keeps (P := u.Suspends) (fun react h => h.react ?_ ?_ react) ⟨rfl, rfl, rfl, rfl, rfl⟩
    · simp [u, State.suspend]
    · have boc : u.boc = s.boc := by simp only [u]; split <;> simp
      have flb : u.flb = s.flb := by simp only [u]; split <;> simp
      rw [boc, flb]
      simpa [Option.isSome_iff_ne_none] using busy
  have acts : ¬ (s.boc.state = .init ∨ s.boc.state = .normal) := by rcases busy with h | h | ⟨h, -⟩ <;> simp [h]
  refine ⟨u.settle, event, ?_⟩
  obtain ⟨eng, rails, dpt, -, -⟩ := kept
  rw [eng, rails, dpt]
  by_cases first : s.eng.index = 0
  · simp [u, first, State.suspend, slot]
  · simp [u, first, State.suspend, slot, State.takeClaims_eq, State.claimsTaken, acts]

end Sys2Proof.Machine

namespace Sys2Proof.Machine

/-! ## The steps that order a channel -/

theorem settleCounts_eq_zero {code : Nat} : settleCounts code = 0 ↔ code = 0 := by
  unfold settleCounts msCounts Config.countsPerMs
  split <;> simp_all

section
variable {s : State} {n : SlotName} {k : StepKind} (ready : StepReady s n k) (ch : Fin 12)
include ready

/-- A RAIL_UP or RAIL_DOWN step whose order is answered at once completes (R26, R27). -/
theorem StepReady.orderTaken_done (d : Channel) :
    ({ s with eng := s.beginning } : State).orderTaken ch ⟨d, some .done, none⟩ =
      { s with rails := s.rails.set ch d, eng := s.passed n } := by
  change ({ s with rails := s.rails.set ch d, eng := s.beginning } : State).stepDone = _
  rw [State.stepDone_eq (s := { s with rails := s.rails.set ch d, eng := s.beginning }) ready.running ready.slot,
    ← State.passed_beginning s n]
  exact congrArg (fun e => ({ s with rails := s.rails.set ch d, eng := e } : State))
    (State.passed_of_same (s := { s with eng := s.beginning }) n rfl rfl rfl rfl rfl)

theorem StepReady.orderTaken_deferred (d : Channel) :
    ({ s with eng := s.beginning } : State).orderTaken ch ⟨d, some .deferred, none⟩ =
      { s with rails := s.rails.set ch d, eng := s.passed n } := ready.orderTaken_done ch d

end

/-- One whose order is pending waits (R26, R27). -/
theorem State.orderTaken_waits (s : State) (ch : Fin 12) (d : Channel) :
    ({ s with eng := s.beginning } : State).orderTaken ch ⟨d, none, none⟩ =
      { s with rails := s.rails.set ch d, eng := { s.beginning with step := .railWait ch } } := rfl

/-! ### A channel takes an order -/

section
variable {e : RailEntry} {c : Channel} {now : Nat}

/-- A channel whose PG does not pass on stays in RISING, and one whose PG is good passes on (R6, R7, R12). -/
theorem Channel.enterRising_stays (stays : e.timed = true ∨ c.pgGood = false) :
    c.enterRising e now =
      ⟨{ c with state := .rising, rise := some (now + e.riseMs * 96000), settle := none, fall := none }, none, none⟩ := by
  unfold Channel.enterRising
  refine if_neg ?_
  rcases stays with h | h <;> simp [h]

theorem Channel.enterRising_settles (passes : ¬ (e.timed = true ∨ c.pgGood = false)) (slow : e.settle ≠ 0) :
    c.enterRising e now =
      ⟨{ c with state := .settling, rise := none, settle := some (now + settleCounts e.settle), fall := none },
        none, none⟩ := by
  unfold Channel.enterRising
  refine (if_pos (by simpa using passes)).trans ?_
  exact if_neg (mt settleCounts_eq_zero.mp slow)

theorem Channel.enterRising_on (passes : ¬ (e.timed = true ∨ c.pgGood = false)) (fast : e.settle = 0) :
    c.enterRising e now =
      ({ c with rise := some (now + e.riseMs * 96000) } : Channel).enterOn := by
  unfold Channel.enterRising
  refine (if_pos (by simpa using passes)).trans ?_
  exact if_pos (settleCounts_eq_zero.mpr fast)

/-- A channel whose PG does not pass on stays in FALLING, and one whose PG is not-good passes on (R10 to R12). -/
theorem Channel.enterFalling_stays (stays : e.timed = true ∨ c.pgGood = true) :
    c.enterFalling e now =
      ⟨{ c with state := .falling, rise := none, settle := none, fall := some (now + e.fallMs * 96000) }, none, none⟩ := by
  unfold Channel.enterFalling
  refine if_neg ?_
  rcases stays with h | h <;> simp [h]

theorem Channel.enterFalling_off (passes : ¬ (e.timed = true ∨ c.pgGood = true)) :
    c.enterFalling e now = ({ c with fall := some (now + e.fallMs * 96000) } : Channel).enterOff := by
  unfold Channel.enterFalling
  exact if_pos (by simpa using passes)

end

/-- A channel that is to rise: OFF or FALLING, and not shed (R13). -/
theorem Channel.takeEnable_rises {e : RailEntry} {c : Channel} (now : Nat) (wait : Bool)
    (down : c.state = .off ∨ c.state = .falling) (free : c.shed = false) :
    c.takeEnable e now wait =
      if wait then ({ c with want := true, order := some .enable } : Channel).enterRising e now
      else { ({ c with want := true } : Channel).enterRising e now with answer := some .done } := by
  unfold Channel.takeEnable
  rcases down with h | h <;> simp [h, free]

/-- A channel that is to fall: RISING, SETTLING or ON (R14). -/
theorem Channel.takeDisable_falls {e : RailEntry} {c : Channel} (now : Nat) (wait : Bool)
    (up : c.state = .rising ∨ c.state = .settling ∨ c.state = .on) :
    c.takeDisable e now wait =
      if wait then ({ c with want := false, order := some .disable } : Channel).enterFalling e now
      else { ({ c with want := false } : Channel).enterFalling e now with answer := some .done } := by
  unfold Channel.takeDisable
  rcases up with h | h | h <;> simp [h]

/-- Settles O38: the channel after its order by its state, and the step's end or wait by the answer. -/
theorem railStepsOrderTheirChannel : Obligations.RailStepsOrderTheirChannel := by
  refine ⟨fun ch wait n s ready free => ?up, fun ch wait n s ready free => ?down⟩
  case up =>
    intro c e done waits down stays rising settling
    have takes {st : ChanStep} {t : State} (order : c.takeEnable e s.clock wait = st)
        (taken : ({ s with eng := s.beginning } : State).orderTaken ch st = t) :
        exec (.railUp ch wait) s = .next t.settle := by
      refine congrArg Host.Outcome.next (ready.stepEvent.trans (congrArg State.settle ?_))
      rw [← taken, ← order]
      rfl
    refine ⟨fun on => ?on, fun ⟨way, w⟩ => ?wait, fun ⟨way, w⟩ => ?way, fun ⟨h, shed⟩ => ?shed,
      fun ⟨h, kept, st, w⟩ => ?rise, fun ⟨h, kept, st, w⟩ => ?rises, fun ⟨h, kept, st, slow, w⟩ => ?settle,
      fun ⟨h, kept, st, slow, w⟩ => ?settles, fun ⟨h, kept, st, fast⟩ => ?passes⟩
    case on => exact takes (by simp [Channel.takeEnable, on]) (ready.orderTaken_done ch _)
    case wait =>
      refine takes ?_ (s.orderTaken_waits ch _)
      rcases way with h | h <;> simp [Channel.takeEnable, h, w, ChanStep.same]
    case way =>
      refine takes ?_ (ready.orderTaken_done ch _)
      rcases way with h | h <;> simp [Channel.takeEnable, h, w]
    case shed =>
      refine takes ?_ (ready.orderTaken_deferred ch _)
      rcases h with h | h <;> simp [Channel.takeEnable, h, shed]
    case rise =>
      refine takes ((Channel.takeEnable_rises s.clock wait h kept).trans (if_pos w) |>.trans ?_) (s.orderTaken_waits ch _)
      exact Channel.enterRising_stays st
    case rises =>
      refine takes ((Channel.takeEnable_rises s.clock wait h kept).trans (if_neg (by simp [w]))) ?_
      rw [Channel.enterRising_stays (by exact st)]
      exact ready.orderTaken_done ch _
    case settle =>
      refine takes ((Channel.takeEnable_rises s.clock wait h kept).trans (if_pos w) |>.trans ?_) (s.orderTaken_waits ch _)
      exact Channel.enterRising_settles st slow
    case settles =>
      refine takes ((Channel.takeEnable_rises s.clock wait h kept).trans (if_neg (by simp [w]))) ?_
      rw [Channel.enterRising_settles (by exact st) slow]
      exact ready.orderTaken_done ch _
    case passes =>
      refine takes (st := ⟨{ rising with state := .on, rise := none }, some .done, none⟩) ?_ (ready.orderTaken_done ch _)
      rw [Channel.takeEnable_rises s.clock wait h kept, Channel.enterRising_on (by exact st) fast,
        Channel.enterRising_on (by exact st) fast]
      simp [Channel.enterOn, Channel.answerIf, rising, show c.order = none from free]
  case down =>
    intro c e done waits up stays falling
    have takes {st : ChanStep} {t : State} (order : c.takeDisable e s.clock wait = st)
        (taken : ({ s with eng := s.beginning } : State).orderTaken ch st = t) :
        exec (.railDown ch wait) s = .next t.settle := by
      refine congrArg Host.Outcome.next (ready.stepEvent.trans (congrArg State.settle ?_))
      rw [← taken, ← order]
      rfl
    refine ⟨fun off => ?off, fun fault => ?fault, fun ⟨way, w⟩ => ?wait, fun ⟨way, w⟩ => ?way,
      fun ⟨h, st, w⟩ => ?fall, fun ⟨h, st, w⟩ => ?falls, fun ⟨h, st⟩ => ?passes⟩
    case off => exact takes (by simp [Channel.takeDisable, off]) (ready.orderTaken_done ch _)
    case fault => exact takes (by simp [Channel.takeDisable, fault]) (ready.orderTaken_done ch _)
    case wait => exact takes (by simp [Channel.takeDisable, way, w, ChanStep.same]) (s.orderTaken_waits ch _)
    case way => exact takes (by simp [Channel.takeDisable, way, w]) (ready.orderTaken_done ch _)
    case fall =>
      refine takes ((Channel.takeDisable_falls s.clock wait h).trans (if_pos w) |>.trans ?_) (s.orderTaken_waits ch _)
      exact Channel.enterFalling_stays st
    case falls =>
      refine takes ((Channel.takeDisable_falls s.clock wait h).trans (if_neg (by simp [w]))) ?_
      rw [Channel.enterFalling_stays (by exact st)]
      exact ready.orderTaken_done ch _
    case passes =>
      refine takes (st := ⟨{ falling with state := .off, fall := none }, some .done, none⟩) ?_ (ready.orderTaken_done ch _)
      rw [Channel.takeDisable_falls s.clock wait h, Channel.enterFalling_off (by exact st),
        Channel.enterFalling_off (by exact st)]
      simp [Channel.enterOff, Channel.answerIf, falling, show c.order = none from free]

end Sys2Proof.Machine

namespace Sys2Proof.Machine

/-! ## The steps that drive a line -/

/-- The bridge after a line is driven: the MAIN_RESET line going active drops the fail report, and going inactive in IGNORE
with an operation under way bars the next (R141, R142). -/
def State.lineLink (s : State) (l : Fin 6) (a : Bool) : Bridge :=
  if s.plan.mainLine = some l ∧ s.eng.lines[l] ≠ a then
    if a then { s.flb with failReport := none, barred := false }
    else { s.flb with barred := s.flb.mode == .ignore && (s.flb.issue.isSome || s.flb.inflight.isSome) }
  else s.flb

theorem State.driveLine_eq (s : State) (l : Fin 6) (a : Bool) :
    s.driveLine l a = { s with eng := { s.eng with lines := s.eng.lines.set l a }, flb := s.lineLink l a } := by
  unfold State.driveLine State.lineLink
  by_cases stays : s.eng.lines[l] = a
  · rw [if_pos stays, if_neg fun h => h.2 stays]
    have same : s.eng.lines.set l a = s.eng.lines := by rw [← stays]; exact Vector.set_getElem_self ..
    rw [same]
  · rw [if_neg stays]
    by_cases main : s.plan.mainLine = some l
    · cases a <;> simp [main, stays, State.lineActive, State.lineInactive, State.modEng, State.modFlb]
    · simp [main, State.modEng]

theorem State.quietEnding_line {s : State} {l : Fin 6} {a : Bool} :
    s.quietEnding (.line l a) = true ↔ s.eng.board ≠ .down ∧ s.plan.mainLine = some l ∧ a = false := by
  simp [State.quietEnding]

theorem State.quietEnding_pulse {s : State} {l : Fin 6} {ms : Nat} :
    s.quietEnding (.linePulse l ms) = true ↔ s.eng.board ≠ .down ∧ s.plan.mainLine = some l := by
  simp [State.quietEnding]

theorem State.internalWork_iff {s : State} : s.internalWork = true ↔ s.jnu.work.any (fun w => w.whileQuiet) = true := by
  unfold State.internalWork
  cases s.jnu.work <;> simp

/-- A LINE step drives its line, and completes. -/
theorem State.performLine_line {s : State} {l : Fin 6} {a : Bool} (kind : s.currentStep.map Step.kind = some (.line l a)) :
    s.performLine = (s.driveLine l a).stepDone := by
  obtain ⟨st, cur, kind⟩ := Option.map_eq_some_iff.mp kind
  obtain ⟨k, b⟩ := st
  obtain rfl : k = .line l a := kind
  unfold State.performLine
  simp only [cur]

/-- A LINE_PULSE step drives its line active until the end of its pulse. -/
theorem State.performLine_pulse {s : State} {l : Fin 6} {ms : Nat}
    (kind : s.currentStep.map Step.kind = some (.linePulse l ms)) :
    s.performLine = (s.driveLine l true).modEng fun e => { e with step := .pulsing l (s.clock + msCounts ms) } := by
  obtain ⟨st, cur, kind⟩ := Option.map_eq_some_iff.mp kind
  obtain ⟨k, b⟩ := st
  obtain rfl : k = .linePulse l ms := kind
  unfold State.performLine
  simp only [cur]

/-- A LINE or LINE_PULSE step that would end quiet holds it, and waits for internal work begun in it (R35). -/
theorem State.lineStep_beginning (s : State) (k : StepKind) :
    ({ s with eng := s.beginning } : State).lineStep k =
      if s.quietEnding k = true ∧ s.internalWork = true then
        { s with eng := { s.eng with quietHold := true, step := .lineWait } }
      else ({ s with eng := { s.eng with quietHold := s.quietEnding k } } : State).performLine := by
  have ending : ({ s with eng := s.beginning } : State).quietEnding k = s.quietEnding k := rfl
  have work : ({ s with eng := s.beginning } : State).internalWork = s.internalWork := rfl
  unfold State.lineStep
  rw [ending, work]
  cases s.quietEnding k <;> cases s.internalWork <;> rfl

/-- Settles O40: whether the step waits for the end of internal work, and the line as `State.driveLine_eq` says. -/
theorem lineStepsDriveTheirLine : Obligations.LineStepsDriveTheirLine := by
  refine ⟨fun ctl active n s ready => ⟨fun free => ?line, fun ⟨up, main, off, work⟩ => ?lineWaits⟩,
    fun ctl ms due n s => ⟨fun ⟨ready, free⟩ => ?pulse, fun ⟨ready, ends, work⟩ => ?pulseWaits,
      fun ⟨run, slot, step⟩ => ?ends⟩⟩
  case line =>
    refine congrArg Host.Outcome.next (ready.stepEvent.trans (congrArg State.settle ?_))
    refine (State.lineStep_beginning s (.line ctl active)).trans ((if_neg fun h => free ?_).trans ?_)
    · obtain ⟨up, main, off⟩ := State.quietEnding_line.mp h.1
      exact ⟨up, main, off, State.internalWork_iff.mp h.2⟩
    · rw [State.performLine_line (by exact ready.kind), State.driveLine_eq]
      exact ready.stepDone_at (e := { s.eng with lines := s.eng.lines.set ctl active }) rfl ⟨rfl, rfl⟩ ⟨rfl, rfl⟩
        ⟨rfl, rfl, rfl⟩ rfl rfl rfl
  case lineWaits =>
    refine congrArg Host.Outcome.next (ready.stepEvent.trans (congrArg State.settle ?_))
    exact (State.lineStep_beginning s _).trans
      (if_pos ⟨State.quietEnding_line.mpr ⟨up, main, off⟩, State.internalWork_iff.mpr work⟩)
  case pulse =>
    refine congrArg Host.Outcome.next (ready.stepEvent.trans (congrArg State.settle ?_))
    refine (State.lineStep_beginning s (.linePulse ctl ms)).trans ((if_neg fun h => free ?_).trans ?_)
    · exact ⟨State.quietEnding_pulse.mp h.1, State.internalWork_iff.mp h.2⟩
    · have hold : s.quietEnding (.linePulse ctl ms) = decide (s.eng.board ≠ .down ∧ s.plan.mainLine = some ctl) := by
        rw [Bool.eq_iff_iff, State.quietEnding_pulse, decide_eq_true_iff]
      rw [State.performLine_pulse (by exact ready.kind), State.driveLine_eq, hold]
      rfl
  case pulseWaits =>
    refine congrArg Host.Outcome.next (ready.stepEvent.trans (congrArg State.settle ?_))
    exact (State.lineStep_beginning s _).trans
      (if_pos ⟨State.quietEnding_pulse.mpr ends, State.internalWork_iff.mpr work⟩)
  case ends =>
    have expires : exec .linePulseExpiry s = .next ((s.reach due).driveLine ctl false).stepDone.settle := by
      change Host.Outcome.next _ = _
      rw [step]
    rw [expires, State.driveLine_eq]
    refine congrArg Host.Outcome.next (congrArg State.settle ((State.stepDone_eq (n := n) (by exact run) (by exact slot)).trans ?_))
    rw [← State.passed_lines s n, State.passed_of_same n rfl rfl rfl rfl rfl]
    rfl

end Sys2Proof.Machine

namespace Sys2Proof.Machine

/-! ## Step failures and filtered inputs -/

/-- A record offered joins the journal as `Journal.offered` says (R167). -/
theorem State.offerRecord_eq (s : State) (b : RecordBody) :
    s.offerRecord b = { s with jnu := s.jnu.offered s.plan [⟨b, s.boc.state, s.sense.uptime⟩] } := by
  unfold State.offerRecord State.addLost Journal.offered Journal.offered Config.queueSlots
  by_cases journal : s.plan.sectorCount = 0
  · simp [Plan.hasJournal, journal]
  · by_cases room : s.jnu.queue.length < 8 <;> simp [Plan.hasJournal, journal, room, State.modJnu]

/-- The engine after an up sequence is abandoned for a failed step: IDLE, its lockouts set while their clearing requests
are active (R38, R39). -/
def State.abandoned (s : State) (n : SlotName) : Engine :=
  { s.eng with
    mode := .idle, slot := none, index := 0, step := .idle, quiesceHold := false, quietHold := false
    boardLock := if n = .boardUp then s.sense.runReq else s.eng.boardLock
    panelLock := s.sense.runReq && s.sense.panelReq }

theorem State.lockForFailure_seqEnd {s : State} {n : SlotName} (up : n.isUp = true) :
    (s.lockForFailure n).seqEnd = { s with eng := s.abandoned n } := by
  cases n with
  | boardUp | panelUp => rfl
  | boardDown | panelDown | panelSwift | boardSwift | trip => cases up

/-- A step that fails is recorded; an up sequence whose step says ABANDON ends, and every other goes on (R39). -/
theorem State.stepFail_eq {s : State} {n : SlotName} {st : Step} (cause : FailCause) (run : s.eng.mode = .running)
    (slot : s.eng.slot = some n) (step : s.currentStep = some st) :
    s.stepFail cause =
      { s with
        jnu := s.jnu.offered s.plan
          [⟨.stepFail n s.eng.index st.kind.code st.kind.target cause (n.isUp && st.abandon), s.boc.state, s.sense.uptime⟩]
        eng := if n.isUp && st.abandon then s.abandoned n else s.passed n } := by
  unfold State.stepFail
  simp only [slot, step, State.offerRecord_eq]
  by_cases abandon : (n.isUp && st.abandon) = true
  · obtain ⟨up, -⟩ := Bool.and_eq_true_iff.mp abandon
    rw [if_pos abandon, if_pos abandon, State.lockForFailure_seqEnd up]
    rfl
  · rw [if_neg abandon, if_neg abandon, State.stepDone_eq (n := n) (by exact run) (by exact slot),
      State.passed_of_same (s := s) n rfl rfl rfl rfl rfl]
    rfl

/-- Settles O39: a RAIL_UP on a channel in FAULT is answered at once, and an AWAIT that times out fails at its expiry. -/
theorem failedStep : Obligations.FailedStep := by
  intro ch wait kind input active due n st s cur
  refine ⟨fun ⟨ready, fault, why⟩ => ?rail, fun ⟨⟨run, slot, step⟩, code, target⟩ => ?await⟩
  case rail =>
    refine congrArg Host.Outcome.next (ready.stepEvent.trans (congrArg State.settle ?_))
    have order : (s.rail ch).takeEnable (s.railEntry ch) s.clock wait =
        ⟨{ s.rail ch with want := true }, some .failed, none⟩ := by simp [Channel.takeEnable, fault]
    let failed : State := { s with rails := s.rails.set ch { s.rail ch with want := true }, eng := s.beginning }
    have same : st.kind = .railUp ch wait := by simpa [cur] using ready.kind
    have why' : failed.railCause ch = .fault kind := by
      have rail : failed.rail ch = { s.rail ch with want := true } := State.setRail_rail_self s ch _
      simp [State.railCause, rail, why]
    have taken : ({ s with eng := s.beginning } : State).beginStep (.railUp ch wait) =
        failed.stepFail (failed.railCause ch) := by
      change ({ s with eng := s.beginning } : State).orderTaken ch ((s.rail ch).takeEnable (s.railEntry ch) s.clock wait) = _
      rw [order]
      rfl
    have passed : failed.passed n = s.passed n :=
      (State.passed_of_same (s := { s with eng := s.beginning }) n rfl rfl rfl rfl rfl).trans (State.passed_beginning s n)
    rw [taken, why', State.stepFail_eq (s := failed) (n := n) (.fault kind) ready.running ready.slot cur, same, passed]
    rfl
  case await =>
    have expires : exec .awaitTimeout s = .next ((s.reach due).stepFail .timeout).settle := by
      change Host.Outcome.next _ = _
      rw [step]
    rw [expires, State.stepFail_eq (s := s.reach due) (n := n) .timeout run slot cur, code, target,
      State.passed_of_same (s := s) n rfl rfl rfl rfl rfl]
    rfl

theorem filterCounts_eq (code : Nat) : filterCounts code = [384, 3072, 24576].getD code 196608 := by
  match code with
  | 0 | 1 | 2 => rfl
  | n + 3 => rfl

/-- A state with the plan applied and every block at its value for part reset. -/
def State.atRest : State := { State.reset with load := { Loader.reset with phase := some .applied } }

/-- Refutes O37: the clause of an AUX change that no AWAIT step waits for says of every applied state, without a premise,
that the input changes (its "∀ d, … → …" takes in the whole conclusion). With the pin of AUX 0 at its inactive level and
the filtered input inactive, it does not. -/
theorem not_filteredInputsChange : ¬ Obligations.FilteredInputsChange := by
  intro h
  obtain ⟨⟨changes, -⟩, -⟩ := h.2.1 0 ⟨State.atRest.plan.aux0.activeLow, 0⟩ .boardUp 0 State.atRest rfl
  exact changes (by decide)

end Sys2Proof.Machine

namespace Sys2Proof.Machine

/-! ## The bus collapse -/

/-- Refutes O35: its last clause says of every state of its premises, without one of its own, that the controller is in
NORMAL, DIP, RECOVER or COMMIT (its "∀ ch, … → …" takes in the whole conclusion). At plan application the controller is in
INIT. -/
theorem not_busCollapseDescends : ¬ Obligations.BusCollapseDescends := by
  intro h
  let s : State := { State.atRest with sense := { State.atRest.sense with collapse := true } }
  obtain ⟨-, -, -, -, -, -, -, -, -, -, -, acting, -⟩ := h s rfl rfl (by decide)
  exact absurd acting (by decide)

end Sys2Proof.Machine

namespace Sys2Proof.Machine

/-! ## What the engine does of itself -/

theorem DomainState.goUp_eq (d : DomainState) : d.goUp = if d = .down then .goingUp else d := by cases d <;> rfl

theorem DomainState.goDown_eq (d : DomainState) : d.goDown = d.falls := by cases d <;> rfl

/-- A sequence that begins stands before its first step, and one without steps completes at once (R24, R37, R41). -/
theorem Engine.begun_eq (e : Engine) (n : SlotName) (count : Nat) :
    e.begun n count =
      if count = 0 then ((e.domainsBegin n).domainsComplete n).idled
      else { e.domainsBegin n with mode := .running, slot := some n, index := 0, step := .ready } := by
  unfold Engine.begun Engine.passed
  by_cases empty : count = 0
  · simp only [empty, if_true, Nat.not_lt_zero, if_false, Engine.domainsComplete_idled]
    cases n <;> simp only [Engine.domainsBegin, DomainState.goUp_eq, DomainState.goDown_eq]
  · simp only [empty, if_false]
    cases n <;> simp only [Engine.domainsBegin, DomainState.goUp_eq, DomainState.goDown_eq]

theorem State.seqStart_eq (s : State) (n : SlotName) :
    s.seqStart n = { s with eng := s.eng.begun n (s.plan.slotRange n).count } := by
  unfold State.seqStart
  rw [Engine.begun_eq]
  split <;> rfl

theorem State.boardDesired_iff {s : State} : s.boardDesired = true ↔ s.sense.runReq = true ∧ s.eng.boardLock = false := by
  simp [State.boardDesired]

theorem State.panelDesired_iff {s : State} : s.panelDesired = true ↔
    s.sense.runReq = true ∧ s.sense.panelReq = true ∧ s.eng.board = .up ∧ s.eng.panelLock = false := by
  simp [State.panelDesired, and_assoc]

section
variable {s : State} (applied : s.applied = true) (idle : s.eng.mode = .idle)
include applied idle

theorem State.engineReact_begin {n : SlotName} (chosen : s.choice = some (.begin n)) :
    s.engineReact = some (s.seqBegin n) := by
  simp [State.engineReact, applied, idle, chosen]

theorem State.engineReact_claims (chosen : s.choice = some .takeClaims) : s.engineReact = some s.takeClaims := by
  simp [State.engineReact, applied, idle, chosen]

theorem State.engineReact_none (chosen : s.choice = none) : s.engineReact = none := by
  simp [State.engineReact, applied, idle, chosen]

end

/-! ### The rows of the choice table (R41) -/

section
variable {s : State}

theorem State.choice_ofTrip {o : ClaimOrigin} (trip : s.eng.trip = some o) : s.choice = some (.begin .trip) := by
  simp [State.choice, trip]

section
variable (trip : s.eng.trip = none) (descent : s.eng.descent = true)
include trip descent

theorem State.choice_ofPanelSwift (panel : s.eng.panel ≠ .down) : s.choice = some (.begin .panelSwift) := by
  simp [State.choice, trip, descent, panel]

theorem State.choice_ofBoardSwift (panel : s.eng.panel = .down) (board : s.eng.board ≠ .down) :
    s.choice = some (.begin .boardSwift) := by
  simp [State.choice, trip, descent, panel, board]

theorem State.choice_ofDescended (panel : s.eng.panel = .down) (board : s.eng.board = .down) : s.choice = none := by
  simp [State.choice, trip, descent, panel, board]

end

theorem State.choice_ofClaims (trip : s.eng.trip = none) (descent : s.eng.descent = false)
    (claims : s.eng.claimBoard = true ∨ s.eng.claimPanel = true) : s.choice = some .takeClaims := by
  simp [State.choice, trip, descent, claims]

section
variable (free : s.eng.trip = none ∧ s.eng.descent = false ∧ ¬ (s.eng.claimBoard = true ∨ s.eng.claimPanel = true))
include free

theorem State.choice_ofPanelDown (panel : s.eng.panel ≠ .down)
    (unwanted : s.panelDesired = false ∨ (s.eng.board ≠ .down ∧ s.boardDesired = false)) :
    s.choice = some (.begin .panelDown) := by
  obtain ⟨trip, descent, claims⟩ := free
  cases hp : s.panelDesired with
  | false => simp [State.choice, trip, descent, claims, panel, hp]
  | true => simp [State.choice, trip, descent, claims, panel, hp, unwanted.resolve_left (by simp [hp])]

theorem State.choice_ofBoardDown (panel : s.eng.panel = .down) (board : s.eng.board ≠ .down)
    (unwanted : s.boardDesired = false) : s.choice = some (.begin .boardDown) := by
  obtain ⟨trip, descent, claims⟩ := free
  simp [State.choice, trip, descent, claims, panel, board, unwanted]

section
variable (stays : (s.eng.panel ≠ .down → s.panelDesired = true) ∧ (s.eng.board ≠ .down → s.boardDesired = true))
include stays

theorem State.choice_ofBoardUp (normal : s.boc.state = .normal) (board : s.eng.board = .down)
    (wanted : s.boardDesired = true) : s.choice = some (.begin .boardUp) := by
  obtain ⟨trip, descent, claims⟩ := free
  have panel : ¬ (s.eng.panel ≠ .down ∧ s.panelDesired = false) := fun h => by simp [stays.1 h.1] at h
  simp [State.choice, trip, descent, claims, normal, board, wanted, panel]

theorem State.choice_ofPanelUp (normal : s.boc.state = .normal) (board : s.eng.board ≠ .down)
    (panel : s.eng.panel = .down) (wanted : s.panelDesired = true) : s.choice = some (.begin .panelUp) := by
  obtain ⟨trip, descent, claims⟩ := free
  simp [State.choice, trip, descent, claims, normal, board, wanted, panel, stays.2 board]

theorem State.choice_ofRest (rest : s.boc.state ≠ .normal ∨
      ((s.eng.board = .down → s.boardDesired = false) ∧ (s.eng.panel = .down → s.panelDesired = false))) :
    s.choice = none := by
  obtain ⟨trip, descent, claims⟩ := free
  have panel : ¬ (s.eng.panel ≠ .down ∧ s.panelDesired = false) := fun h => by simp [stays.1 h.1] at h
  have board : ¬ (s.eng.board ≠ .down ∧ s.boardDesired = false) := fun h => by simp [stays.2 h.1] at h
  have boardUp : ¬ ((s.boc.state = .normal ∧ s.eng.board = .down) ∧ s.boardDesired = true) := by
    rintro ⟨⟨normal, down⟩, wanted⟩
    simp [normal, down, wanted] at rest
  have panelUp : ¬ ((s.boc.state = .normal ∧ s.eng.panel = .down) ∧ s.panelDesired = true) := by
    rintro ⟨⟨normal, down⟩, wanted⟩
    simp [normal, down, wanted] at rest
  simp [State.choice, trip, descent, claims, panel, board, boardUp, panelUp]

end
end
end

/-! ### The beginning of the work chosen (R35, R43) -/

theorem State.seqBegin_boardUp_eq {s : State} (board : s.eng.board = .down) :
    s.seqBegin .boardUp =
      if s.mainActive = true then s.seqStart .boardUp
      else if s.internalWork = true then
        { s with eng := { s.eng with quietHold := true, mode := .running, slot := some .boardUp, index := 0, step := .beginWait } }
      else ({ s with eng := { s.eng with quietHold := true } } : State).seqStart .boardUp := by
  unfold State.seqBegin
  cases s.mainActive <;> cases s.internalWork <;> simp [board, State.modEng]

/-- Settles O42: IDLE, the rows of the choice table and what begins; RUNNING, the three waits the engine ends of itself. -/
theorem engineChoosesItsWork : Obligations.EngineChoosesItsWork := by
  refine ⟨fun s applied idle => ?idle, fun ctl active ms n s applied => ?running⟩
  case idle =>
    intro e steps begins tripped locked boardWanted panelWanted claimed free settled boardUp held
    have wantsBoard : s.boardDesired = true ↔ boardWanted := State.boardDesired_iff
    have wantsPanel : s.panelDesired = true ↔ panelWanted := State.panelDesired_iff
    have noBoard (h : ¬ boardWanted) : s.boardDesired = false := Bool.eq_false_iff.mpr (mt wantsBoard.mp h)
    have noPanel (h : ¬ panelWanted) : s.panelDesired = false := Bool.eq_false_iff.mpr (mt wantsPanel.mp h)
    have stays (h : settled) :
        (s.eng.panel ≠ .down → s.panelDesired = true) ∧ (s.eng.board ≠ .down → s.boardDesired = true) :=
      ⟨fun p => wantsPanel.mpr (h.2.1 p), fun b => wantsBoard.mpr (h.2.2 b)⟩
    have begin_ {n : SlotName} (chosen : s.choice = some (.begin n)) (plain : s.seqBegin n = s.seqStart n) :
        s.engineReact = begins n := by
      rw [State.engineReact_begin applied idle chosen, plain, State.seqStart_eq]
    have up (h : boardUp) : s.engineReact = some (s.seqBegin .boardUp) := by
      obtain ⟨h, normal, board, wanted⟩ := h
      exact State.engineReact_begin applied idle
        (State.choice_ofBoardUp h.1 (stays h) normal board (wantsBoard.mpr wanted))
    refine ⟨fun trip => ?rail, fun trip => ?boc, fun ⟨trip, descent, panel⟩ => ?panelSwift,
      fun ⟨trip, descent, panel, board⟩ => ?boardSwift, fun ⟨trip, descent, panel, board⟩ => ?descended,
      fun ⟨trip, descent, claims⟩ => ?claims, fun ⟨h, panel, unwanted⟩ => ?panelDown,
      fun ⟨h, panel, board, unwanted⟩ => ?bothDown, fun ⟨h, panel, board, unwanted⟩ => ?boardDown,
      fun ⟨h, main⟩ => ?boardUp, fun ⟨h, main, done⟩ => ?boardUpHeld, fun ⟨h, main, busy⟩ => ?boardUpWaits,
      fun ⟨h, normal, board, panel, wanted⟩ => ?panelUp, fun ⟨h, rest⟩ => ?none⟩
    case rail =>
      rw [State.engineReact_begin applied idle (State.choice_ofTrip trip)]
      unfold State.seqBegin
      simp only [show s.eng.trip = _ from trip, if_true, State.seqStart_eq]
      rfl
    case boc =>
      rw [State.engineReact_begin applied idle (State.choice_ofTrip trip)]
      unfold State.seqBegin
      simp only [show s.eng.trip = _ from trip, State.seqStart_eq]
      rfl
    case panelSwift => exact begin_ (State.choice_ofPanelSwift trip descent panel) rfl
    case boardSwift => exact begin_ (State.choice_ofBoardSwift trip descent panel board) rfl
    case descended => exact State.engineReact_none applied idle (State.choice_ofDescended trip descent panel board)
    case claims =>
      rw [State.engineReact_claims applied idle (State.choice_ofClaims trip descent claims), State.takeClaims_eq]
    case panelDown => exact begin_ (State.choice_ofPanelDown h panel (.inl (noPanel unwanted))) rfl
    case bothDown => exact begin_ (State.choice_ofPanelDown h panel (.inr ⟨board, noBoard unwanted⟩)) rfl
    case boardDown => exact begin_ (State.choice_ofBoardDown h panel board (noBoard unwanted)) rfl
    case boardUp =>
      rw [up h, State.seqBegin_boardUp_eq h.2.2.1, if_pos main, State.seqStart_eq]
    case boardUpHeld =>
      rw [up h, State.seqBegin_boardUp_eq h.2.2.1, if_neg (by simp [main]), if_neg (by simp [done]), State.seqStart_eq]
    case boardUpWaits =>
      rw [up h, State.seqBegin_boardUp_eq h.2.2.1, if_neg (by simp [main]), if_pos busy]
    case panelUp =>
      exact begin_ (State.choice_ofPanelUp h.1 (stays h) normal board panel (wantsPanel.mpr wanted)) rfl
    case none =>
      exact State.engineReact_none applied idle (State.choice_ofRest h.1 (stays h)
        (rest.imp id fun r => ⟨fun b => noBoard (r.1 b), fun p => noPanel (r.2 p)⟩))
  case running =>
    intro e working free kind count driven bars link beginning
    have work : s.internalWork = true ↔ working := State.internalWork_iff
    have quiet (h : ¬ working) : s.internalWork = false := Bool.eq_false_iff.mpr (mt work.mp h)
    refine ⟨fun ⟨⟨run, slot, step⟩, done, line⟩ => ?line, fun ⟨⟨run, slot, step⟩, done, pulse⟩ => ?pulse,
      fun ⟨run, step, busy⟩ => ?works, fun ⟨⟨run, slot, step⟩, done, normal⟩ => ?begins,
      fun ⟨⟨run, slot, step⟩, done, outside⟩ => ?givenUp, fun ⟨⟨run, slot, step⟩, clear⟩ => ?link,
      fun ⟨run, step, held⟩ => ?waits, fun ⟨run, notLine, notBegin, notLink⟩ => ?rests⟩
    case line =>
      have ends : s.engineReact = some s.performLine := by
        simp [State.engineReact, applied, show s.eng.mode = _ from run, show s.eng.step = _ from step, quiet done]
      rw [ends, State.performLine_line line, State.driveLine_eq]
      refine congrArg some ((State.stepDone_eq (n := n) (by exact run) (by exact slot)).trans ?_)
      rw [← State.passed_lines s n, State.passed_of_same n rfl rfl rfl rfl rfl]
      rfl
    case pulse =>
      have ends : s.engineReact = some s.performLine := by
        simp [State.engineReact, applied, show s.eng.mode = _ from run, show s.eng.step = _ from step, quiet done]
      rw [ends, State.performLine_pulse pulse, State.driveLine_eq]
      rfl
    case works =>
      rcases step with step | step <;>
        simp [State.engineReact, applied, show s.eng.mode = _ from run, show s.eng.step = _ from step, work.mpr busy]
    case begins =>
      have ends : s.engineReact = some (s.seqStart .boardUp) := by
        simp [State.engineReact, applied, show s.eng.mode = _ from run, show s.eng.step = _ from step, quiet done, normal]
      rw [ends, State.seqStart_eq]
    case givenUp =>
      have ends : s.engineReact = some s.seqEnd := by
        simp [State.engineReact, applied, show s.eng.mode = _ from run, show s.eng.step = _ from step, quiet done, outside]
      exact ends
    case link =>
      have ends : s.engineReact = some s.stepDone := by
        simp [State.engineReact, applied, run, step, State.linkFree_iff.mpr clear]
      rw [ends, State.stepDone_eq run slot]
    case waits =>
      have stays : s.linkFree = false := Bool.eq_false_iff.mpr (mt State.linkFree_iff.mp held)
      simp [State.engineReact, applied, show s.eng.mode = _ from run, show s.eng.step = _ from step, stays]
    case rests =>
      cases step : s.eng.step with
      | beginWait => exact absurd step notBegin
      | lineWait => exact absurd step notLine
      | linkWait => exact absurd step notLink
      | idle | ready | railWait _ | delaying _ | pulsing _ _ | awaiting _ _ _ =>
        simp [State.engineReact, applied, show s.eng.mode = _ from run, step]

end Sys2Proof.Machine

namespace Sys2Proof.Machine

/-! ## What follows of itself once the controller has committed -/

/-- The controller's items on its way down from those it committed with: its state, the mains timer and the note of the
SURVIVAL work alone move (R107, R112, R113). -/
def BrownOut.downAs (b : BrownOut) (st : BocState) (mains : Timer) (met : Bool) (v : SurvivalWork) : BrownOut :=
  { b with
    state := st, ride := none, restore := none, heldBoard := false, heldPanel := false
    mains := mains, mainsMet := met, survival := v }

/-- A state on the way down from the items the controller committed with: in COMMIT, or descending. -/
structure State.Down (b : BrownOut) (t : State) : Prop where
  way : t.boc.state = .commit ∨ t.Descending
  kept : ∃ st m mm v, t.boc = b.downAs st m mm v

theorem State.enterDescent_boc (s : State) : s.enterDescent.boc = s.boc.downAs .descent none s.boc.mainsMet s.boc.survival := by
  simp [State.enterDescent, BrownOut.downAs]

theorem State.survivalBegin_boc (s : State) : ∃ v, s.survivalBegin.boc = { s.boc with survival := v } := by
  unfold State.survivalBegin
  split <;> exact ⟨_, rfl⟩

theorem State.enterDark_boc (s : State) : ∃ m v, s.enterDark.boc = s.boc.downAs .dark m false v := by
  obtain ⟨v, boc⟩ := State.survivalBegin_boc (((s.modEng fun e => { e with descent := false }).modBoc fun b =>
    { b with state := .dark, ride := none, restore := none, heldBoard := false, heldPanel := false,
             mains := if s.sense.acOk then some (s.clock + msCounts s.plan.rearmDelayMs) else none,
             mainsMet := false }).parkedAtState)
  exact ⟨_, v, boc.trans (by simp only [State.parkedAtState_frame]; rfl)⟩

theorem State.Down.react {b : BrownOut} {s t : State} (h : s.Down b) (react : s.react = some t) : t.Down b := by
  obtain ⟨way, st, m, mm, v, kept⟩ := h
  have way' : t.boc.state = .commit ∨ t.Descending := by
    rcases way with commit | down
    · rcases State.react_controller react with ⟨state, -⟩ | ⟨state, -⟩ | ⟨-, state⟩ | ⟨state, -⟩ | ⟨state, -⟩
      · exact .inl (state.trans commit)
      · simp [commit] at state
      · exact .inr (.inl state)
      · simp [commit] at state
      · simp [commit] at state
    · exact .inr (down.react react)
  refine ⟨way', ?_⟩
  rcases State.react_cases react with r | r | r | r | r | r
  · obtain ⟨f, rfl⟩ := State.linkReact_frame r; exact ⟨_, _, _, _, kept⟩
  · unfold State.bocReact at r
    split at r
    · cases r
    · split at r <;> rename_i state
      · simp [State.Descending, state] at way
      · split at r <;> cases r
        exact ⟨_, _, _, _, by rw [State.enterDescent_boc, kept]; rfl⟩
      · split at r <;> cases r
        obtain ⟨m', v', dark⟩ := s.enterDark_boc
        exact ⟨_, _, _, _, by rw [dark, kept]; rfl⟩
      · split at r
        · rename_i met
          simp only [Bool.and_eq_true] at met
          simp [State.Descending, state, met.1] at way
        · cases r
      all_goals cases r
  · obtain ⟨e, f, rfl⟩ := State.engineReact_frame r; exact ⟨_, _, _, _, kept⟩
  · obtain ⟨j, f, v', rfl⟩ := State.survivalWaitEnd_frame r
    exact ⟨_, _, _, _, congrArg (fun x : BrownOut => { x with survival := v' }) kept⟩
  · obtain ⟨j, f, rfl⟩ := State.quietWork_frame r; exact ⟨_, _, _, _, kept⟩
  · obtain ⟨f, rfl⟩ := State.takeOffer_frame r; exact ⟨_, _, _, _, kept⟩

theorem State.Down.settle {b : BrownOut} {s : State} (h : s.Down b) : s.settle.Down b :=
  State.settle_keeps (P := fun t => t.Down b) (fun react h => h.react react) h

theorem State.Down.committed {b : BrownOut} {s : State} (h : s.Down b) : s.boc.state.committed = true := by
  rcases h.way with commit | descent | ⟨dark, -⟩ <;> simp [BocState.committed, *]

end Sys2Proof.Machine

namespace Sys2Proof.Machine

/-! ## What the engine and the controller do to a channel in FAULT

Besides the events of a channel, a dropped step withdraws an order and a shed level sets marks; neither takes a channel out
of FAULT. -/

/-- A channel property that no withdrawn order and no shed level ends. -/
structure Channel.Lasting (P : Channel → Prop) : Prop where
  withdraw : ∀ c, P c → P c.withdraw
  shed : ∀ e now level c, P c → P (c.takeShed e now level).chan

section
variable {P : Channel → Prop} (lasting : Channel.Lasting P) {ch : Fin 12}
include lasting

theorem Channel.Lasting.dropStep {s : State} (h : P (s.rail ch)) : P (s.dropStep.rail ch) := by
  unfold State.dropStep
  split
  · rename_i i _
    by_cases same : ch = i
    · subst same
      rw [State.setRail_rail_self]
      exact lasting.withdraw _ h
    · rwa [State.setRail_rail_ne s _ same]
  · simpa [State.rail] using h
  all_goals exact h

theorem Channel.Lasting.preempt {s : State} (h : P (s.rail ch)) : P (s.preempt.rail ch) := by
  have dropped := lasting.dropStep h
  simpa [State.preempt, State.rail] using dropped

theorem Channel.Lasting.placeTrip {s : State} (o : ClaimOrigin) (h : P (s.rail ch)) : P ((s.placeTrip o).rail ch) := by
  unfold State.placeTrip
  split
  · exact h
  · simpa [State.rail] using h
  · split
    · exact h
    · exact lasting.preempt h

theorem Channel.Lasting.placeDescent {s : State} (h : P (s.rail ch)) : P (s.placeDescent.rail ch) := by
  have placed : P ((s.modEng fun e => { e with descent := true }).rail ch) := h
  simp only [State.placeDescent]
  split
  · exact h
  · simpa [State.rail] using h
  · split
    · split
      · exact h
      · exact lasting.preempt placed
    · exact lasting.preempt placed

theorem Channel.Lasting.setShed {s : State} (level : Nat) (h : P (s.rail ch)) : P ((s.setShed level).rail ch) := by
  have delivered : P ((s.deliverShed level).rail ch) := by
    have rail : (s.deliverShed level).rail ch = (s.shedStep level ch).chan := by simp [State.rail]
    rw [rail]
    exact lasting.shed _ _ _ _ h
  rw [State.setShed_eq]
  split
  · exact h
  · split
    · split
      · simpa [State.rail] using delivered
      · exact delivered
    · exact delivered

theorem Channel.Lasting.enterCommit {s : State} (r : CommitReason) (h : P (s.rail ch)) : P ((s.enterCommit r).rail ch) := by
  have shed := lasting.setShed (s := s.modBoc fun b =>
      { b with state := .commit, ride := none, restore := none, heldBoard := false, heldPanel := false,
               reason := r, notes := some s.commitNotes }) 3 h
  simpa [State.enterCommit, State.rail] using shed

theorem Channel.Lasting.bocFault {s : State} (e : RailEntry) (k : FaultKind) (h : P (s.rail ch)) :
    P ((s.bocFault e k).rail ch) := by
  unfold State.bocFault
  split
  · split
    · exact lasting.enterCommit _ h
    · split
      · exact h
      · exact h
  · split
    · exact h
    · exact h
  all_goals exact h

theorem Channel.Lasting.engineFault {s : State} (e : RailEntry) (h : P (s.rail ch)) : P ((s.engineFault e).rail ch) := by
  unfold State.engineFault
  split
  · exact h
  · simpa [State.rail] using h
  · exact lasting.placeTrip _ h

theorem Channel.Lasting.react {s t : State} (h : P (s.rail ch)) (react : s.react = some t) : P (t.rail ch) := by
  rcases State.react_cases react with r | r | r | r | r | r
  · obtain ⟨f, rfl⟩ := State.linkReact_frame r; exact h
  · unfold State.bocReact at r
    split at r
    · cases r
    · split at r
      · split at r <;> cases r
        simpa [State.normalFromInit, State.rail] using h
      · split at r <;> cases r
        have placed := lasting.placeDescent (s := s.modBoc fun b =>
          { b with state := .descent, ride := none, restore := none, mains := none, heldBoard := false,
                   heldPanel := false }) h
        simpa [State.enterDescent, State.rail] using placed
      · split at r <;> cases r
        simpa [State.enterDark, State.rail] using h
      · split at r <;> cases r
        have shed := lasting.setShed (s := s.modBoc fun b =>
          { b with state := .normal, mains := none, mainsMet := false, dip := none, reason := .none, notes := none,
                   acReturned := false, atRisk := none, survival := .notBegun }) 0 h
        unfold State.rearm
        split <;> simpa [State.rail] using shed
      all_goals cases r
  · obtain ⟨e, f, rfl⟩ := State.engineReact_frame r; exact h
  · obtain ⟨j, f, v, rfl⟩ := State.survivalWaitEnd_frame r; exact h
  · obtain ⟨j, f, rfl⟩ := State.quietWork_frame r; exact h
  · obtain ⟨f, rfl⟩ := State.takeOffer_frame r; exact h

theorem Channel.Lasting.settle {s : State} (h : P (s.rail ch)) : P (s.settle.rail ch) :=
  State.settle_keeps (P := fun t => P (t.rail ch)) (fun react h => lasting.react h react) h

/-- A channel's event that faults hands the fault on, and what follows leaves the channel as lasting as it was. -/
theorem Channel.Lasting.chanEvent {s : State} {st : ChanStep} (h : P st.chan) : P ((s.chanEvent ch st).rail ch) := by
  have set : P ((s.setRail ch st.chan).rail ch) := by rwa [State.setRail_rail_self]
  simp only [State.chanEvent]
  generalize s.setRail ch st.chan = t at set
  cases st.fault with
  | none =>
    cases st.answer with
    | none => exact set
    | some a => simpa [State.rail] using set
  | some k =>
    refine lasting.bocFault _ _ (lasting.engineFault _ ?_)
    cases st.answer <;> simpa [State.rail] using set

end

/-- A channel in FAULT of a kind, out of a prior state, its filtered PG at a level. -/
structure Channel.Faulted (k : FaultKind) (p : RailState) (good : Bool) (c : Channel) : Prop where
  state : c.state = .fault
  kind : c.faultKind = some k
  prior : c.prior = some p
  pgGood : c.pgGood = good
  rise : c.rise = none
  settle : c.settle = none
  fall : c.fall = none
  order : c.order = none

theorem Channel.takeShed_fault {c : Channel} (e : RailEntry) (now level : Nat) (fault : c.state = .fault) :
    c.takeShed e now level = .same { c with shed := e.shedAt level } := by
  unfold Channel.takeShed
  by_cases same : e.shedAt level = c.shed
  · rw [if_pos (by simpa using same), same]
  · rw [if_neg (by simpa using same)]
    cases h : e.shedAt level <;> simp [Channel.shedSet, Channel.shedClear, fault]

theorem Channel.faulted_lasting (k : FaultKind) (p : RailState) (good : Bool) :
    Channel.Lasting (Channel.Faulted k p good) := by
  refine ⟨fun c h => ?_, fun e now level c h => ?_⟩
  · obtain ⟨state, kind, prior, pgGood, rise, settle, fall, -⟩ := h
    exact ⟨state, kind, prior, pgGood, rise, settle, fall, rfl⟩
  · rw [Channel.takeShed_fault e now level h.state]
    obtain ⟨state, kind, prior, pgGood, rise, settle, fall, order⟩ := h
    exact ⟨state, kind, prior, pgGood, rise, settle, fall, order⟩

theorem Channel.enterFault_faulted (k : FaultKind) (c : Channel) :
    (c.enterFault k).chan.Faulted k c.state c.pgGood := ⟨rfl, rfl, rfl, rfl, rfl, rfl, rfl, rfl⟩

end Sys2Proof.Machine

namespace Sys2Proof.Machine

/-! ## The events of a channel -/

/-- An event that answers nothing and faults nothing is the channel's alone. -/
theorem State.chanEvent_quiet (s : State) (ch : Fin 12) (d : Channel) :
    s.chanEvent ch ⟨d, none, none⟩ = { s with rails := s.rails.set ch d } := rfl

/-- One that answers the step that waits completes it (R26, R27). -/
theorem State.chanEvent_answered {s : State} {ch : Fin 12} {n : SlotName} (waited : StepUnderWay s n (.railWait ch))
    (d : Channel) :
    s.chanEvent ch ⟨d, some .done, none⟩ = { s with rails := s.rails.set ch d, eng := s.passed n } := by
  let t : State := { s with rails := s.rails.set ch d }
  have answers : s.chanEvent ch ⟨d, some .done, none⟩ = t.stepDone := by
    change t.answerFrom ch .done = _
    unfold State.answerFrom
    rw [show t.eng.step = _ from waited.step]
    exact if_pos rfl
  rw [answers, State.stepDone_eq (s := t) waited.running waited.slot,
    show t.passed n = s.passed n from State.passed_of_same n rfl rfl rfl rfl rfl]

/-- The event that faults a channel leaves it in FAULT, whatever the fault brings about (R20). -/
theorem State.chanEvent_faulted (s : State) (ch : Fin 12) (k : FaultKind) (c : Channel) :
    ((s.chanEvent ch (c.enterFault k)).settle.rail ch).Faulted k c.state c.pgGood :=
  (Channel.faulted_lasting k c.state c.pgGood).settle
    ((Channel.faulted_lasting k c.state c.pgGood).chanEvent (c.enterFault_faulted k))

/-! ### The ends of a channel's ways (R7, R8, R11, R12) -/

theorem Channel.enterOn_free {c : Channel} (free : c.order = none) :
    c.enterOn = ⟨{ c with state := .on, rise := none, settle := none, fall := none }, none, none⟩ := by
  simp [Channel.enterOn, Channel.answerIf, free]

theorem Channel.enterOn_answered {c : Channel} (order : c.order = some .enable) :
    c.enterOn =
      ⟨{ c with state := .on, rise := none, settle := none, fall := none, order := none }, some .done, none⟩ := by
  simp [Channel.enterOn, Channel.answerIf, order]

theorem Channel.enterOff_free {c : Channel} (free : c.order = none) :
    c.enterOff = ⟨{ c with state := .off, rise := none, settle := none, fall := none }, none, none⟩ := by
  simp [Channel.enterOff, Channel.answerIf, free]

theorem Channel.enterOff_answered {c : Channel} (order : c.order = some .disable) :
    c.enterOff =
      ⟨{ c with state := .off, rise := none, settle := none, fall := none, order := none }, some .done, none⟩ := by
  simp [Channel.enterOff, Channel.answerIf, order]

/-- The fall timer's expiry, by whether the rail is seen to have fallen (R11, R12). -/
theorem Channel.fallExpires_off {e : RailEntry} {c : Channel} (falling : c.state = .falling)
    (gone : e.timed = true ∨ c.pgGood = false) : c.fallExpires e = c.enterOff := by
  unfold Channel.fallExpires
  rw [if_pos falling, if_neg (by rcases gone with h | h <;> simp [h])]

theorem Channel.fallExpires_stuck {e : RailEntry} {c : Channel} (falling : c.state = .falling)
    (monitored : e.timed = false) (good : c.pgGood = true) : c.fallExpires e = c.enterFault .stuckOn := by
  unfold Channel.fallExpires
  rw [if_pos falling, if_pos (by simp [monitored, good])]

/-- Settles O30: each timer by the channel's state, with a pending order or without. -/
theorem railTimerExpiries : Obligations.RailTimerExpiries := by
  intro ch due n s c e free now stopped answered waited after faulted
  let u : State := s.reach due
  have rises (h : c.rise = some due) : exec (.riseTimerExpiry ch) s = .next (u.chanEvent ch (c.riseExpires e)).settle := by
    change Host.Outcome.next _ = _
    rw [show (s.rail ch).rise = _ from h]
  have settles (h : c.settle = some due) : exec (.settleTimerExpiry ch) s = .next (u.chanEvent ch c.settleExpires).settle := by
    change Host.Outcome.next _ = _
    rw [show (s.rail ch).settle = _ from h]
  have falls (h : c.fall = some due) : exec (.fallTimerExpiry ch) s = .next (u.chanEvent ch (c.fallExpires e)).settle := by
    change Host.Outcome.next _ = _
    rw [show (s.rail ch).fall = _ from h]
  have alone (d : Channel) : .next (u.chanEvent ch ⟨d, none, none⟩).settle = after d := rfl
  have ends (w : waited) (st : RailState) :
      .next (u.chanEvent ch ⟨{ stopped st with order := none }, some .done, none⟩).settle = answered st := by
    rw [State.chanEvent_answered (s := u) ⟨w.running, w.slot, w.step⟩,
      show u.passed n = s.passed n from State.passed_of_same n rfl rfl rfl rfl rfl]
    rfl
  have faults (k : FaultKind) : faulted (u.chanEvent ch (c.enterFault k)).settle k := by
    obtain ⟨state, kind, prior, -, rise, settle, fall, -⟩ := u.chanEvent_faulted ch k c
    exact ⟨by simp [u, now], state, kind, prior, rise, settle, fall⟩
  refine ⟨fun ⟨f, state, due, timed⟩ => ?on, fun ⟨o, w, state, due, timed⟩ => ?onAnswered,
    fun ⟨state, due, monitored⟩ => ?late, fun ⟨f, state, due⟩ => ?settled, fun ⟨o, w, state, due⟩ => ?settledAnswered,
    fun ⟨f, state, due, gone⟩ => ?off, fun ⟨o, w, state, due, gone⟩ => ?offAnswered,
    fun ⟨state, due, monitored, good⟩ => ?stuck, fun h => ?noRise, fun h => ?noSettle, fun h => ?noFall⟩
  case on =>
    rw [rises due, Channel.riseExpires, if_pos state, if_pos timed, Channel.enterOn_free f]
    exact alone _
  case onAnswered =>
    rw [rises due, Channel.riseExpires, if_pos state, if_pos timed, Channel.enterOn_answered o]
    exact ends w .on
  case late =>
    rw [rises due, Channel.riseExpires, if_pos state, if_neg (by simp [monitored])]
    exact ⟨_, rfl, faults .riseTimeout⟩
  case settled =>
    rw [settles due, Channel.settleExpires, if_pos state, Channel.enterOn_free f]
    exact alone _
  case settledAnswered =>
    rw [settles due, Channel.settleExpires, if_pos state, Channel.enterOn_answered o]
    exact ends w .on
  case off =>
    rw [falls due, Channel.fallExpires_off state gone, Channel.enterOff_free f]
    exact alone _
  case offAnswered =>
    rw [falls due, Channel.fallExpires_off state gone, Channel.enterOff_answered o]
    exact ends w .off
  case stuck =>
    rw [falls due, Channel.fallExpires_stuck state monitored good]
    exact ⟨_, rfl, faults .stuckOn⟩
  case noRise =>
    change Host.Outcome.next _ = _
    rw [show (s.rail ch).rise = none from h]
  case noSettle =>
    change Host.Outcome.next _ = _
    rw [show (s.rail ch).settle = none from h]
  case noFall =>
    change Host.Outcome.next _ = _
    rw [show (s.rail ch).fall = none from h]

/-! ### The filtered PG -/

theorem State.pgFiltered_eq (s : State) (ch : Fin 12) (pin : RawPin) :
    let now := max s.clock
      (max pin.since s.sense.filters.pg[ch] + [384, 3072, 24576].getD (s.railEntry ch).pgFilter 196608)
    s.pgFiltered ch pin =
      { s with
        clock := now
        sense := { s.sense with filters := { s.sense.filters with pg := s.sense.filters.pg.set ch now } } } := by
  simp only [State.pgFiltered, filterCounts_eq]
  rfl

/-- PG that becomes good ends RISING alone (R7, R22). -/
theorem Channel.pgBecomesGood_still {e : RailEntry} {c : Channel} {now : Nat} (state : c.state ≠ .rising) :
    c.pgBecomesGood e now = ⟨{ c with pgGood := true }, none, none⟩ := by
  unfold Channel.pgBecomesGood
  cases h : c.state with
  | rising => exact absurd h state
  | off | settling | on | falling | fault => rfl

theorem Channel.pgBecomesGood_rises {e : RailEntry} {c : Channel} {now : Nat} (state : c.state = .rising) :
    c.pgBecomesGood e now = ({ c with pgGood := true } : Channel).enterSettling e now := by
  unfold Channel.pgBecomesGood
  rw [state]

/-- PG that becomes not-good acts in SETTLING, ON and FALLING alone (R8, R9, R11, R22). -/
theorem Channel.pgBecomesNotGood_still {c : Channel} (idle : c.state = .off ∨ c.state = .rising ∨ c.state = .fault) :
    c.pgBecomesNotGood = ⟨{ c with pgGood := false }, none, none⟩ := by
  unfold Channel.pgBecomesNotGood
  rcases idle with h | h | h <;> rw [h] <;> rfl

theorem Channel.pgBecomesNotGood_falls {c : Channel} (state : c.state = .falling) :
    c.pgBecomesNotGood = ({ c with pgGood := false } : Channel).enterOff := by
  unfold Channel.pgBecomesNotGood
  rw [state]

theorem Channel.pgBecomesNotGood_faults {c : Channel} (up : c.state = .settling ∨ c.state = .on) :
    c.pgBecomesNotGood =
      ({ c with pgGood := false } : Channel).enterFault (if c.state = .on then .dropout else .unstable) := by
  unfold Channel.pgBecomesNotGood
  rcases up with h | h <;> simp [h]

/-- The controller commits with these items; a command parked is then refused (R107, R158). -/
theorem State.enterCommit_boc (s : State) (r : CommitReason) :
    (s.enterCommit r).boc =
      { s.boc with
        state := .commit, ride := none, restore := none, heldBoard := false, heldPanel := false, reason := r
        notes := some s.commitNotes, shedLevel := 3 } := by
  simp only [State.enterCommit, State.parkedAtState_frame, State.setShed_boc, State.modBoc_boc]
  by_cases same : 3 = s.boc.shedLevel
  · exact (if_pos same).trans (by rw [same])
  · exact (if_neg same).trans rfl

theorem State.enterCommit_down (s : State) (r : CommitReason) : (s.enterCommit r).Down (s.enterCommit r).boc :=
  ⟨.inl (s.enterCommit_state r), .commit, s.boc.mains, s.boc.mainsMet, s.boc.survival, by rw [State.enterCommit_boc]; rfl⟩

/-- The fault of a channel before it is handed on: recorded, and answered to a step that waits (R21, R26). -/
def State.faultTaken (s : State) (ch : Fin 12) (k : FaultKind) (c : Channel) : State :=
  let t := (s.setRail ch (c.enterFault k).chan).faultRecord ch k
  match c.order with
  | some _ => t.answerFrom ch .failed
  | none => t

theorem State.chanEvent_fault (s : State) (ch : Fin 12) (k : FaultKind) (c : Channel) :
    s.chanEvent ch (c.enterFault k) =
      ((s.faultTaken ch k c).engineFault (s.railEntry ch)).bocFault (s.railEntry ch) k := by
  unfold State.faultTaken
  cases h : c.order <;> simp only [State.chanEvent, Channel.enterFault, h, Option.map_none, Option.map_some]

@[simp] theorem State.faultTaken_boc (s : State) (ch : Fin 12) (k : FaultKind) (c : Channel) :
    (s.faultTaken ch k c).boc = s.boc := by
  simp only [State.faultTaken]
  split <;> simp

/-- A DROPOUT in DIP commits the controller (R102). -/
theorem State.chanEvent_dropout {s : State} (ch : Fin 12) (c : Channel) (dip : s.boc.state = .dip) :
    let t := (s.chanEvent ch (c.enterFault .dropout)).settle
    t.boc.state.committed = true ∧ t.boc.reason = .dropout ∧ t.boc.shedLevel = 3 := by
  let v : State := (s.faultTaken ch .dropout c).engineFault (s.railEntry ch)
  have commits : s.chanEvent ch (c.enterFault .dropout) = v.enterCommit .dropout := by
    rw [State.chanEvent_fault]
    unfold State.bocFault
    simp [dip, v]
  have down : (v.enterCommit .dropout).settle.Down (v.enterCommit .dropout).boc := (v.enterCommit_down .dropout).settle
  intro t
  rw [show t = (v.enterCommit .dropout).settle from congrArg State.settle commits]
  obtain ⟨st, m, mm, n, kept⟩ := down.kept
  exact ⟨down.committed, by rw [kept, State.enterCommit_boc]; rfl, by rw [kept, State.enterCommit_boc]; rfl⟩

/-- The EN of a channel in FAULT is inactive (R5, R20). -/
theorem State.enPin_fault {s : State} {ch : Fin 12} (applied : s.applied = true) (fault : (s.rail ch).state = .fault) :
    s.enPin ch = pinLevel (s.railEntry ch).enActiveLow false := by
  simp [State.enPin, applied, fault, RailState.enActive]

/-- Settles O29: the channel's step by its state, a fault's channel as `State.chanEvent_faulted` says, and the commands that
are no event. -/
theorem filteredPgChanges : Obligations.FilteredPgChanges := by
  refine ⟨fun ch pin n s applied present monitored low high => ?good,
    fun ch pin n s applied present monitored up high => ?notGood, fun ch pin s => ?none⟩
  case good =>
    intro c time now kept after good settling on passes
    let u : State := { s with clock := now, sense := { s.sense with filters := kept } }
    have active : pinActive pin (s.railEntry ch).pgActiveLow = true := by
      cases hp : pin.high <;> cases he : (s.railEntry ch).pgActiveLow <;> simp_all [pinActive]
    have event : exec (.filteredPgGood ch pin) s =
        .next (u.chanEvent ch (c.pgBecomesGood (s.railEntry ch) now)).settle := by
      have filtered : s.pgFiltered ch pin = u := s.pgFiltered_eq ch pin
      refine congrArg Host.Outcome.next ((if_pos ?_).trans ?_)
      · simp [State.pgFollowed, applied, present, monitored, low, active]
      · simp only [filtered]; rfl
    have rises (rising : c.state = .rising) (fast : settleCounts (s.railEntry ch).settle = 0) :
        c.pgBecomesGood (s.railEntry ch) now = good.enterOn :=
      (Channel.pgBecomesGood_rises rising).trans (if_pos fast)
    refine ⟨fun still => ?still, fun ⟨rising, slow⟩ => ?settles, fun ⟨⟨rising, fast⟩, free⟩ => ?passes,
      fun ⟨⟨rising, fast⟩, order, waited⟩ => ?answered⟩
    case still =>
      rw [event, Channel.pgBecomesGood_still still]
      rfl
    case settles =>
      rw [event, Channel.pgBecomesGood_rises rising, Channel.enterSettling, if_neg slow]
      rfl
    case passes =>
      rw [event, rises rising fast, Channel.enterOn_free (by exact free)]
      rfl
    case answered =>
      have same : u.passed n = s.passed n := State.passed_of_same n rfl rfl rfl rfl rfl
      rw [event, rises rising fast, Channel.enterOn_answered (by exact order),
        State.chanEvent_answered (s := u) (n := n) ⟨waited.running, waited.slot, waited.step⟩, same]
  case notGood =>
    intro c time now kept after off idle
    let u : State := { s with clock := now, sense := { s.sense with filters := kept } }
    have active : pinActive pin (s.railEntry ch).pgActiveLow = false := by
      cases hp : pin.high <;> cases he : (s.railEntry ch).pgActiveLow <;> simp_all [pinActive]
    have event : exec (.filteredPgNotGood ch pin) s = .next (u.chanEvent ch c.pgBecomesNotGood).settle := by
      have filtered : s.pgFiltered ch pin = u := s.pgFiltered_eq ch pin
      refine congrArg Host.Outcome.next ((if_pos ?_).trans ?_)
      · simp [State.pgFollowed, applied, present, monitored, up, active]
      · rw [filtered]
    refine ⟨fun still => ?still, fun ⟨falling, free⟩ => ?off, fun ⟨falling, order, waited⟩ => ?answered,
      fun above => ?faults, fun ⟨on, dip⟩ => ?dropout⟩
    case still =>
      rw [event, Channel.pgBecomesNotGood_still still]
      rfl
    case off =>
      rw [event, Channel.pgBecomesNotGood_falls falling, Channel.enterOff_free (by exact free)]
      rfl
    case answered =>
      have same : u.passed n = s.passed n := State.passed_of_same n rfl rfl rfl rfl rfl
      rw [event, Channel.pgBecomesNotGood_falls falling, Channel.enterOff_answered (by exact order),
        State.chanEvent_answered (s := u) (n := n) ⟨waited.running, waited.slot, waited.step⟩, same]
    case faults =>
      rw [Channel.pgBecomesNotGood_faults above] at event
      obtain ⟨state, kind, prior, good, rise, settle, fall, order⟩ := u.chanEvent_faulted ch
        (if c.state = .on then .dropout else .unstable) { c with pgGood := false }
      refine ⟨_, event, by simp [u], by simp [u], state, ?_, kind, prior, good, rise, settle, fall, order⟩
      rw [State.enPin_fault (by simpa [State.applied, u] using applied) state]
      simp [State.railEntry, u]
    case dropout =>
      rw [Channel.pgBecomesNotGood_faults (.inr on), if_pos on] at event
      exact ⟨_, event, State.chanEvent_dropout (s := u) ch _ dip⟩
  case none =>
    intro followed good
    have follows : s.pgFollowed ch = true ↔ followed := by simp [State.pgFollowed, followed, and_assoc]
    have active : pinActive pin (s.railEntry ch).pgActiveLow = true ↔ good := by
      cases hp : pin.high <;> cases he : (s.railEntry ch).pgActiveLow <;> simp [pinActive, good, hp, he]
    refine ⟨fun h => congrArg Host.Outcome.next (if_neg ?_), fun h => congrArg Host.Outcome.next (if_neg ?_)⟩
    · simp only [Bool.and_eq_true, follows, active, Bool.not_eq_true']
      rintro ⟨⟨followed, low⟩, raw⟩
      rcases h with h | h | h
      · exact h followed
      · simp [low] at h
      · exact h raw
    · simp only [Bool.and_eq_true, follows, Bool.not_eq_true', ← Bool.not_eq_true (pinActive _ _), active]
      rintro ⟨⟨followed, up⟩, raw⟩
      rcases h with h | h | h
      · exact h followed
      · simp [up] at h
      · exact raw h

end Sys2Proof.Machine

namespace Sys2Proof.Machine

/-! ## The commitment, written out -/

/-- The controller's items as it commits (R107, R108). -/
def State.committing (s : State) (r : CommitReason) : BrownOut :=
  { s.boc with
    state := .commit, ride := none, restore := none, heldBoard := false, heldPanel := false, reason := r
    notes := some s.commitNotes, shedLevel := 3 }

/-- The commitment with its shed level at the channels and at the Dimming Path, before any step ends for it (R107). -/
def State.shedForCommit (s : State) (r : CommitReason) : State :=
  if s.boc.shedLevel = 3 then { s with boc := s.committing r }
  else State.retarget
    { s with rails := Vector.ofFn fun i => ((s.rail i).takeShed (s.railEntry i) s.clock 3).chan, boc := s.committing r }

/-- A parked command refused with reason COMMIT, and write-disable sent for it (R139, R158, R162). -/
def State.slotRefused (s : State) : State :=
  match s.adu.parked with
  | none => s
  | some p =>
    { s with
      jnu := s.jnu.offered s.plan
        [⟨.refusal .commit p.command true (min 65535 (s.sense.uptime - p.since).toNat) s.adu.latest, s.boc.state, s.sense.uptime⟩]
      adu := ⟨none, none, s.adu.latest⟩
      flb := { s.flb with
               tenure := s.flb.tenure.map fun ten => { ten with phase := .refusing }
               dlinkDue := some (s.clock + 8 * (s.plan.div + 1)), reportless := s.mainActive } }

/-- The command that is refused leaves the slot, recorded as it stood there (R162, R163). -/
theorem State.refuseCommand_parked {s : State} {p : Parked} (parked : s.adu.parked = some p) (r : RefusalReason) :
    s.refuseCommand p.command r =
      { s with
        jnu := s.jnu.offered s.plan
          [⟨.refusal r p.command true (min 65535 (s.sense.uptime - p.since).toNat) s.adu.latest, s.boc.state, s.sense.uptime⟩]
        adu := ⟨none, none, s.adu.latest⟩
        flb := { s.flb with
                 tenure := s.flb.tenure.map fun ten => { ten with phase := .refusing }
                 dlinkDue := some (s.clock + 8 * (s.plan.div + 1)), reportless := s.mainActive } } := by
  have counts : s.plan.refusing.counts = 8 * (s.plan.div + 1) := s.plan.refusing_counts
  simp only [State.refuseCommand, State.offerRecord_eq, State.emptySlot, State.fateRefuse, State.setPhase, State.modAdu,
    State.modFlb, parked, parkedMs, counts, Option.isSome_some, Bool.true_and]
  rfl

/-- The Admission Unit at the commitment (R158). -/
theorem State.parkedAtState_committed {s : State} (committed : s.boc.state.committed = true) :
    s.parkedAtState = s.slotRefused := by
  unfold State.parkedAtState State.slotRefused
  cases parked : s.adu.parked with
  | none => rfl
  | some p =>
    cases state : s.boc.state with
    | init | normal | dip | recover => simp [state, BocState.committed] at committed
    | commit | descent | dark => simp only [State.refuseCommand_parked parked, state]

theorem Channel.answerIf_ne_failed (c : Channel) {o : Order} {a : Answer} (h : a ≠ .failed) :
    (c.answerIf o a).2 ≠ some .failed := by
  unfold Channel.answerIf
  split
  · simpa using h
  · nofun

theorem Channel.enterRising_ne_failed (e : RailEntry) (now : Nat) (c : Channel) :
    (c.enterRising e now).answer ≠ some .failed := by
  unfold Channel.enterRising Channel.enterSettling
  simp only
  split
  · split
    · exact Channel.answerIf_ne_failed _ (by simp)
    · nofun
  · nofun

theorem Channel.enterFalling_ne_failed (e : RailEntry) (now : Nat) (c : Channel) :
    (c.enterFalling e now).answer ≠ some .failed := by
  unfold Channel.enterFalling
  simp only
  split
  · exact Channel.answerIf_ne_failed _ (by simp)
  · nofun

/-- A shed level answers an order as done or deferred alone (R17, R18). -/
theorem Channel.takeShed_ne_failed (e : RailEntry) (now level : Nat) (c : Channel) :
    (c.takeShed e now level).answer ≠ some .failed := by
  have set : (c.shedSet e now).answer ≠ some .failed := by
    unfold Channel.shedSet
    split
    iterate 3
      simp only
      cases deferred : (({ c with shed := true } : Channel).answerIf .enable .deferred).2 with
      | none => exact Channel.enterFalling_ne_failed _ _ _
      | some a =>
        intro failed
        exact Channel.answerIf_ne_failed ({ c with shed := true } : Channel) (o := .enable) (a := .deferred) (by simp)
          (deferred.trans (by simpa using failed))
    all_goals nofun
  have clear : (c.shedClear e now).answer ≠ some .failed := by
    unfold Channel.shedClear
    simp only
    split
    iterate 2
      split
      · exact Channel.enterRising_ne_failed _ _ _
      · nofun
    all_goals nofun
  unfold Channel.takeShed
  split
  · nofun
  · split
    · exact set
    · exact clear

/-- A step that a shed level answers completes (R26). -/
theorem State.endOnAnswer_shed {s : State} (t : State) {level : Nat} {ch : Fin 12} {a : Answer}
    (answer : (s.shedStep level ch).answer = some a) : t.endOnAnswer ch a = t.stepDone := by
  cases a with
  | done | deferred => rfl
  | failed => exact absurd answer (Channel.takeShed_ne_failed _ _ _ _)

/-- The state that commits, before its shed level. -/
def State.commits (s : State) (r : CommitReason) : State :=
  s.modBoc fun b =>
    { b with state := .commit, ride := none, restore := none, heldBoard := false, heldPanel := false,
             reason := r, notes := some s.commitNotes }

theorem State.shedForCommit_eq (s : State) (r : CommitReason) :
    s.shedForCommit r = if s.boc.shedLevel = 3 then s.commits r else (s.commits r).deliverShed 3 := by
  unfold State.shedForCommit
  by_cases full : s.boc.shedLevel = 3
  · rw [if_pos full, if_pos full, State.commits, State.committing, ← full]
    rfl
  · rw [if_neg full, if_neg full]
    rfl

theorem State.shedForCommit_committed (s : State) (r : CommitReason) : (s.shedForCommit r).boc.state = .commit := by
  rw [State.shedForCommit_eq]
  split <;> simp [State.commits]

theorem State.shedForCommit_frame (s : State) (r : CommitReason) :
    (s.shedForCommit r).clock = s.clock ∧ (s.shedForCommit r).plan = s.plan ∧ (s.shedForCommit r).eng = s.eng ∧
      (s.shedForCommit r).sense = s.sense ∧ (s.shedForCommit r).flb = s.flb ∧ (s.shedForCommit r).adu = s.adu ∧
      (s.shedForCommit r).jnu = s.jnu := by
  rw [State.shedForCommit_eq]
  split <;> simp [State.commits]

/-- The commitment where shed level 3 ends no step. -/
theorem State.enterCommit_free {s : State} (r : CommitReason)
    (free : ∀ i, s.eng.step = .railWait i → s.boc.shedLevel = 3 ∨ (s.shedStep 3 i).answer = none) :
    s.enterCommit r = (s.shedForCommit r).slotRefused := by
  have shed : (s.commits r).setShed 3 = s.shedForCommit r := by
    rw [State.shedForCommit_eq, State.setShed_eq]
    by_cases full : s.boc.shedLevel = 3
    · exact (if_pos full.symm).trans (if_pos full).symm
    · refine (if_neg fun h => full h.symm).trans (Eq.trans ?_ (if_neg full).symm)
      split
      · rename_i i waits
        rw [show ((s.commits r).shedStep 3 i).answer = none from (free i waits).resolve_left full]
      · rfl
  rw [← State.parkedAtState_committed (by rw [State.shedForCommit_committed]; rfl), ← shed]
  rfl

/-- The commitment where shed level 3 answers the step that waits: it completes (R17, R26). -/
theorem State.enterCommit_deferred {s : State} (r : CommitReason) {n : SlotName} {d : Fin 12}
    (waits : StepUnderWay s n (.railWait d)) (level : s.boc.shedLevel ≠ 3) (answer : (s.shedStep 3 d).answer ≠ none) :
    s.enterCommit r = ({ s.shedForCommit r with eng := (s.shedForCommit r).passed n } : State).slotRefused := by
  have eng : (s.shedForCommit r).eng = s.eng := by rw [State.shedForCommit_eq, if_neg level]; simp [State.commits]
  obtain ⟨a, answered⟩ := Option.ne_none_iff_exists'.mp answer
  have shed : (s.commits r).setShed 3 = { s.shedForCommit r with eng := (s.shedForCommit r).passed n } := by
    rw [← State.stepDone_eq (by rw [eng]; exact waits.running) (by rw [eng]; exact waits.slot), State.shedForCommit_eq,
      if_neg level, State.setShed_eq, if_neg (fun h => level h.symm), show (s.commits r).eng.step = _ from waits.step]
    simp only [show ((s.commits r).shedStep 3 d).answer = some a from answered]
    exact State.endOnAnswer_shed (s := s) _ answered
  rw [← State.parkedAtState_committed (by simp [State.shedForCommit_committed, BocState.committed]), ← shed]
  rfl

end Sys2Proof.Machine

namespace Sys2Proof.Machine

/-! ## The hand-off of a fault, written out -/

/-- A TRIP claim of origin RAIL with nothing running (R43). -/
def Engine.tripped (e : Engine) : Engine := { e.idled with trip := some .rail }

/-- What a dropped step leaves: the lines, the rails and the bridge (R15, R25, R31). -/
def State.droppedLines (s : State) : Vector Bool 6 :=
  match s.eng.step with
  | .pulsing l _ => s.eng.lines.set l false
  | _ => s.eng.lines

def State.withdrawnRails (s : State) : Vector Channel 12 :=
  match s.eng.step with
  | .railWait i => s.rails.set i { s.rail i with order := none }
  | _ => s.rails

def State.droppedLink (s : State) : Bridge :=
  match s.eng.step with
  | .pulsing l _ => s.lineLink l false
  | _ => s.flb

theorem State.dropStep_eq (s : State) :
    s.dropStep =
      { s with eng := { s.eng with lines := s.droppedLines }, rails := s.withdrawnRails, flb := s.droppedLink } := by
  unfold State.dropStep State.droppedLines State.withdrawnRails State.droppedLink
  cases s.eng.step with
  | pulsing l due => exact s.driveLine_eq l false
  | idle | ready | beginWait | lineWait | railWait _ | delaying _ | awaiting _ _ _ | linkWait => rfl

section
variable {s : State}

theorem State.placeTrip_idle (idle : s.eng.mode = .idle) :
    s.placeTrip .rail = { s with eng := { s.eng with trip := some .rail } } := by
  unfold State.placeTrip
  rw [idle]
  rfl

theorem State.placeTrip_suspended (suspended : s.eng.mode = .suspended) :
    s.placeTrip .rail = { s with eng := s.eng.tripped } := by
  unfold State.placeTrip
  rw [suspended]
  rfl

theorem State.placeTrip_running (run : s.eng.mode = .running) :
    s.placeTrip .rail =
      if s.eng.slot = some .trip then s
      else { s with eng := Engine.tripped { s.eng with lines := s.droppedLines }, rails := s.withdrawnRails
                    flb := s.droppedLink } := by
  unfold State.placeTrip
  rw [run]
  simp only [State.preempt, State.dropStep_eq]
  split <;> rfl

/-- A fault claim marks its domain (R45). -/
theorem State.markClaim_eq (d : Domain) :
    s.markClaim d =
      { s with eng := { s.eng with claimBoard := s.eng.claimBoard || d == .board, claimPanel := s.eng.claimPanel || d == .panel } } := by
  cases d <;> simp [State.markClaim, State.modEng]

/-- The controller holds back the mark of a domain (R102). -/
theorem State.holdMark_eq (d : Domain) :
    s.holdMark d =
      { s with boc := { s.boc with heldBoard := s.boc.heldBoard || d == .board, heldPanel := s.boc.heldPanel || d == .panel } } := by
  cases d <;> simp [State.holdMark, State.modBoc]

/-- The controller takes a fault that is no DROPOUT in DIP (R102). -/
theorem State.bocFault_stays {e : RailEntry} {k : FaultKind} (stays : ¬ (k = .dropout ∧ s.boc.state = .dip)) :
    s.bocFault e k =
      if e.faultAction = .domainDown ∧ (s.boc.state = .dip ∨ s.boc.state = .recover) then s.holdMark e.domain else s := by
  unfold State.bocFault
  cases h : s.boc.state with
  | dip =>
    have other : k ≠ .dropout := fun drop => stays ⟨drop, h⟩
    by_cases act : e.faultAction = .domainDown <;> simp [other, act]
  | recover => by_cases act : e.faultAction = .domainDown <;> simp [act]
  | init | normal | commit | descent | dark => simp

end

/-- An engine at the end of a step of the sequence of a slot: it goes on to the next, waits for NORMAL, or is IDLE with
nothing held. -/
structure Engine.Ended (n : SlotName) (g : Engine) : Prop where
  step : g.step = .idle ∨ g.step = .ready
  idle : g.mode = .idle → g.idled = g
  running : g.mode = .running → g.slot = some n

theorem Engine.passed_ended {e : Engine} {n : SlotName} (count : Nat) (slot : e.slot = some n) :
    (e.passed n count).Ended n ∨ e.mode ≠ .running := by
  by_cases run : e.mode = .running
  · left
    unfold Engine.passed
    split
    · exact ⟨.inr rfl, fun idle => by simp [run] at idle, fun _ => slot⟩
    · exact ⟨.inl rfl, fun _ => rfl, nofun⟩
  · exact .inr run

theorem State.passed_ended {s : State} {n : SlotName} (run : s.eng.mode = .running) (slot : s.eng.slot = some n) :
    (s.passed n).Ended n := by
  simp only [State.passed]
  split
  · exact ⟨.inl rfl, nofun, nofun⟩
  · split
    · exact ⟨.inl rfl, fun _ => rfl, nofun⟩
    · exact (Engine.passed_ended (e := s.claimsTaken) _ slot).resolve_right fun other => other run

theorem State.abandoned_ended (s : State) (n : SlotName) : (s.abandoned n).Ended n := ⟨.inl rfl, fun _ => rfl, nofun⟩

theorem Engine.Ended.dropped {s : State} {n : SlotName} (ended : s.eng.Ended n) :
    s.droppedLines = s.eng.lines ∧ s.withdrawnRails = s.rails ∧ s.droppedLink = s.flb := by
  unfold State.droppedLines State.withdrawnRails State.droppedLink
  rcases ended.step with h | h <;> simp [h]

/-- A TRIP claim after a step has ended drops no step (R43). -/
theorem State.placeTrip_ended {s : State} {n : SlotName} (ended : s.eng.Ended n) :
    s.placeTrip .rail = if n = .trip ∧ s.eng.mode = .running then s else { s with eng := s.eng.tripped } := by
  obtain ⟨lines, rails, link⟩ := ended.dropped
  obtain ⟨-, idle, running⟩ := ended
  cases mode : s.eng.mode with
  | idle =>
    rw [State.placeTrip_idle mode, if_neg (by simp), Engine.tripped, idle mode]
  | suspended => rw [State.placeTrip_suspended mode, if_neg (by simp)]
  | running =>
    rw [State.placeTrip_running mode, lines, rails, link, running mode]
    simp

/-! ### The fault, taken -/

theorem State.faultTaken_free {s : State} {ch : Fin 12} {k : FaultKind} {c : Channel} (free : c.order = none) :
    s.faultTaken ch k c =
      { s with
        rails := s.rails.set ch (c.enterFault k).chan
        jnu := s.jnu.offered s.plan
          [⟨.railFault ch (s.railEntry ch).tag k c.state s.eng.slot s.eng.index, s.boc.state, s.sense.uptime⟩] } := by
  have prior : (((s.setRail ch (c.enterFault k).chan).rail ch).prior).getD .off = c.state := by
    rw [State.setRail_rail_self]
    rfl
  simp only [State.faultTaken, free, State.faultRecord, prior, State.offerRecord_eq]
  rfl

/-- A step that waits for the channel fails with the fault's kind (R26, R27, R39). -/
theorem State.faultTaken_waited {s : State} {ch : Fin 12} {k : FaultKind} {c : Channel} {o : Order} {n : SlotName} {st : Step}
    (order : c.order = some o) (waited : StepUnderWay s n (.railWait ch)) (step : s.currentStep = some st) :
    s.faultTaken ch k c =
      { s with
        rails := s.rails.set ch (c.enterFault k).chan
        jnu := s.jnu.offered s.plan
          [⟨.railFault ch (s.railEntry ch).tag k c.state s.eng.slot s.eng.index, s.boc.state, s.sense.uptime⟩,
            ⟨.stepFail n s.eng.index st.kind.code st.kind.target (.fault k) (n.isUp && st.abandon), s.boc.state, s.sense.uptime⟩]
        eng := if n.isUp && st.abandon then s.abandoned n else s.passed n } := by
  let t : State :=
    { s with
      rails := s.rails.set ch (c.enterFault k).chan
      jnu := s.jnu.offered s.plan
        [⟨.railFault ch (s.railEntry ch).tag k c.state s.eng.slot s.eng.index, s.boc.state, s.sense.uptime⟩] }
  have cause : t.railCause ch = .fault k := by
    have rail : t.rail ch = (c.enterFault k).chan := State.setRail_rail_self s ch _
    simp [State.railCause, rail, Channel.enterFault]
  have taken : s.faultTaken ch k c = t.answerFrom ch .failed := by
    have alone := State.faultTaken_free (s := s) (ch := ch) (k := k) (c := { c with order := none }) rfl
    rw [show t = _ from alone.symm]
    simp only [State.faultTaken, order]
    rfl
  have fails : t.answerFrom ch .failed = t.stepFail (.fault k) := by
    unfold State.answerFrom
    rw [show t.eng.step = _ from waited.step]
    exact (if_pos rfl).trans (congrArg t.stepFail cause)
  have same : t.passed n = s.passed n := State.passed_of_same n rfl rfl rfl rfl rfl
  rw [taken, fails, State.stepFail_eq (s := t) (.fault k) waited.running waited.slot step, same]
  rfl

end Sys2Proof.Machine

namespace Sys2Proof.Machine

/-! ## The faults of a monitored channel -/

/-- The fault each kind stands for, at the channel whose event it is (R7, R8, R9, R11). -/
theorem Channel.pgBecomesNotGood_unstable {c : Channel} (state : c.state = .settling) :
    c.pgBecomesNotGood = ({ c with pgGood := false } : Channel).enterFault .unstable := by
  rw [Channel.pgBecomesNotGood_faults (.inl state), if_neg (by simp [state])]

theorem Channel.pgBecomesNotGood_dropout {c : Channel} (state : c.state = .on) :
    c.pgBecomesNotGood = ({ c with pgGood := false } : Channel).enterFault .dropout := by
  rw [Channel.pgBecomesNotGood_faults (.inr state), if_pos state]

/-- Settles O31: each fault is taken, handed to the engine and then to the controller, and a DROPOUT in DIP commits. -/
theorem faultIsRecordedAndHandedOn : Obligations.FaultIsRecordedAndHandedOn := by
  intro kind ch d pin due o n st s c e pgFalls arises event byPg time now filters faulted record t dipping claiming holding
    tripping dropped withdrawn link commits stays waits free waited abandoned failure after failed tripped handed shed notes
    committing committed refused deferred
  let u : State := { s with clock := now, sense := { s.sense with filters := filters } }
  let cause : Channel := { c with pgGood := c.pgGood && !byPg }
  have kept (h : byPg = false) : cause = c := by simp [cause, h]
  have gone (h : byPg = true) : cause = { c with pgGood := false } := by simp [cause, h]
  have raised (h : arises = true) : exec event s = .next (u.chanEvent ch (cause.enterFault kind)).settle := by
    have falls (h : pgFalls = true) (byPg_ : byPg = true) :
        exec (.filteredPgNotGood ch pin) s = .next (u.chanEvent ch c.pgBecomesNotGood).settle := by
      have filtered : s.pgFiltered ch pin = u := by
        rw [State.pgFiltered_eq]
        simp only [u, now, filters, byPg_, if_true]
        rfl
      refine congrArg Host.Outcome.next ((if_pos ?_).trans ?_)
      · simp only [pgFalls, Bool.and_eq_true, Bool.not_eq_true', beq_iff_eq] at h
        obtain ⟨⟨⟨⟨applied, present⟩, monitored⟩, up⟩, raw⟩ := h
        simp [State.pgFollowed, pinActive, applied, show (s.railEntry ch).present = true from present,
          show (s.railEntry ch).timed = false from monitored, show (s.rail ch).pgGood = true from up,
          show pin.high = (s.railEntry ch).pgActiveLow from raw]
      · rw [filtered]
    cases kind with
    | riseTimeout =>
      simp only [arises, Bool.and_eq_true, beq_iff_eq, Bool.not_eq_true'] at h
      obtain ⟨⟨state, timer⟩, monitored⟩ := h
      have expires : c.riseExpires e = cause.enterFault .riseTimeout := by
        rw [kept rfl, Channel.riseExpires, if_pos state, if_neg (by simp [monitored])]
      change Host.Outcome.next _ = _
      rw [show (s.rail ch).rise = some due from timer, ← expires]
      rfl
    | unstable =>
      simp only [arises, Bool.and_eq_true, beq_iff_eq] at h
      rw [falls h.2 rfl, Channel.pgBecomesNotGood_unstable h.1, gone rfl]
    | dropout =>
      simp only [arises, Bool.and_eq_true, beq_iff_eq] at h
      rw [falls h.2 rfl, Channel.pgBecomesNotGood_dropout h.1, gone rfl]
    | stuckOn =>
      simp only [arises, Bool.and_eq_true, beq_iff_eq, Bool.not_eq_true'] at h
      obtain ⟨⟨⟨state, timer⟩, monitored⟩, good⟩ := h
      have expires : c.fallExpires e = cause.enterFault .stuckOn := by
        rw [kept rfl, Channel.fallExpires_stuck state monitored good]
      change Host.Outcome.next _ = _
      rw [show (s.rail ch).fall = some due from timer, ← expires]
      rfl
  have taken (h : arises = true) :
      exec event s = .next (((u.faultTaken ch kind cause).engineFault e).bocFault e kind).settle := by
    rw [raised h, State.chanEvent_fault]
    rfl
  have alone (h : c.order = none) : u.faultTaken ch kind cause = t := State.faultTaken_free (s := u) h
  have fails (h : waits) : u.faultTaken ch kind cause = failed := by
    obtain ⟨order, waited, step⟩ := h
    have same : u.passed n = s.passed n := State.passed_of_same n rfl rfl rfl rfl rfl
    rw [State.faultTaken_waited (s := u) (c := cause) order ⟨waited.running, waited.slot, waited.step⟩ step, same]
    rfl
  have marks (v : State) (h : e.faultAction = .domainDown) : v.engineFault e = { v with eng := claiming v.eng } := by
    unfold State.engineFault
    rw [h]
    exact State.markClaim_eq e.domain
  have logs (v : State) (h : e.faultAction = .log) : v.engineFault e = v := by
    unfold State.engineFault
    rw [h]
  have trips (v : State) (h : e.faultAction = .trip) : v.engineFault e = v.placeTrip .rail := by
    unfold State.engineFault
    rw [h]
  have keeps {v : State} (boc : v.boc = s.boc) (h : stays) (act : e.faultAction ≠ .domainDown ∨ ¬ dipping) :
      v.bocFault e kind = v := by
    rw [State.bocFault_stays (by rw [boc]; exact h.2), if_neg]
    rw [boc]
    exact fun both => act.elim (fun other => other both.1) fun out => out both.2
  have holds {v : State} (boc : v.boc = s.boc) (h : stays) (act : e.faultAction = .domainDown) (dip : dipping) :
      v.bocFault e kind = { v with boc := holding } := by
    rw [State.bocFault_stays (by rw [boc]; exact h.2), if_pos (by rw [boc]; exact ⟨act, dip⟩), State.holdMark_eq, boc]
  have lines : t.droppedLines = dropped := by
    unfold State.droppedLines
    rfl
  have rails : t.withdrawnRails = withdrawn := by
    unfold State.withdrawnRails
    rfl
  have links : t.droppedLink = link := by
    unfold State.droppedLink link
    change (match s.eng.step with | .pulsing l _ => _ | _ => _) = _
    cases s.eng.step with
    | pulsing l _ => cases hl : s.eng.lines[l] <;> simp [State.lineLink, hl, t]
    | idle | ready | beginWait | lineWait | railWait _ | delaying _ | awaiting _ _ _ | linkWait => rfl
  have running (run : s.eng.mode = .running) :
      t.placeTrip .rail =
        if s.eng.slot = some .trip then t
        else { t with eng := tripping { s.eng with lines := dropped }, rails := withdrawn, flb := link } := by
    rw [State.placeTrip_running (by exact run), lines, rails, links]
    rfl
  have ended (h : waits) : after.Ended n := by
    obtain ⟨-, waited, -⟩ := h
    simp only [after]
    split
    · exact s.abandoned_ended n
    · exact State.passed_ended waited.running waited.slot
  have hands {v : State} (trip : v.placeTrip .rail = tripped v) : v.engineFault e = handed v := by
    simp only [handed]
    cases act : e.faultAction with
    | log => exact logs v act
    | domainDown => exact marks v act
    | trip => rw [trips v act, trip]
  have trips_ {v : State} (runs : v.eng.mode = .running →
      v.placeTrip .rail =
        if v.eng.slot = some .trip then v
        else { v with eng := tripping { v.eng with lines := dropped }, rails := withdrawn, flb := link }) :
      v.placeTrip .rail = tripped v := by
    by_cases idle : v.eng.mode = .idle
    · exact (State.placeTrip_idle idle).trans (if_pos idle).symm
    · refine Eq.trans ?_ (if_neg idle).symm
      by_cases suspended : v.eng.mode = .suspended
      · exact (State.placeTrip_suspended suspended).trans (if_pos suspended).symm
      · refine (runs ?_).trans (if_neg suspended).symm
        cases mode : v.eng.mode with
        | idle => exact absurd mode idle
        | suspended => exact absurd mode suspended
        | running => rfl
  have handsOn : t.engineFault e = handed t := hands (trips_ running)
  have handsFailed (w : waits) : failed.engineFault e = handed failed := by
    obtain ⟨order, waited, step⟩ := w
    obtain ⟨noLines, noRails, noLink⟩ := Engine.Ended.dropped (s := failed) (ended ⟨order, waited, step⟩)
    have sameLines : dropped = after.lines := by
      have unpulsed : dropped = s.eng.lines := by simp only [dropped, waited.step]
      rw [unpulsed]
      simp only [after]
      split
      · rfl
      · have done := congrArg (fun x : State => x.eng.lines) (State.stepDone_eq waited.running waited.slot)
        exact (done.symm.trans (by simp)).symm
    have sameRails : withdrawn = t.rails := by
      simp only [withdrawn, waited.step]
      have rail : t.rail ch = faulted := State.setRail_rail_self s ch faulted
      refine Eq.trans (congrArg (t.rails.set ch) ?_) (Vector.set_getElem_self (xs := t.rails) (i := ch.val) ch.isLt)
      change _ = t.rail ch
      rw [rail]
    have sameLink : link = s.flb := by simp only [link, waited.step]
    refine hands (trips_ fun run => ?_)
    rw [State.placeTrip_running run, noLines, noRails, noLink, sameLines, sameRails, sameLink]
    rfl
  have commitsOn {v : State} (boc : v.boc = s.boc) (h : commits) : v.bocFault e kind = v.enterCommit .dropout := by
    obtain ⟨-, drop, dip⟩ := h
    unfold State.bocFault
    simp [boc, dip, drop]
  have commitsTo {v : State} (boc : v.boc = s.boc) (clock : v.clock = now) (plan : v.plan = s.plan)
      (sense : v.sense = t.sense) : v.shedForCommit .dropout = committed v := by
    have noted : v.commitNotes = notes := by
      simp only [State.commitNotes, boc, sense]
      rfl
    have items : v.committing .dropout = committing := by
      simp only [State.committing, noted, boc]
      rfl
    have channels (i : Fin 12) : (v.rail i).takeShed (v.railEntry i) v.clock 3 = shed v i := by
      simp only [clock, State.railEntry, plan]
      rfl
    simp only [State.shedForCommit, items, boc, channels]
    rfl
  have refuses {v : State} (clock : v.clock = now) (plan : v.plan = s.plan) (uptime : v.sense = t.sense)
      (adu : v.adu = s.adu) (state : v.boc.state = .commit) : v.slotRefused = refused v := by
    simp only [State.slotRefused, refused, adu, clock, plan, uptime, state]
    cases s.adu.parked <;> rfl
  refine ⟨fun ⟨⟨h, order⟩, act⟩ => ?freeLog, fun ⟨⟨h, order⟩, act, out⟩ => ?freeMark,
    fun ⟨⟨h, order⟩, act, dip⟩ => ?freeHold, fun ⟨⟨h, order⟩, act, mode⟩ => ?freeIdle,
    fun ⟨⟨h, order⟩, act, mode⟩ => ?freeSuspended, fun ⟨⟨h, order⟩, act, mode, slot⟩ => ?freeTrip,
    fun ⟨⟨h, order⟩, act, mode, slot⟩ => ?freeRunning, fun ⟨⟨h, w⟩, act⟩ => ?waitLog, fun ⟨⟨h, w⟩, act, out⟩ => ?mark,
    fun ⟨⟨h, w⟩, act, dip⟩ => ?hold, fun ⟨⟨h, w⟩, act, trip, run⟩ => ?waitTrip, fun ⟨⟨h, w⟩, act, other⟩ => ?tripped,
    fun ⟨h, order, free⟩ => ?commit, fun ⟨h, order, w, quiet⟩ => ?commitWaits, fun ⟨h, order, w, answer⟩ => ?commitDeferred,
    fun ⟨h, w⟩ => ?commitFailed⟩
  case freeLog => rw [taken h.1, alone order, logs t act, keeps (by rfl) h (.inl (by simp [act]))]
  case freeMark => rw [taken h.1, alone order, marks t act, keeps (by rfl) h (.inr out)]
  case freeHold => rw [taken h.1, alone order, marks t act, holds (by rfl) h act dip]
  case freeIdle =>
    rw [taken h.1, alone order, trips t act, State.placeTrip_idle (by exact mode), keeps (by rfl) h (.inl (by simp [act]))]
  case freeSuspended =>
    rw [taken h.1, alone order, trips t act, State.placeTrip_suspended (by exact mode), keeps (by rfl) h (.inl (by simp [act]))]
    rfl
  case freeTrip =>
    rw [taken h.1, alone order, trips t act, running mode, if_pos slot, keeps (by rfl) h (.inl (by simp [act]))]
  case freeRunning =>
    rw [taken h.1, alone order, trips t act, running mode, if_neg slot, keeps (by rfl) h (.inl (by simp [act]))]
  case waitLog => rw [taken h.1, fails w, logs failed act, keeps (by rfl) h (.inl (by simp [act]))]
  case mark => rw [taken h.1, fails w, marks failed act, keeps (by rfl) h (.inr out)]
  case hold => rw [taken h.1, fails w, marks failed act, holds (by rfl) h act dip]
  case waitTrip =>
    rw [taken h.1, fails w, trips failed act, State.placeTrip_ended (ended w), if_pos ⟨trip, run⟩,
      keeps (by rfl) h (.inl (by simp [act]))]
  case tripped =>
    rw [taken h.1, fails w, trips failed act, State.placeTrip_ended (ended w), if_neg other,
      keeps (by rfl) h (.inl (by simp [act]))]
    rfl
  case commit =>
    have frame := State.shedForCommit_frame (t.engineFault e) .dropout
    rw [taken h.1, alone order, commitsOn (by simp [t]) h, State.enterCommit_free]
    · rw [refuses (by simp [frame, t]) (by simp [frame, t]) (by simp [frame]) (by simp [frame, t]) (State.shedForCommit_committed _ _),
        commitsTo (by simp [t]) (by simp [t]) (by simp [t]) (by simp), handsOn]
    · intro i waits
      rw [handsOn] at waits
      exact absurd waits (free i)
  case commitWaits =>
    have frame := State.shedForCommit_frame (t.engineFault e) .dropout
    rw [taken h.1, alone order, commitsOn (by simp [t]) h, State.enterCommit_free]
    · rw [refuses (by simp [frame, t]) (by simp [frame, t]) (by simp [frame]) (by simp [frame, t]) (State.shedForCommit_committed _ _),
        commitsTo (by simp [t]) (by simp [t]) (by simp [t]) (by simp), handsOn]
    · intro i at_
      by_cases full : s.boc.shedLevel = 3
      · exact .inl (by simpa [t] using full)
      · refine .inr ?_
        obtain rfl : i = d := by simpa [handsOn, w.step] using at_.symm
        have still := not_and_not_right.mp quiet full
        rw [← handsOn] at still
        simpa [shed, State.shedStep, State.railEntry, t] using still
  case commitDeferred =>
    obtain ⟨level, answered⟩ := answer
    rw [taken h.1, alone order, commitsOn (by simp [t]) h, State.enterCommit_deferred (n := n) (d := d)]
    · have frame := State.shedForCommit_frame (t.engineFault e) .dropout
      let v : State := (t.engineFault e).shedForCommit .dropout
      rw [refuses (v := { v with eng := v.passed n }) (by simp [v, frame, t]) (by simp [v, frame, t]) (by simp [v, frame])
          (by simp [v, frame, t]) (State.shedForCommit_committed (t.engineFault e) .dropout),
        show v = committed (handed t) by
          rw [← handsOn]; exact commitsTo (by simp [t]) (by simp [t]) (by simp [t]) (by simp)]
    · rw [handsOn]
      exact w
    · simpa [t] using level
    · rw [← handsOn] at answered
      simpa [shed, State.shedStep, State.railEntry, t] using answered
  case commitFailed =>
    have frame := State.shedForCommit_frame (failed.engineFault e) .dropout
    rw [taken h.1, fails w, commitsOn (by simp [failed, t]) h, State.enterCommit_free]
    · rw [refuses (by simp [frame, failed, t]) (by simp [frame, failed, t]) (by simp [frame, failed])
          (by simp [frame, failed, t]) (State.shedForCommit_committed _ _),
        commitsTo (by simp [failed, t]) (by simp [failed, t]) (by simp [failed, t]) (by simp [failed]), handsFailed w]
    · intro i waits
      have ends : (failed.engineFault e).eng.step = .idle ∨ (failed.engineFault e).eng.step = .ready := by
        cases act : e.faultAction with
        | log => rw [logs failed act]; exact (ended w).step
        | domainDown => rw [marks failed act]; exact (ended w).step
        | trip =>
          rw [trips failed act, State.placeTrip_ended (ended w)]
          split
          · exact (ended w).step
          · exact .inl rfl
      rcases ends with idle | ready
      · rw [idle] at waits
        cases waits
      · rw [ready] at waits
        cases waits

end Sys2Proof.Machine

namespace Sys2Proof.Machine

/-! ## The Admission Unit's decision and its parked slot -/

/-- Settles O51: the rows of the decision table, by the class, the policy and the controller's state. -/
theorem decisionTable : Obligations.DecisionTable := by
  intro cls p boc quiesce cover open_ riding
  refine ⟨?blocked, ?locked, ?reserved, ?down, ?quiesced, ?normal, ?admitted, ?park⟩
  case blocked => exact fun block q => if_pos block
  case locked => rintro ⟨other, rfl⟩; exact if_neg other
  case reserved => rintro ⟨other, rfl⟩; exact if_neg other
  case down =>
    rintro ⟨⟨other, lock, res⟩, down⟩
    refine (if_neg other).trans ?_
    cases p with
    | locked => exact absurd rfl lock
    | reserved => exact absurd rfl res
    | free | guarded | deferred => cases boc <;> simp [BocState.committed] at down <;> rfl
  case quiesced =>
    rintro ⟨⟨other, lock, res⟩, state, rfl⟩
    refine (if_neg other).trans ?_
    cases p with
    | locked => exact absurd rfl lock
    | reserved => exact absurd rfl res
    | free | guarded | deferred => rcases state with rfl | rfl | rfl <;> rfl
  case normal =>
    rintro ⟨⟨other, lock, res⟩, rfl, rfl⟩
    refine (if_neg other).trans ?_
    cases p with
    | locked => exact absurd rfl lock
    | reserved => exact absurd rfl res
    | free | guarded | deferred => rfl
  case admitted =>
    rintro ⟨⟨other, -, -⟩, state, rfl, policy⟩
    refine (if_neg other).trans ?_
    rcases policy with rfl | ⟨rfl, rfl⟩ <;> rcases state with rfl | rfl <;> rfl
  case park =>
    rintro ⟨⟨other, -, -⟩, state, rfl, policy⟩
    refine (if_neg other).trans ?_
    rcases policy with rfl | ⟨rfl, rfl⟩ <;> rcases state with rfl | rfl <;> rfl

/-- The operation a buffered command of a class asks for (R131, R153). -/
def Command.issueOf (c : Command) (op : OpClass) (uptime : Word32) : Issue :=
  { op := op, origin := .requested, range := c.range, opcode := c.opcode, addrBytes := c.addrBytes, addrLanes := c.addrLanes
    dataLanes := c.dataLanes, address := c.address, data := c.data, admitted := uptime }

theorem Command.issue_eq {c : Command} {op : OpClass} (cls : c.cls.op = some op) (uptime : Word32) :
    c.issue uptime = some (c.issueOf op uptime) := by
  unfold Command.issue
  rw [cls]
  rfl

/-- The state in which an operation is being issued: an open tenure ISSUING, the two transactions of ISSUING under way
(R131). -/
def State.issuing (s : State) (i : Issue) : State :=
  { s with
    flb := { s.flb with
             tenure := s.flb.tenure.map fun ten => { ten with phase := .issuing }
             issue := some i
             dlinkDue := some (s.clock +
               (16 + i.addrBytes * 8 / i.addrLanes + i.data.length * 8 / i.dataLanes) * (s.plan.div + 1)) } }

theorem State.startIssue_eq (s : State) (i : Issue) : s.startIssue i = s.issuing i := by
  simp only [State.startIssue, State.setPhase, State.modFlb, Plan.issuing_counts, State.issuing]

/-- The fate ADMIT of a command whose class asks for an operation (R130). -/
theorem State.fateAdmitted_eq (s : State) {c : Command} {op : OpClass} (cls : c.cls.op = some op) :
    s.fateAdmitted c = s.issuing (c.issueOf op s.sense.uptime) := by
  unfold State.fateAdmitted
  rw [Command.issue_eq cls]
  exact s.startIssue_eq _

/-- A parked command let go leaves the slot empty and is issued (R157, R158). -/
theorem State.admitParked_eq (s : State) {c : Command} {op : OpClass} (cls : c.cls.op = some op) :
    s.admitParked c =
      ({ s with adu := { s.adu with parked := none, hold := none } } : State).issuing (c.issueOf op s.sense.uptime) :=
  State.fateAdmitted_eq _ cls

theorem covered_iff {r : AduBudget} {cls : FlashClass} {op : OpClass} (h : cls.op = some op) :
    covered (some r) cls = true ↔ (r.aCost.at op : Int) ≤ r.reserve := by
  unfold covered
  simp only [h, decide_eq_true_eq]

/-- Settles O50: the Admission Unit keeps the budget offered and judges the slot by it; the hold timer refuses. -/
theorem parkedCommandIsLetGoOrRefused : Obligations.ParkedCommandIsLetGoOrRefused := by
  intro b p op ten due s c offered parked taken lets latest clocks issue refusal
  have takes (h : offered) : exec .aduComputation s = .next (({ s with sense := taken } : State).aduTakes b).settle := by
    obtain ⟨offer, budget⟩ := h
    refine congrArg Host.Outcome.next ((if_pos offer).trans ?_)
    change (match s.hbu with | some b => (({ s with sense := taken } : State).aduTakes b).settle | none => s) = _
    rw [budget]
  refine ⟨fun ⟨offer, slot⟩ => ?empty, fun ⟨⟨cls, slot, open_⟩, offer, go⟩ => ?lets,
    fun ⟨⟨cls, slot, open_⟩, offer, stay⟩ => ?stays, fun ⟨⟨cls, slot, open_⟩, hold⟩ => ?expired⟩
  case empty =>
    rw [takes offer]
    simp only [State.aduTakes, State.modAdu, slot]
    rfl
  case lets =>
    rw [takes offer]
    have go' : (s.boc.state = .dip ∨ s.boc.state = .recover) ∧ p.command.policy = some .guarded ∧
        covered (some latest) p.command.cls = true :=
      ⟨go.1, go.2.1, (covered_iff cls).mpr go.2.2⟩
    simp only [State.aduTakes, State.modAdu, slot]
    refine congrArg Host.Outcome.next (congrArg State.settle ((if_pos go').trans ?_))
    rw [State.admitParked_eq _ cls]
    simp only [State.issuing, open_, Option.map_some]
    rfl
  case stays =>
    rw [takes offer]
    have stay' : ¬ ((s.boc.state = .dip ∨ s.boc.state = .recover) ∧ p.command.policy = some .guarded ∧
        covered (some latest) p.command.cls = true) :=
      fun ⟨state, policy, cover⟩ => stay ⟨state, policy, (covered_iff cls).mp cover⟩
    simp only [State.aduTakes, State.modAdu, slot]
    exact congrArg Host.Outcome.next (congrArg State.settle (if_neg stay'))
  case expired =>
    change Host.Outcome.next _ = _
    rw [hold, slot]
    change Host.Outcome.next ((s.reach due).refuseCommand p.command .holdExpired).settle = _
    rw [State.refuseCommand_parked (by exact slot)]
    have link : (s.reach due).flb.tenure.map (fun ten => ({ ten with phase := .refusing } : Tenure)) =
        some { ten with phase := .refusing } := by
      rw [show (s.reach due).flb.tenure = some ten from open_]
      rfl
    rw [link]
    rfl

end Sys2Proof.Machine

namespace Sys2Proof.Machine

/-! ## The output pins, the link mode and the bridge's own operation -/

theorem State.anyFault_iff (s : State) : s.anyFault = true ↔ ∃ ch : Fin 12, (s.rail ch).state = .fault := by
  unfold State.anyFault State.rail
  simp only [List.any_eq_true, beq_iff_eq, Vector.mem_toList_iff]
  constructor
  · rintro ⟨c, mem, fault⟩
    obtain ⟨i, h, rfl⟩ := Vector.mem_iff_getElem.mp mem
    exact ⟨⟨i, h⟩, fault⟩
  · exact fun ⟨ch, fault⟩ => ⟨_, Vector.getElem_mem ch.isLt, fault⟩

theorem BocState.notNormal_iff (b : BocState) : b.notNormal = true ↔ b ≠ .init ∧ b ≠ .normal := by
  cases b <;> simp [BocState.notNormal]

theorem RailState.enActive_iff (r : RailState) : r.enActive = true ↔ r = .rising ∨ r = .settling ∨ r = .on := by
  cases r <;> simp [RailState.enActive]

theorem State.alert_iff (s : State) :
    s.alert = true ↔
      s.applied = true ∧
        ((s.plan.alert.notNormal = true ∧ s.boc.state ≠ .init ∧ s.boc.state ≠ .normal) ∨
          (s.plan.alert.railFault = true ∧ ∃ ch : Fin 12, (s.rail ch).state = .fault) ∨
          (s.plan.alert.parked = true ∧ s.adu.parked ≠ none) ∨
          (s.plan.alert.lockout = true ∧ (s.eng.boardLock = true ∨ s.eng.panelLock = true)) ∨
          (s.plan.alert.queue = true ∧ s.jnu.queue ≠ [])) := by
  simp only [State.alert, Bool.and_eq_true, Bool.or_eq_true, BocState.notNormal_iff, State.anyFault_iff,
    Option.isSome_iff_ne_none, Bool.not_eq_true', List.isEmpty_eq_false_iff, or_assoc]

/-- Settles O59: each output pin, and the alert line's conditions one by one. -/
theorem outputPinsFollowTheState : Obligations.OutputPinsFollowTheState := by
  intro s
  refine ⟨fun before => ⟨fun ch => ?_, fun l => ?_, ?_, ?_⟩, fun applied ch => ?_, fun applied l => ?_, fun applied => ?_, ?_, ?_⟩
  · simp [State.enPin, before]
  · simp [State.ctlPin, before]
  · simp [State.dimOutPin, before]
  · simp [State.alertPin, State.alert, before]
  · simp only [State.enPin, applied, if_true, pinLevel, beq_iff_eq]
    exact if_congr (by rw [Bool.eq_iff_iff, Bool.and_eq_true, RailState.enActive_iff]) rfl rfl
  · have pin : s.ctlPin l = if s.plan.lines[l].present = true then
        pinLevel s.plan.lines[l].activeLow s.eng.lines[l] else .undriven := by
      simp only [State.ctlPin, applied, Bool.true_and]
    rw [pin]
    cases s.plan.lines[l].present with
    | false => rfl
    | true => exact (if_congr beq_iff_eq rfl rfl).trans (if_neg Bool.false_ne_true.symm).symm
  · simp [State.dimOutPin, applied]
  · rw [← State.alert_iff]
    cases h : s.alert <;> simp [State.alertPin, h]
  · cases h : s.alert <;> simp [State.alertPin, h]

/-- Settles O55: the mode and the taking of an offered operation, by the mode and the MAIN_RESET line. -/
theorem linkModeFollowsTheMainResetLine : Obligations.LinkModeFollowsTheMainResetLine := by
  intro i s still idle offered taken clocks issuing
  refine ⟨fun ⟨mode, active, x⟩ => ?_, fun ⟨mode, stays⟩ => ?_, fun ⟨mode, applied, active, x, inflight, issue, tenure⟩ => ?_,
    fun ⟨mode, stays⟩ => ?_, fun mode => ⟨?_, ?_⟩, fun ⟨⟨offer, applied, inflight, issue, tenure⟩, mode, barred⟩ => ?_,
    fun ⟨⟨offer, applied, inflight, issue, tenure⟩, mode, active, x⟩ => ?_,
    fun ⟨⟨offer, applied, inflight, issue, tenure⟩, waits⟩ => ?_, fun waits => ?_⟩
  · simp [State.linkReact, mode, active, show s.flb.xfer = none from x, State.modFlb]
  · have shut : (s.mainActive && s.flb.xfer.isNone) = false := by
      rw [Bool.eq_false_iff, Ne, Bool.and_eq_true, Option.isNone_iff_eq_none]
      rintro ⟨active, x⟩
      exact stays.elim (by simp [active]) (· x)
    simp [State.linkReact, mode, shut]
  · simp [State.linkReact, mode, applied, active, show s.flb.xfer = none from x, inflight, issue, tenure, State.modFlb]
  · have shut : (s.applied && !s.mainActive && s.flb.xfer.isNone && s.flb.inflight.isNone && s.flb.issue.isNone &&
        s.flb.tenure.isNone) = false := by
      rw [Bool.eq_false_iff]
      simp only [Ne, Bool.and_eq_true, Option.isNone_iff_eq_none, Bool.not_eq_true']
      rintro ⟨⟨⟨⟨⟨applied, active⟩, x⟩, inflight⟩, issue⟩, tenure⟩
      rcases stays with h | h | h | h
      · simp [applied] at h
      · simp [active] at h
      · exact h x
      · exact h ⟨inflight, issue, tenure⟩
    simp [State.linkReact, mode, shut]
  · simp [State.linkReact, mode]
  · cases offer : s.flb.offer <;> simp [State.takeOffer, mode, offer]
  · simp only [State.takeOffer, offer, applied, tenure, inflight, issue, mode, barred]
    simp [State.startIssue_eq, State.issuing, State.modFlb, tenure, taken, clocks, issuing]
  · simp only [State.takeOffer, offer, applied, tenure, inflight, issue, mode, active, show s.flb.xfer = none from x]
    simp [State.startIssue_eq, State.issuing, State.modFlb, taken, clocks, issuing]
  · rcases waits with ⟨mode, barred⟩ | ⟨mode, active | x⟩
    · simp [State.takeOffer, offer, mode, barred]
    · simp [State.takeOffer, offer, mode, active]
    · have busy : s.flb.xfer.isNone = false := by simpa [Option.isSome_iff_ne_none] using x
      simp [State.takeOffer, offer, mode, busy]
  · unfold State.takeOffer
    rcases waits with offer | before | busy
    · rw [offer]
    · cases s.flb.offer <;> simp [before]
    · have busy' : (s.flb.tenure.isNone && s.flb.inflight.isNone && s.flb.issue.isNone) = false := by
        rw [Bool.eq_false_iff]
        simp only [Ne, Bool.and_eq_true, Option.isNone_iff_eq_none]
        exact fun ⟨⟨tenure, inflight⟩, issue⟩ => busy ⟨inflight, issue, tenure⟩
      simp only [Bool.and_assoc] at busy' ⊢
      cases s.flb.offer <;> simp [busy']

/-- At the end of REFUSING the fail report is set where the plan names a bit and the MAIN_RESET line is inactive (R140). -/
theorem State.setFailReport_named {s : State} {bit : Fin 8} (named : s.plan.failBit = bit.val)
    (inactive : s.mainActive = false) :
    s.setFailReport = { s with flb := { s.flb with failReport := some bit } } := by
  have lt : s.plan.failBit < 8 := named ▸ bit.isLt
  have same : (⟨s.plan.failBit, lt⟩ : Fin 8) = bit := Fin.ext named
  simp [State.setFailReport, lt, inactive, same, State.modFlb]

theorem State.setFailReport_none {s : State} (h : s.plan.failBit = 8 ∨ s.mainActive = true) : s.setFailReport = s := by
  unfold State.setFailReport
  split
  · rename_i named
    exact h.elim (fun eight => absurd named (by omega)) fun active => if_pos active
  · rfl

/-- Settles O53: issuing, polling, OVERRUN and the end of REFUSING. -/
theorem bridgeRunsItsOperation : Obligations.BridgeRunsItsOperation := by
  intro i f ten due bit s created refusing ended
  have refused (h : refusing) : exec .refusingWriteDisableEnd s = .next
      ((({ s with flb := { s.flb with dlinkDue := none, reportless := false } } : State).refusalReport
        s.flb.reportless).closeTenure.settle) := by
    have phase : s.inPhase .refusing = true := by simp [State.inPhase, h.1, h.2]
    exact congrArg Host.Outcome.next (if_pos phase)
  refine ⟨fun issue => ?_, fun ⟨inflight, poll, next⟩ => ?_, fun ⟨inflight, overrun⟩ => ?_, fun ⟨inflight, overrun⟩ => ?_,
    fun ⟨h, report, named, inactive⟩ => ?_, fun ⟨h, none_⟩ => ?_⟩
  · change Host.Outcome.next _ = _
    rw [issue]
    rfl
  · have ready : (s.flb.inflight.isSome && s.flb.poll == .idle) = true := by simp [inflight, poll]
    refine congrArg Host.Outcome.next ((if_pos ready).trans ?_)
    rw [next]
    rfl
  · change Host.Outcome.next _ = _
    rw [inflight]
    simp only [overrun, Bool.false_eq_true, if_false, InFlight.atMax, Nat.one_mul]
    rfl
  · change Host.Outcome.next _ = _
    rw [inflight]
    exact congrArg Host.Outcome.next (if_pos overrun)
  · rw [refused h, report, State.refusalReport, if_neg Bool.false_ne_true,
      State.setFailReport_named (bit := bit) (by exact named) (by exact inactive)]
    rfl
  · rw [refused h]
    have same : ({ s with flb := { s.flb with dlinkDue := none, reportless := false } } : State).refusalReport
        s.flb.reportless = { s with flb := { s.flb with dlinkDue := none, reportless := false } } := by
      rcases none_ with reportless | named | active
      · rw [reportless]; rfl
      · exact (ite_eq_left_iff.mpr fun _ => State.setFailReport_none (.inl named))
      · exact (ite_eq_left_iff.mpr fun _ => State.setFailReport_none (.inr active))
    rw [same]
    rfl

end Sys2Proof.Machine

namespace Sys2Proof.Machine

/-! ## The effective policy of a range -/

theorem Region.has_iff (r : Region) (a : Nat) : r.has a = true ↔ r.base ≤ a ∧ a < r.base + r.len := by
  simp [Region.has]

theorem Region.touches_of_has {r : Region} {a start len : Nat} (has : r.has a = true) (low : start ≤ a)
    (high : a < start + len) : r.touches start len = true := by
  obtain ⟨base, limit⟩ := r.has_iff a |>.mp has
  simp only [Region.touches, Bool.and_eq_true, decide_eq_true_eq]
  omega

theorem le_passOver (regions : List Region) (fuel pos : Nat) : pos ≤ passOver regions fuel pos := by
  induction fuel generalizing pos with
  | zero => exact le_rfl
  | succ fuel ih =>
    unfold passOver
    split
    · rename_i r found
      obtain ⟨-, limit⟩ := (r.has_iff pos).mp (by simpa using List.find?_some found)
      exact limit.le.trans (ih _)
    · exact le_rfl

/-- What `passOver` passes over lies in the regions (R149). -/
theorem has_of_lt_passOver {regions : List Region} {fuel pos a : Nat} (low : pos ≤ a) (high : a < passOver regions fuel pos) :
    ∃ r ∈ regions, r.has a = true := by
  induction fuel generalizing pos with
  | zero => exact absurd high (by simpa [passOver] using low)
  | succ fuel ih =>
    unfold passOver at high
    split at high
    · rename_i r found
      obtain ⟨base, -⟩ := (r.has_iff pos).mp (by simpa using List.find?_some found)
      by_cases passed : r.base + r.len ≤ a
      · exact ih passed high
      · exact ⟨r, List.mem_of_find?_eq_some found, (r.has_iff a).mpr (by omega)⟩
    · omega

/-- Each region is passed over at most once: with as much fuel as regions still ahead, the address reached lies in
none. -/
theorem passOver_uncovered {regions ahead : List Region} {fuel pos : Nat}
    (rest : ∀ r ∈ regions, pos < r.base + r.len → r ∈ ahead) (fuel_ : ahead.length ≤ fuel) :
    ∀ r ∈ regions, r.has (passOver regions fuel pos) = false := by
  induction fuel generalizing pos ahead with
  | zero =>
    intro r mem
    refine Bool.eq_false_iff.mpr fun has => ?_
    have := rest r mem ((r.has_iff pos).mp has).2
    simp [List.length_eq_zero_iff.mp (Nat.le_zero.mp fuel_)] at this
  | succ fuel ih =>
    unfold passOver
    split
    · rename_i r found
      have mem := List.mem_of_find?_eq_some found
      obtain ⟨-, limit⟩ := (r.has_iff pos).mp (by simpa using List.find?_some found)
      have fewer := List.length_erase_of_mem (rest r mem limit)
      refine ih (ahead := ahead.erase r) (fun r' mem' limit' => ?_) (by omega)
      have other : r' ≠ r := by rintro rfl; omega
      exact (List.mem_erase_of_ne other).mpr (rest r' mem' (by omega))
    · rename_i none_
      exact fun r mem => by simpa using List.find?_eq_none.mp none_ r mem

/-- There is a gap in a span exactly where some address of it lies in no region (R149). -/
theorem hasGap_iff (regions : List Region) (start len : Nat) :
    hasGap regions start len = true ↔ ∃ a < start + len, start ≤ a ∧ ∀ r ∈ regions, r.has a = false := by
  rw [hasGap, decide_eq_true_iff]
  constructor
  · exact fun lt => ⟨_, lt, le_passOver regions _ start, passOver_uncovered (fun r mem _ => mem) le_rfl⟩
  · rintro ⟨a, high, low, free⟩
    refine lt_of_le_of_lt (le_of_not_gt fun lt => ?_) high
    obtain ⟨r, mem, has⟩ := has_of_lt_passOver low lt
    simp [free r mem] at has

theorem mostRestrictive_mem (best : Policy × Source) (cs : List (Policy × Source)) :
    mostRestrictive best cs ∈ best :: cs := by
  induction cs generalizing best with
  | nil => exact List.mem_singleton_self best
  | cons c cs ih =>
    by_cases lower : c.1.rank < best.1.rank
    · exact List.mem_cons_of_mem _ (by simpa only [mostRestrictive, if_pos lower] using ih c)
    · have mem := ih best
      simp only [mostRestrictive, if_neg lower, List.mem_cons] at mem ⊢
      exact mem.imp_right .inr

/-- A policy with its source goes before another: it is more restrictive, or as restrictive and not after it in the
order of the sources (R149). -/
def GoesBefore (place : Source → Nat) (a b : Policy × Source) : Prop :=
  a.1.rank < b.1.rank ∨ (a.1.rank = b.1.rank ∧ place a.2 ≤ place b.2)

theorem GoesBefore.trans {place : Source → Nat} {a b c : Policy × Source} (ab : GoesBefore place a b)
    (bc : GoesBefore place b c) : GoesBefore place a c := by
  unfold GoesBefore at *
  omega

/-- Of policies in order, the most restrictive one is the first of the lowest rank (R143, R149). -/
theorem mostRestrictive_first (place : Source → Nat) {best : Policy × Source} {cs : List (Policy × Source)}
    (sorted : (best :: cs).Pairwise fun a b => place a.2 ≤ place b.2) :
    ∀ c ∈ best :: cs, GoesBefore place (mostRestrictive best cs) c := by
  induction cs generalizing best with
  | nil => simp [mostRestrictive, GoesBefore]
  | cons x xs ih =>
    obtain ⟨first, second, tail⟩ : (∀ c ∈ x :: xs, place best.2 ≤ place c.2) ∧ (∀ c ∈ xs, place x.2 ≤ place c.2) ∧
        xs.Pairwise fun a b => place a.2 ≤ place b.2 := by
      simpa only [List.pairwise_cons] using sorted
    by_cases lower : x.1.rank < best.1.rank
    · have kept := ih (best := x) (List.pairwise_cons.mpr ⟨second, tail⟩)
      simp only [mostRestrictive, if_pos lower]
      exact List.forall_mem_cons.mpr ⟨(kept x List.mem_cons_self).trans (.inl lower), kept⟩
    · have kept := ih (best := best)
        (List.pairwise_cons.mpr ⟨fun c mem => first c (List.mem_cons_of_mem _ mem), tail⟩)
      have before : GoesBefore place best x := by
        have := first x List.mem_cons_self
        unfold GoesBefore
        omega
      obtain ⟨self, others⟩ := List.forall_mem_cons.mp kept
      simp only [mostRestrictive, if_neg lower]
      exact List.forall_mem_cons.mpr ⟨self, List.forall_mem_cons.mpr ⟨self.trans before, others⟩⟩

/-- The place of a source in the order that names the deciding one, of a table of this many windows (R149). -/
def Source.place (windows : Nat) : Source → Nat
  | .planRegion => 0
  | .journalRegion => 1
  | .window i => 2 + i
  | _ => 2 + windows

theorem mem_windowRegions {k : Nat} {ws : List Window} {r : Region} :
    r ∈ windowRegions k ws ↔
      ∃ i, ∃ w ∈ ws[i]?, ∃ q ∈ w.policy, r = ⟨.window (k + i), q, w.base, 2 ^ w.sizeLog⟩ := by
  induction ws generalizing k with
  | nil => simp [windowRegions]
  | cons w ws ih =>
    have later : r ∈ windowRegions (k + 1) ws ↔
        ∃ i, ∃ w' ∈ (w :: ws)[i + 1]?, ∃ q ∈ w'.policy, r = ⟨.window (k + (i + 1)), q, w'.base, 2 ^ w'.sizeLog⟩ := by
      rw [ih]
      simp only [List.getElem?_cons_succ, Nat.add_assoc, Nat.add_comm 1]
    have split_ (P : Nat → Prop) : (∃ i, P i) ↔ P 0 ∨ ∃ i, P (i + 1) :=
      ⟨fun ⟨i, h⟩ => by cases i with
        | zero => exact .inl h
        | succ i => exact .inr ⟨i, h⟩, fun h => h.elim (fun h => ⟨0, h⟩) fun ⟨i, h⟩ => ⟨i + 1, h⟩⟩
    rw [split_, ← later]
    cases policy : w.policy <;> simp [windowRegions, policy]

theorem windowRegions_sorted (n k : Nat) (ws : List Window) :
    (windowRegions k ws).Pairwise fun a b => a.source.place n ≤ b.source.place n := by
  induction ws generalizing k with
  | nil => exact .nil
  | cons w ws ih =>
    unfold windowRegions
    split
    · refine List.pairwise_cons.mpr ⟨fun r mem => ?_, ih _⟩
      obtain ⟨i, w', -, q, -, rfl⟩ := mem_windowRegions.mp mem
      simp only [Source.place]
      omega
    · exact ih _

theorem State.mem_regions {s : State} {r : Region} :
    r ∈ s.regions ↔
      r = s.planRegion ∨ (s.plan.sectorCount ≠ 0 ∧
        r = ⟨.journalRegion, .reserved, s.plan.journalBase, s.plan.sectorCount * s.plan.sectorSize⟩) ∨
      ∃ i < s.plan.windows.length, ∃ w ∈ s.plan.windows[i]?, ∃ q ∈ w.policy, r = ⟨.window i, q, w.base, 2 ^ w.sizeLog⟩ := by
  have journal : r ∈ s.plan.journalRegion ↔ s.plan.sectorCount ≠ 0 ∧
      r = ⟨.journalRegion, .reserved, s.plan.journalBase, s.plan.sectorCount * s.plan.sectorSize⟩ := by
    unfold Plan.journalRegion Plan.hasJournal
    by_cases h : s.plan.sectorCount = 0 <;> simp [h]
  simp only [State.regions, List.cons_append, List.mem_cons, List.mem_append, journal, mem_windowRegions, Nat.zero_add]
  refine or_congr_right (or_congr_right (exists_congr fun i => ⟨fun ⟨w, mem, h⟩ => ⟨?_, w, mem, h⟩, fun ⟨_, h⟩ => h⟩))
  exact (List.getElem?_eq_some_iff.mp (Option.mem_def.mp mem)).1

/-- The regions stand in the order that names the deciding source (R149). -/
theorem State.regions_sorted (s : State) (n : Nat) :
    s.regions.Pairwise fun a b => a.source.place n ≤ b.source.place n := by
  have windows := windowRegions_sorted n 0 s.plan.windows
  have rest : (s.plan.journalRegion ++ windowRegions 0 s.plan.windows).Pairwise
      fun a b => a.source.place n ≤ b.source.place n := by
    unfold Plan.journalRegion
    split
    · refine List.pairwise_cons.mpr ⟨fun r mem => ?_, windows⟩
      obtain ⟨i, w, -, q, -, rfl⟩ := mem_windowRegions.mp mem
      simp only [Source.place]
      omega
    · exact windows
  exact List.pairwise_cons.mpr ⟨fun r _ => Nat.zero_le _, rest⟩

/-- Every region's source goes before default_policy. -/
theorem State.place_le_default {s : State} {r : Region} (mem : r ∈ s.regions) :
    r.source.place s.plan.windows.length ≤ Source.default.place s.plan.windows.length := by
  rcases State.mem_regions.mp mem with rfl | ⟨-, rfl⟩ | ⟨i, lt, w, -, q, -, rfl⟩
  · exact Nat.zero_le _
  · simp only [Source.place]; omega
  · simp only [Source.place]; omega

/-- Those of the regions that count, with default_policy where it counts, stand in the order of the sources. -/
theorem State.counting_sorted (s : State) (counts : Region → Bool) (byDefault : Bool) :
    (((s.regions.filter counts).map fun r => (r.policy, r.source)) ++
      (if byDefault then [(s.plan.defaultPolicy, Source.default)] else [])).Pairwise
      fun a b => a.2.place s.plan.windows.length ≤ b.2.place s.plan.windows.length := by
  refine List.pairwise_append.mpr ⟨?_, ?_, ?_⟩
  · exact List.pairwise_map.mpr ((s.regions_sorted _).sublist List.filter_sublist)
  · cases byDefault <;> simp
  · intro a left b right
    obtain ⟨r, mem, rfl⟩ := List.mem_map.mp left
    cases byDefault with
    | false => simp at right
    | true =>
      obtain rfl := List.mem_singleton.mp right
      exact State.place_le_default (List.mem_of_mem_filter mem)

/-- An effective policy is one of those that count, and goes before each of the others (R149). -/
theorem State.effectivePolicy_first {s : State} {cls : FlashClass} {range : Range} (place : Source → Nat)
    (sorted : (s.counting range).Pairwise fun a b => place a.2 ≤ place b.2) (some_ : s.counting range ≠ [])
    (writes : cls = .program ∨ cls = .eraseSector ∨ cls = .eraseBlock ∨ cls = .eraseDevice) :
    ∃ b ∈ s.counting range, s.effectivePolicy cls range = (some b.1, b.2) ∧
      ∀ c ∈ s.counting range, GoesBefore place b c := by
  obtain ⟨first, rest, counting⟩ := List.exists_cons_of_ne_nil some_
  refine ⟨mostRestrictive first rest, counting ▸ mostRestrictive_mem first rest, ?_, ?_⟩
  · rcases writes with rfl | rfl | rfl | rfl <;> simp only [State.effectivePolicy, counting]
  · rw [counting] at sorted ⊢
    exact mostRestrictive_first place sorted

theorem State.counting_span (s : State) (start len : Nat) :
    s.counting (.span start len) = ((s.regions.filter fun r => r.touches start len).map fun r => (r.policy, r.source)) ++
      (if hasGap s.regions start len then [(s.plan.defaultPolicy, Source.default)] else []) := rfl

theorem State.counting_device (s : State) :
    s.counting .device = ((s.regions.filter fun _ => true).map fun r => (r.policy, r.source)) ++
      (if true then [(s.plan.defaultPolicy, Source.default)] else []) := by
  simp only [List.filter_true, if_true]
  rfl

/-- A span with an address in it has a policy that counts. -/
theorem State.counting_span_ne_nil (s : State) {start len : Nat} (pos : 0 < len) : s.counting (.span start len) ≠ [] := by
  rw [State.counting_span]
  by_cases gap : hasGap s.regions start len = true
  · simp [gap]
  · obtain ⟨r, mem, has⟩ : ∃ r ∈ s.regions, r.has start = true := by
      by_contra none_
      exact gap ((hasGap_iff _ _ _).mpr ⟨start, by omega, le_rfl, fun r mem =>
        Bool.eq_false_iff.mpr fun has => none_ ⟨r, mem, has⟩⟩)
    have touched := Region.touches_of_has has le_rfl (show start < start + len by omega)
    exact List.ne_nil_of_mem (List.mem_append_left _ (List.mem_map_of_mem (List.mem_filter.mpr ⟨mem, touched⟩)))

theorem State.counting_device_ne_nil (s : State) : s.counting .device ≠ [] := by
  rw [State.counting_device]
  simp

/-- A command whose policy is LOCKED's rank is refused in every state (R153). -/
theorem decide153_of_rank_le {cls : FlashClass} {q : Policy} (h : q.rank ≤ Policy.locked.rank)
    (writes : cls = .program ∨ cls = .eraseSector ∨ cls = .eraseBlock ∨ cls = .eraseDevice) (boc : BocState)
    (quiesce cover : Bool) : decide153 cls (some q) boc quiesce cover = .refuse .locked := by
  cases q with
  | locked => rcases writes with rfl | rfl | rfl | rfl <;> rfl
  | reserved | deferred | guarded | free => simp [Policy.rank] at h

theorem State.planRegion_locked {s : State} (h : s.planRegionLocked = true) : s.planRegion.policy = .locked := if_pos h

theorem State.planRegionLocked_iff (s : State) :
    s.planRegionLocked = true ↔ s.load.source = some .flash ∧ s.plan.lockFlag = true ∧ s.load.unlockHeld = false := by
  simp only [State.planRegionLocked, Bool.and_eq_true, beq_iff_eq, Bool.not_eq_true', and_assoc]

/-- A writing command's policy goes before that of each region its span touches, and before default_policy where the
span has a gap. -/
theorem State.spanPolicy_first {s : State} {cls : FlashClass} {start len : Nat}
    (writes : cls = .program ∨ cls = .eraseSector ∨ cls = .eraseBlock ∨ cls = .eraseDevice)
    (some_ : s.counting (.span start len) ≠ []) :
    ∃ b, s.effectivePolicy cls (.span start len) = (some b.1, b.2) ∧
      ((∃ r ∈ s.regions, r.touches start len = true ∧ b = (r.policy, r.source)) ∨
        (hasGap s.regions start len = true ∧ b = (s.plan.defaultPolicy, .default))) ∧
      (∀ r ∈ s.regions, r.touches start len = true →
        GoesBefore (Source.place s.plan.windows.length) b (r.policy, r.source)) ∧
      (hasGap s.regions start len = true →
        GoesBefore (Source.place s.plan.windows.length) b (s.plan.defaultPolicy, .default)) := by
  obtain ⟨b, mem, effective, first⟩ := State.effectivePolicy_first (Source.place s.plan.windows.length)
    (s.counting_span start len ▸ s.counting_sorted _ _) some_ writes
  rw [State.counting_span] at mem first
  refine ⟨b, effective, ?_, fun r region touched => first _ (List.mem_append_left _
    (List.mem_map_of_mem (List.mem_filter.mpr ⟨region, touched⟩))), fun gap => first _ (List.mem_append_right _ ?_)⟩
  · rcases List.mem_append.mp mem with mem | mem
    · obtain ⟨r, filtered, rfl⟩ := List.mem_map.mp mem
      obtain ⟨region, touched⟩ := List.mem_filter.mp filtered
      exact .inl ⟨r, region, touched, rfl⟩
    · by_cases gap : hasGap s.regions start len = true
      · rw [if_pos gap] at mem
        exact .inr ⟨gap, List.mem_singleton.mp mem⟩
      · simp [gap] at mem
  · rw [if_pos gap]
    exact List.mem_singleton_self _

/-- A whole-device erase's policy goes before that of every region and before default_policy. -/
theorem State.devicePolicy_first {s : State} {cls : FlashClass}
    (writes : cls = .program ∨ cls = .eraseSector ∨ cls = .eraseBlock ∨ cls = .eraseDevice) :
    ∃ b, s.effectivePolicy cls .device = (some b.1, b.2) ∧
      ((∃ r ∈ s.regions, b = (r.policy, r.source)) ∨ b = (s.plan.defaultPolicy, .default)) ∧
      (∀ r ∈ s.regions, GoesBefore (Source.place s.plan.windows.length) b (r.policy, r.source)) ∧
      GoesBefore (Source.place s.plan.windows.length) b (s.plan.defaultPolicy, .default) := by
  obtain ⟨b, mem, effective, first⟩ := State.effectivePolicy_first (Source.place s.plan.windows.length)
    (s.counting_device ▸ s.counting_sorted _ _) s.counting_device_ne_nil writes
  have counts (c : Policy × Source) : c ∈ s.counting .device ↔
      (∃ r ∈ s.regions, c = (r.policy, r.source)) ∨ c = (s.plan.defaultPolicy, .default) := by
    simp [State.counting_device, eq_comm]
  simp only [counts] at mem first
  exact ⟨b, effective, mem, fun r region => first _ (.inl ⟨r, region, rfl⟩), first _ (.inr rfl)⟩

/-- Settles O52, by `mostRestrictive_first` over the regions that count and `hasGap_iff` for default_policy. -/
theorem mostRestrictivePolicyGoverns : Obligations.MostRestrictivePolicyGoverns := by
  have rank_le {place : Source → Nat} {a b : Policy × Source} (h : GoesBefore place a b) : a.1.rank ≤ b.1.rank :=
    h.elim Nat.le_of_lt fun h => h.1.le
  refine ⟨fun cls start len q src boc quiesce cover s writes => ⟨fun effective => ?span, fun effective => ?device⟩,
    fun cls start len address range r s pos => ?_⟩
  case span =>
    have lowest : ∀ r ∈ s.regions, r.touches start len = true → q.rank ≤ r.policy.rank := by
      intro r region touched
      have some_ : s.counting (.span start len) ≠ [] := by
        rw [State.counting_span]
        exact List.ne_nil_of_mem (List.mem_append_left _ (List.mem_map_of_mem (List.mem_filter.mpr ⟨region, touched⟩)))
      obtain ⟨b, eff, -, regions, -⟩ := State.spanPolicy_first writes some_
      obtain ⟨rfl, rfl⟩ : q = b.1 ∧ src = b.2 := by simpa using effective.symm.trans eff
      exact rank_le (regions r region touched)
    refine ⟨lowest, fun locked touched => decide153_of_rank_le ?_ writes boc quiesce cover⟩
    exact State.planRegion_locked locked ▸ lowest _ (State.mem_regions.mpr (.inl rfl)) touched
  case device =>
    obtain ⟨b, eff, -, regions, default_⟩ := State.devicePolicy_first (s := s) writes
    obtain ⟨rfl, rfl⟩ : q = b.1 ∧ src = b.2 := by simpa using effective.symm.trans eff
    refine ⟨fun r region => rank_le (regions r region), rank_le default_, fun locked =>
      decide153_of_rank_le ?_ writes boc quiesce cover⟩
    exact State.planRegion_locked locked ▸ rank_le (regions _ (State.mem_regions.mpr (.inl rfl)))
  intro ranged place touched uncovered byDefault spanned whole decides locked aligned
  have place_eq : place = Source.place s.plan.windows.length := by
    funext source
    cases source <;> rfl
  have gap_iff : hasGap s.regions start len = true ↔ uncovered := by
    rw [hasGap_iff]
    simp only [← Bool.not_eq_true, Region.has_iff]
    rfl
  have decides_of {e : Option Policy × Source} {b : Policy × Source} {q : Policy} {source : Source}
      (e_eq : e = (some b.1, b.2)) (h : GoesBefore (Source.place s.plan.windows.length) b (q, source)) :
      decides e q source := by
    subst e_eq
    simp only [decides, place_eq, Option.any_some, decide_eq_true_eq]
    exact h
  refine ⟨fun ranged => ?_, fun device => ?_, fun reg => by rw [reg]; rfl, fun block => by rw [block]; rfl, ?_, ?_⟩
  · obtain ⟨b, eff, source, regions, default_⟩ := State.spanPolicy_first (s := s) (cls := cls)
      (by rcases ranged with h | h | h <;> simp [h]) (s.counting_span_ne_nil pos)
    refine ⟨source.imp ?_ ?_, fun x region touched => decides_of eff (regions x region touched),
      fun gap => decides_of eff (default_ (gap_iff.mpr gap))⟩
    · rintro ⟨x, region, touched, rfl⟩
      exact ⟨x, region, touched, eff⟩
    · rintro ⟨gap, rfl⟩
      exact ⟨gap_iff.mp gap, eff⟩
  · obtain ⟨b, eff, source, regions, default_⟩ := State.devicePolicy_first (s := s) (cls := cls) (by simp [device])
    refine ⟨source.imp ?_ ?_, fun x region => decides_of eff (regions x region), decides_of eff default_⟩
    · rintro ⟨x, region, rfl⟩
      exact ⟨x, region, eff⟩
    · rintro rfl
      exact eff
  · have plan_ : s.planRegion =
        ⟨.planRegion, if locked then .locked else .guarded, 2 ^ s.load.strap.toNat * 0x100000 - 0x4000, 0x4000⟩ := by
      simp only [State.planRegion, planRegionBase, planRegionSize, Nat.mul_comm 0x100000]
      rw [if_congr s.planRegionLocked_iff rfl rfl]
    exact plan_ ▸ State.mem_regions
  · have span (log : Nat) : alignedSpan (2 ^ log) address = aligned log := by
      have := Nat.div_add_mod address (2 ^ log)
      rw [alignedSpan, Nat.mul_comm]
      exact congrArg (Range.span · _) (by omega)
    cases cls <;> simp only [Plan.affectedRange, Plan.pageSize, Plan.sectorSize, Plan.blockSize, span]

end Sys2Proof.Machine

namespace Sys2Proof.Machine

/-! ## The Journal Unit's quiet work and its SURVIVAL work -/

theorem Record.length_bytes (r : Record) (lost : Nat) (seq : Word32) : (r.bytes lost seq).length = 64 * r.body.slots := by
  rw [r.bytes_eq, List.length_append, r.front_length, leBytes_length]
  obtain h | h := r.body.slots_cases <;> rw [h]

theorem State.quiet_iff (s : State) : s.quiet = true ↔ s.mainActive = true ∨ s.eng.board = .down := by
  simp only [State.quiet, Bool.or_eq_true, beq_iff_eq]

theorem State.quietWorkState_iff (s : State) :
    s.quietWorkState = true ↔
      s.boc.state = .init ∨ s.boc.state = .normal ∨ (s.boc.state = .dark ∧ s.boc.survival = .ended) := by
  unfold State.quietWorkState
  cases s.boc.state <;> simp

theorem Plan.hasJournal_iff (p : Plan) : p.hasJournal = true ↔ p.sectorCount ≠ 0 := by simp [Plan.hasJournal]

theorem State.quietWorkAllowed_iff (s : State) :
    s.quietWorkAllowed = true ↔
      s.applied = true ∧ s.plan.sectorCount ≠ 0 ∧ (s.mainActive = true ∨ s.eng.board = .down) ∧
        s.eng.quietHold = false ∧ s.jnu.work = none ∧
        (s.boc.state = .init ∨ s.boc.state = .normal ∨ (s.boc.state = .dark ∧ s.boc.survival = .ended)) := by
  simp only [State.quietWorkAllowed, Bool.and_eq_true, Plan.hasJournal_iff, State.quiet_iff, State.quietWorkState_iff,
    Bool.not_eq_true', Option.isNone_iff_eq_none]
  tauto

/-- No record is handed where none is queued, or none may be written: room 0 and the next sector not known to be erased
(R169). -/
theorem State.handHead_none {s : State} {ring : Ring} (at_ : s.jnu.ring = some ring) (unknown : s.jnu.nextErased = false)
    (h : s.jnu.queue = [] ∨ ring.room = 0) : s.handHead = none := by
  unfold State.handHead
  split
  · rfl
  · rename_i r rest queue
    have full : ring.room = 0 := h.resolve_left (by rw [queue]; nofun)
    simp [State.handRecord, Journal.forRecord, at_, full, unknown]

/-- Settles O57, by the cases of `State.handHead` and `State.handErase` under the conditions of quiet work. -/
theorem quietWorkWritesOrErasesAhead : Obligations.QuietWorkWritesOrErasesAhead := by
  intro r rest ring s e place write next slots allowed bytes handed head x erase
  have begins (h : allowed) {i : Issue} {t : State} (hand : s.handHead = some (i, t)) :
      s.quietWork = some (t.offerOp i) := by
    unfold State.quietWork
    rw [if_pos (s.quietWorkAllowed_iff.mpr h), hand]
  have quiet (h : allowed) : s.quiet = true := s.quiet_iff.mpr h.2.2.1
  have size (one : r.body.slots = 1) : bytes.length = 64 := by rw [Record.length_bytes, one]
  refine ⟨fun ⟨⟨ok, at_, queue, one⟩, room⟩ => ?room, fun ⟨⟨ok, at_, queue, one⟩, full, erased⟩ => ?next,
    fun ⟨ok, at_, unknown, nothing⟩ => ?erase, fun ⟨empty, erased⟩ => ?idle, fun shut => ?shut⟩
  case room =>
    rw [begins ok (i := write ring.sector ring.slot bytes)
      (t := s.handed { ring with nextSeq := ring.nextSeq + 1, slot := ring.slot + 1, room := ring.room - 1 }
        s.jnu.nextErased .record)]
    · simp only [State.handed, State.modJnu, quiet ok]
      rfl
    · simp only [State.handHead, queue, State.handRecord, Journal.forRecord, at_, if_pos room, write, size one]
      rfl
  case next =>
    rw [begins ok (i := write next 0 bytes)
      (t := s.handed ⟨ring.nextSeq + 1, next, 1, slots - 1⟩ false .record)]
    · simp only [State.handed, State.modJnu, quiet ok]
      rfl
    · simp only [State.handHead, queue, State.handRecord, Journal.forRecord, at_, full, erased, write, size one]
      rfl
  case erase =>
    have wanted : (s.plan.hasJournal && !s.jnu.nextErased) = true := by
      simp [Plan.hasJournal_iff, unknown, ok.2.1]
    have hand : s.handErase = some (erase, { s with jnu := { s.jnu with work := some ⟨.eraseAhead, true⟩ } }) := by
      unfold State.handErase
      simp only [at_, if_pos wanted, State.modJnu, quiet ok, erase, place, Nat.zero_mul, Nat.add_zero]
      rfl
    unfold State.quietWork
    rw [if_pos (s.quietWorkAllowed_iff.mpr ok), State.handHead_none at_ unknown nothing, hand]
    rfl
  case idle =>
    have head_ : s.handHead = none := by simp [State.handHead, empty]
    have erase_ : s.handErase = none := by
      unfold State.handErase
      split <;> simp [erased]
    unfold State.quietWork
    rw [head_, erase_, ite_self]
  case shut =>
    exact if_neg fun h => shut (s.quietWorkAllowed_iff.mp h)

/-- A record offered leaves the SURVIVAL work as it is. -/
theorem Journal.offered_survival (j : Journal) (p : Plan) (r : Record) (v : SurvivalStage) :
    ({ j with survival := v } : Journal).offered p [r] = { j.offered p [r] with survival := v } := by
  unfold Journal.offered Journal.offered
  split
  · rfl
  · split <;> rfl

/-- A command leaves nothing parked where nothing is. -/
theorem State.parkedAtState_empty {s : State} (empty : s.adu.parked = none) : s.parkedAtState = s := by
  unfold State.parkedAtState
  rw [empty]

theorem Plan.slotAddress_next (p : Plan) (r : Ring) :
    p.slotAddress r + 64 = p.journalBase + r.sector * p.sectorSize + (r.slot + 1) * 64 := by
  unfold Plan.slotAddress
  omega

theorem State.handRecord_room {s : State} {ring : Ring} (at_ : s.jnu.ring = some ring) (room : 1 ≤ ring.room) (r : Record)
    (k : WorkKind) :
    s.handRecord r k = some (s.plan.internalIssue .program (s.plan.slotAddress ring) 64 (r.bytes s.jnu.lost ring.nextSeq),
      s.handed (ring.pass 1) s.jnu.nextErased k) := by
  simp only [State.handRecord, Journal.forRecord, at_, if_pos room]

/-- Settles O58: the entry to DARK, each end of the wait, the writing of the record by the room at the write position, and
the ends of its operations. -/
theorem survivalWorkWritesOrLosesTheRecord : Obligations.SurvivalWorkWritesOrLosesTheRecord := by
  intro r f ring i since quiet stuck s e place write next slots waits noted body built freed space ready lost ended report pad
    written ending dark down descending
  have both : s.eng.bothDown = true ↔ down := by simp [Engine.bothDown, down]
  have descends (h : descending) : s.bocReact = if s.eng.bothDown then some s.enterDark else none := by
    simp [State.bocReact, h.1, h.2]
  have darkens (applied : s.applied = true) (state : s.boc.state = .dark) :
      s.bocReact = if s.boc.mainsMet && s.boc.survival == .ended then some s.rearm else none := by
    simp [State.bocReact, applied, state]
  have waitEnd (h : waits) (inflight : s.flb.inflight = none) : s.survivalWaitEnd =
      if s.flb.tenure.isNone then some (s.survivalJudge (r.withWait (min 65535 ((s.clock - since) / 9600)))) else none := by
    simp only [State.survivalWaitEnd, show s.jnu.survival = _ from h, inflight]
    rfl
  have overrunEnd (h : waits) (inflight : s.flb.inflight = some f) : s.survivalWaitEnd =
      if f.overrun then some (s.survivalOverrun f) else none := by
    simp only [State.survivalWaitEnd, show s.jnu.survival = _ from h, inflight]
  have hasSpace (at_ : s.jnu.ring = some ring) : s.jnu.survivalSpace = true ↔ space := by
    simp only [Journal.survivalSpace, at_, Bool.or_eq_true, decide_eq_true_eq, space, or_comm]
  have hands (h : ready) : s.survivalWaitEnd = some (s.survivalHand r) := by
    simp only [State.survivalWaitEnd, h.1, h.2.1, Option.isNone_none, if_true]
  have writes (t : State) (g : Ring) (erased : Bool) (plan : t.plan = s.plan) (still : t.quiet = s.quiet)
      (two : r.body.slots = 2) : t.writeSurvival r g erased = written t g erased := by
    have size : (r.bytes t.jnu.lost g.nextSeq).length = 128 := by rw [Record.length_bytes, two]
    have first : ((r.bytes t.jnu.lost g.nextSeq).take 64).length = 64 := by rw [List.length_take, size]; rfl
    have second : ((r.bytes t.jnu.lost g.nextSeq).drop 64).length = 64 := by rw [List.length_drop, size]
    have first_ : place g.sector g.slot = s.plan.slotAddress g := rfl
    have second_ : place g.sector (g.slot + 1) = s.plan.slotAddress g + 64 := (s.plan.slotAddress_next g).symm
    simp only [State.writeSurvival, State.handed, State.modJnu, State.offerOp, State.modFlb, plan, still, written, write,
      Plan.pageSize, beq_iff_eq, first_, second_]
    by_cases page : s.plan.slotAddress g / 2 ^ s.plan.pageLog = (s.plan.slotAddress g + 64) / 2 ^ s.plan.pageLog
    · simp only [if_pos page, size]
      rfl
    · simp only [if_neg page, first, second]
      rfl
  refine ⟨fun ⟨h, two, empty⟩ => ?dark, fun ⟨h, not⟩ => ?stays, fun none_ => ?noJournal, fun some_ => ?begin,
    fun ⟨h, inflight, overrun⟩ => ?flight, fun ⟨h, inflight, tenure⟩ => ?tenure,
    fun ⟨h, inflight, overrun, journal⟩ => ?overrun, fun ⟨⟨h, inflight, tenure⟩, at_, full⟩ => ?noSpace,
    fun ⟨⟨h, inflight, tenure⟩, at_, room⟩ => ?ready, fun ⟨h, work⟩ => ?busy, fun ⟨h, room⟩ => ?here,
    fun ⟨h, room⟩ => ?next, fun ⟨h, room⟩ => ?pad, fun ⟨work, padding, at_, two⟩ => ?padEnd, fun work => ?second,
    fun work => ?last, fun ⟨applied, state, met, done⟩ => ?rearm, fun ⟨applied, state, met, undone⟩ => ?waits⟩
  case dark =>
    rw [descends h, if_pos (both.mpr two)]
    simp only [State.enterDark]
    rw [State.parkedAtState_empty (by exact empty)]
    simp only [msCounts]
    rfl
  case stays => rw [descends h, if_neg fun two => not (both.mp two)]
  case noJournal => exact if_neg fun journal => s.plan.hasJournal_iff.mp journal none_
  case begin => exact if_pos (s.plan.hasJournal_iff.mpr some_)
  case flight => rw [overrunEnd h inflight, overrun]; rfl
  case tenure =>
    rw [waitEnd h inflight, if_neg fun free => tenure (Option.isNone_iff_eq_none.mp free)]
  case overrun =>
    rw [overrunEnd h inflight, if_pos overrun]
    rw [show lost s.jnu = { s.addLost.jnu with survival := .none } from rfl, Journal.offered_survival,
      State.survivalOverrun, State.offerRecord_eq]
    rfl
  case noSpace =>
    rw [waitEnd h inflight, if_pos (by simp [tenure]), State.survivalJudge, if_neg fun h => full ((hasSpace at_).mp h)]
    rfl
  case ready =>
    rw [waitEnd h inflight, if_pos (by simp [tenure]), State.survivalJudge, if_pos ((hasSpace at_).mpr room)]
    rfl
  case busy =>
    have busy : s.jnu.work.isNone = false := by simpa [Option.isSome_iff_ne_none] using work
    simp only [State.survivalWaitEnd, h, busy, Bool.false_eq_true, if_false]
  case here =>
    obtain ⟨-, -, at_, two⟩ := id h
    rw [hands h, State.survivalHand, at_]
    exact congrArg some ((if_pos room).trans (writes s _ _ rfl rfl two))
  case next =>
    obtain ⟨-, -, at_, two⟩ := id h
    rw [hands h, State.survivalHand, at_]
    refine congrArg some ((if_neg (by omega)).trans ((if_neg (by omega)).trans (writes s _ _ rfl rfl two)))
  case pad =>
    obtain ⟨-, -, at_, two⟩ := id h
    rw [hands h, State.survivalHand, at_]
    refine congrArg some ((if_neg (by omega)).trans ((if_pos room).trans ?_))
    rw [State.handRecord_room at_ (by omega)]
    have size : (pad.bytes s.jnu.lost ring.nextSeq).length = 64 := Record.length_bytes _ _ _
    simp only [write, size]
    rfl
  case padEnd =>
    unfold State.workEnd
    rw [show s.jnu.work = _ from work]
    simp only [State.modJnu, padding, at_]
    exact writes { s with jnu := { s.jnu with work := none } } ring _ rfl rfl two
  case second =>
    unfold State.workEnd
    rw [show s.jnu.work = _ from work]
    rfl
  case last =>
    unfold State.workEnd
    rw [show s.jnu.work = _ from work]
    rfl
  case rearm =>
    exact ⟨s.rearm, by rw [darkens applied state]; simp [met, done], s.rearm_normal⟩
  case waits =>
    rw [darkens applied state]
    simp [undone]

end Sys2Proof.Machine

namespace Sys2Proof.Machine

/-! ## Transactions on the U-link -/

theorem FlashClass.exec_opening (cls : FlashClass) (opcode : Byte) (bytes : List Byte) (s : State) :
    exec (cls.event .opening opcode bytes) s = .next (s.openXfer cls opcode) := by cases cls <;> rfl

theorem FlashClass.exec_asserted (cls : FlashClass) (opcode : Byte) (bytes : List Byte) (s : State) :
    exec (cls.event .asserted opcode bytes) s = .next s.assertXfer := by cases cls <;> rfl

theorem FlashClass.exec_closing (cls : FlashClass) (opcode : Byte) (bytes : List Byte) (s : State) :
    exec (cls.event .closing opcode bytes) s =
      .next (s.closeXfer (some opcode) (if cls.buffered then bytes else [])) := by cases cls <;> rfl

/-- A whole transaction is its opening and its closing (R123). -/
theorem FlashClass.exec_whole (cls : FlashClass) (opcode : Byte) (bytes : List Byte) {s : State} (fresh : s.flb.xfer = none) :
    exec (cls.event .whole opcode bytes) s =
      .next ((s.openXfer cls opcode).closeXfer (some opcode) (if cls.buffered then bytes else [])) := by
  have free : s.flb.xfer.isNone = true := by simp [fresh]
  have whole (b : List Byte) : s.linkEvent cls .whole opcode b = (s.openXfer cls opcode).closeXfer (some opcode) b := if_pos free
  cases cls <;> exact congrArg Host.Outcome.next (whole _)

/-- No transaction is in progress, or one whose eighth bit has not come. -/
theorem State.awaitsOpcode_of {s : State} {passed : Bool}
    (h : s.flb.xfer = none ∨ s.flb.xfer = some (.selected passed)) : s.awaitsOpcode = true := by
  unfold State.awaitsOpcode
  rcases h with h | h <;> rw [h]

/-- The eighth edge of an opcode that the bridge takes part in, its class being that of the command (R123). -/
theorem State.openXfer_taken {s : State} {cls : FlashClass} {opcode : Byte} (released : s.released = true)
    (awaits : s.awaitsOpcode = true) (heeds : s.linkIgnores = false) (same : (s.plan.classOf opcode).cls = cls) :
    s.openXfer cls opcode =
      match s.flb.tenure with
      | some t => s.tenureOpcode opcode (s.plan.classOf opcode) t
      | none => s.relayOpcode opcode (s.plan.classOf opcode) := by
  unfold State.openXfer
  rw [if_neg (by simp [released, awaits]), if_neg (by simp [heeds])]
  exact (if_neg (not_not.mpr same)).trans (by cases s.flb.tenure <;> rfl)

theorem State.openXfer_ignored {s : State} {cls : FlashClass} {opcode : Byte} (released : s.released = true)
    (awaits : s.awaitsOpcode = true) (ignores : s.linkIgnores = true) :
    s.openXfer cls opcode = s.setXfer (.ignored opcode) .undriven := by
  simp [State.openXfer, released, awaits, ignores]

/-- The bridge heeds a transaction in RELAY with no transaction in progress or one begun there. -/
theorem State.linkIgnores_relay {s : State} (mode : s.flb.mode = .relay)
    (h : s.flb.xfer = none ∨ s.flb.xfer = some (.selected true)) : s.linkIgnores = false := by
  unfold State.linkIgnores
  rcases h with h | h <;> simp [mode, h]

theorem State.assertXfer_fresh {s : State} (released : s.released = true) (fresh : s.flb.xfer = none) :
    s.assertXfer =
      s.setXfer (.selected (s.flb.mode == .relay)) (if s.flb.mode = .relay then .relayed else .undriven) := by
  simp [State.assertXfer, released, fresh]

theorem State.closeXfer_own {s : State} {x : Xfer} (inProgress : s.flb.xfer = some x) (bytes : List Byte) :
    s.closeXfer x.opcode bytes = (s.endXfer x bytes).settle := by
  unfold State.closeXfer
  rw [inProgress]
  exact if_pos rfl

/-- A classed transaction that is not buffered and no fail report concerns is relayed (R123, R140). -/
theorem State.relayOpcode_passes {s : State} {opcode : Byte} {c : Classed} (passes : c.cls.buffered = false)
    (report : ¬ (c.cls = .statusRead ∧ s.flb.failReport ≠ none)) :
    s.relayOpcode opcode c =
      { s with flb := { s.flb with xfer := some (.relayed opcode), uOut := .relayed, failReport := none } } := by
  unfold State.relayOpcode
  cases pending : s.flb.failReport with
  | none => simp [State.relayOpen, passes, State.setXfer, State.modFlb, pending]
  | some bit =>
    have other : c.cls ≠ .statusRead := fun h => report ⟨h, by simp [pending]⟩
    simp [State.relayOpen, passes, State.setXfer, State.modFlb, State.clearFailReport, other]

/-- A classed transaction that is buffered becomes an intake (R124). -/
theorem State.relayOpcode_intake {s : State} {opcode : Byte} {c : Classed} (takes : c.cls.buffered = true) :
    s.relayOpcode opcode c =
      { s with flb := { s.flb with xfer := some (.intake opcode c.cls s.sense.uptime), uOut := .undriven, failReport := none } } := by
  unfold State.relayOpcode
  cases pending : s.flb.failReport with
  | none => simp [State.relayOpen, takes, State.setXfer, State.modFlb, pending]
  | some bit =>
    have other : c.cls ≠ .statusRead := by
      intro h
      simp [h, FlashClass.buffered] at takes
    simp [State.relayOpen, takes, State.setXfer, State.modFlb, State.clearFailReport, other]

/-- Settles O47, by the opening of a transaction in RELAY and its closing. -/
theorem relayedTransactions : Obligations.RelayedTransactions := by
  intro cls opcode bit bytes s released early mode noTenure c opened answered closed passes fresh asserted
  have awaits := State.awaitsOpcode_of early
  have heeds := State.linkIgnores_relay mode early
  have opens (same : c.cls = cls) : s.openXfer cls opcode = s.relayOpcode opcode c := by
    rw [State.openXfer_taken released awaits heeds same, noTenure]
  have passed (h : passes) : s.openXfer cls opcode = opened := by
    obtain ⟨same, unbuffered, report⟩ := h
    rw [opens same]
    exact State.relayOpcode_passes (same ▸ unbuffered) (same ▸ report)
  have reports (same : c.cls = .statusRead) (pending : s.flb.failReport = some bit) :
      s.openXfer .statusRead opcode = answered := by
    rw [State.openXfer_taken released awaits heeds same, noTenure]
    unfold State.relayOpcode
    simp only [pending, show (s.plan.classOf opcode).cls = _ from same, if_true]
    rfl
  have begins (h : fresh) : s.assertXfer = asserted := by
    rw [State.assertXfer_fresh released h, mode]
    rfl
  refine ⟨fun h => ⟨?_, ?_⟩, fun ⟨new, h⟩ => ?_, fun ⟨same, pending⟩ => ⟨?_, ?_⟩, fun ⟨same, pending, new⟩ => ?_,
    fun other => ?_, fun new => ⟨?_, ?_, ?_, ?_⟩, fun new => ?_, fun old => ⟨?_, ?_⟩⟩
  · rw [cls.exec_opening, passed h]
  · simp [State.relayClosed, opened, mode]
  · rw [cls.exec_whole _ _ new, passed h]
    exact congrArg Host.Outcome.next (State.closeXfer_own (s := opened) (x := .relayed opcode) rfl _)
  · exact congrArg Host.Outcome.next (reports same pending)
  · simp [State.relayClosed, answered]
  · refine (FlashClass.exec_whole .statusRead opcode [] new).trans ?_
    rw [reports same pending]
    exact congrArg Host.Outcome.next (State.closeXfer_own (s := answered) (x := .failAnswer opcode) rfl _)
  · have other' : (s.plan.classOf opcode).cls ≠ cls := other
    rw [cls.exec_opening]
    simp [State.openXfer, released, awaits, heeds, other']
  · rw [cls.exec_asserted, begins new]
  · exact congrArg Host.Outcome.next (begins new)
  · exact congrArg Host.Outcome.next (begins new)
  · simp [State.relayClosed, asserted, mode]
  · have free : s.flb.xfer.isNone = true := by simp [show s.flb.xfer = none from new]
    refine congrArg Host.Outcome.next ((if_pos free).trans ?_)
    rw [begins new]
    exact State.closeXfer_own (s := asserted) (x := .selected true) rfl _
  · exact congrArg Host.Outcome.next (State.closeXfer_own (early.resolve_left old) [])
  · rw [cls.exec_asserted]
    have busy : s.flb.xfer.isSome = true := by simp [early.resolve_left old]
    simp [State.assertXfer, busy]

/-- With the switch open a transaction in progress has the part's own answer on its lanes. -/
theorem State.uioPins_answer {s : State} {x : Xfer} {clock : Nat} (switch : s.relayClosed = false)
    (inProgress : s.flb.xfer = some x) : s.uioPins clock = s.flb.uOut.lanesAt clock := by
  simp [State.uioPins, switch, inProgress]

theorem UOut.lanesAt_status (b : Byte) (lanes clock : Nat) :
    (UOut.status b lanes).lanesAt clock = some (Vector.ofFn fun lane => if decide (lane.val < lanes) = true then
      (if b.getLsbD (8 - lanes * (clock % (8 / lanes) + 1) + lane.val) = true then .high else .low) else .undriven) := by
  exact congrArg some (congrArg Vector.ofFn (funext fun lane => (if_congr decide_eq_true_iff rfl rfl).symm))

theorem UOut.lanesAt_allOnes (addrBytes addrLanes dataLanes clock : Nat) :
    (UOut.allOnes addrBytes addrLanes dataLanes).lanesAt clock = some (Vector.ofFn fun lane =>
      if decide (addrBytes * 8 / addrLanes ≤ clock ∧ lane.val < dataLanes) = true then .high else .undriven) := by
  unfold UOut.lanesAt laneClocks
  by_cases early : clock < addrBytes * 8 / addrLanes
  · simp only [if_pos early, Nat.not_le.mpr early, false_and, decide_false, Bool.false_eq_true, if_false]
    rfl
  · simp only [if_neg early, Nat.not_lt.mp early, true_and, decide_eq_true_eq]

/-- Settles O48, by the opening of a transaction under a tenure or while the bridge ignores it, and the lanes of the
answers. -/
theorem transactionsUnderATenure : Obligations.TransactionsUnderATenure := by
  intro cls opcode bytes ten passed clock s released early c under record answered closed off levels busy
  have awaits := State.awaitsOpcode_of early
  have opens (h : under) : s.openXfer cls opcode = s.tenureOpcode opcode c ten := by
    obtain ⟨mode, tenure, inactive, same⟩ := h
    have heeds : s.linkIgnores = false := by simp [State.linkIgnores, mode, inactive]
    rw [State.openXfer_taken released awaits heeds same, tenure]
  have shut (h : off) : s.relayClosed = false := by
    unfold State.relayClosed
    rcases h with mode | mode <;> simp [mode]
  refine ⟨fun ⟨h, status⟩ => ?_, fun ⟨h, other⟩ => ?_, fun ignores => ?_, fun h x member => ?_, fun ⟨apart, new⟩ => ?_,
    fun ⟨apart, new⟩ => ⟨shut apart, ?_⟩, fun ⟨mode, x⟩ => ?_, fun ⟨⟨mode, _⟩, _, _⟩ => ?_,
    fun ⟨⟨mode, _⟩, _⟩ => ?_⟩
  · have same : c.cls = .statusRead := h.2.2.2.trans status
    rw [cls.exec_opening, opens h, State.tenureOpcode, if_pos same]
    rfl
  · have same : c.cls = cls := h.2.2.2
    rw [cls.exec_opening, opens h, State.tenureOpcode, if_neg (same ▸ other), State.offerRecord_eq, same]
    rfl
  · have ignored : s.linkIgnores = true := by
      unfold State.linkIgnores
      rcases ignores with mode | ⟨mode, active⟩ | ⟨mode, x⟩
      · rw [mode]
      · rw [mode]; exact active
      · rw [mode, x]; rfl
    rw [cls.exec_opening, State.openXfer_ignored released awaits ignored]
    rfl
  · rw [cls.exec_closing]
    have own : x.opcode = some opcode := by
      simp only [List.mem_cons, List.not_mem_nil, or_false] at member
      rcases member with rfl | rfl | rfl <;> rfl
    rw [← own, State.closeXfer_own (x := x) rfl]
    simp only [List.mem_cons, List.not_mem_nil, or_false] at member
    rcases member with rfl | rfl | rfl <;> rfl
  · rw [cls.exec_asserted, State.assertXfer_fresh released new]
    rcases apart with mode | mode <;> rw [mode] <;> rfl
  · rw [State.uioPins, shut apart, new]
    rfl
  · simp [State.relayClosed, x]
  · rw [State.uioPins_answer (x := .localAnswer opcode) (by simp [State.relayClosed, answered, mode]) rfl]
    exact UOut.lanesAt_status busy c.dataLanes clock
  · rw [State.uioPins_answer (x := .violation opcode) (by simp [State.relayClosed, answered, mode]) rfl]
    exact UOut.lanesAt_allOnes c.addrBytes c.addrLanes c.dataLanes clock

end Sys2Proof.Machine

namespace Sys2Proof.Machine

/-! ## The fate of a buffered command -/

theorem FlashClass.keepsData_iff (cls : FlashClass) : cls.keepsData = true ↔ cls = .program ∨ cls = .regWrite := by
  cases cls <;> simp [FlashClass.keepsData]

theorem droppedIntake_iff (cls : FlashClass) (addrBytes : Nat) (bytes : List Byte) :
    droppedIntake cls addrBytes bytes = true ↔ bytes.length < addrBytes ∨ (cls = .program ∧ bytes.length = addrBytes) := by
  simp [droppedIntake]

/-- Records offered one after another. -/
theorem Journal.offered_append (j : Journal) (p : Plan) (rs : List Record) (r : Record) :
    j.offered p (rs ++ [r]) = (j.offered p rs).offered p [r] := by
  induction rs generalizing j with
  | nil => rfl
  | cons x xs ih => exact ih _

/-- A command refused at its hand-off is recorded as one that was not parked (R162, R163). -/
theorem State.refuseCommand_fresh {s : State} (empty : s.adu.parked = none) (c : Command) (reason : RefusalReason) :
    s.refuseCommand c reason =
      { s with
        jnu := s.jnu.offered s.plan [⟨.refusal reason c false 0 s.adu.latest, s.boc.state, s.sense.uptime⟩]
        adu := { s.adu with hold := none }
        flb := { s.flb with
                 tenure := s.flb.tenure.map fun ten => { ten with phase := .refusing }
                 dlinkDue := some (s.clock + 8 * (s.plan.div + 1)), reportless := false } } := by
  have counts : s.plan.refusing.counts = 8 * (s.plan.div + 1) := s.plan.refusing_counts
  simp only [State.refuseCommand, State.offerRecord_eq, State.emptySlot, State.fateRefuse, State.setPhase, State.modAdu,
    State.modFlb, empty, parkedMs, counts, Option.isSome_none, Bool.false_and]

/-- Settles O49: the opening of an intake, and at its end the command by its fate. -/
theorem bufferedCommandTakesItsFate : Obligations.BufferedCommandTakesItsFate := by
  intro cls op opcode bytes begun reason s released buffered same mode noTenure empty c data address range policy command clipped
    fate tenure received dropped refusal issue clocks
  have command_eq : ({ s with flb := { s.flb with xfer := none } } : State).bufferedCommand opcode cls begun bytes = command := by
    have keeps : (if cls.keepsData then data.take 256 else []) =
        if cls = .program ∨ cls = .regWrite then data.take 256 else [] := if_congr cls.keepsData_iff rfl rfl
    simp only [command, ← keeps]
    rfl
  let opened : State :=
    { s with
      jnu := s.jnu.offered s.plan clipped
      flb := { s.flb with xfer := none, mode := .tenure, tenure := tenure .deciding } }
  have clips : (({ s with flb := { s.flb with xfer := none } } : State).reportClipped command) =
      { s with jnu := s.jnu.offered s.plan clipped, flb := { s.flb with xfer := none } } := by
    have long : (command.cls.keepsData && decide (Config.bufferBytes < command.clocked)) = true ↔
        (cls = .program ∨ cls = .regWrite) ∧ 256 < data.length := by
      have counted : decide (256 < min 65535 data.length) = true ↔ 256 < data.length := by
        rw [decide_eq_true_iff]
        omega
      rw [Bool.and_eq_true]
      exact and_congr cls.keepsData_iff counted
    unfold State.reportClipped
    by_cases h : (cls = .program ∨ cls = .regWrite) ∧ 256 < data.length
    · rw [if_pos (long.mpr h), State.offerRecord_eq, show clipped = _ from if_pos h]
    · rw [if_neg (long.not.mpr h), show clipped = _ from if_neg h]
      rfl
  have closes (h : received) : exec (cls.event .closing opcode bytes) s =
      .next (({ s with flb := { s.flb with xfer := none } } : State).endIntake opcode cls begun bytes).settle := by
    rw [cls.exec_closing, if_pos buffered]
    exact congrArg Host.Outcome.next (State.closeXfer_own (x := .intake opcode cls begun) h bytes)
  have takes (h : received) (whole : ¬ dropped) : exec (cls.event .closing opcode bytes) s =
      .next (opened.takeCommand command).settle := by
    rw [closes h, State.endIntake, if_neg fun drop => whole ((droppedIntake_iff _ _ _).mp drop), command_eq]
    simp only [clips]
    rfl
  have decided : decide153 command.cls command.policy opened.boc.state opened.eng.quiesceHold
      (covered opened.adu.latest command.cls) = fate := rfl
  refine ⟨fun early => ?opening, fun ⟨h, drop⟩ => ?dropped, fun ⟨h, whole, granted, asks⟩ => ?admitted,
    fun ⟨h, whole, park⟩ => ?parked, fun ⟨h, whole, refuse⟩ => ?refused⟩
  case opening =>
    rw [cls.exec_opening, State.openXfer_taken released (State.awaitsOpcode_of early) (State.linkIgnores_relay mode early) same,
      noTenure]
    simp only
    rw [State.relayOpcode_intake (same ▸ buffered), same]
  case dropped =>
    rw [closes h, State.endIntake, if_pos ((droppedIntake_iff _ _ _).mpr drop)]
  case admitted =>
    rw [takes h whole, State.takeCommand, decided, granted]
    simp only
    rw [State.fateAdmitted_eq _ asks]
    rfl
  case parked =>
    rw [takes h whole, State.takeCommand, decided, park]
    rfl
  case refused =>
    rw [takes h whole, State.takeCommand, decided, refuse]
    simp only
    rw [State.refuseCommand_fresh (by exact empty), Journal.offered_append]
    rfl

end Sys2Proof.Machine

namespace Sys2Proof.Machine

/-! ## The end of an operation in flight -/

theorem State.opEnd_internal {s : State} {f : InFlight} (origin : f.origin = .internal) (stuck : Bool) :
    s.opEnd f stuck = (s.flightEnded.workEnd stuck).tenureAtEnd f stuck := by
  rw [State.opEnd_eq, origin]

theorem State.opEnd_requested {s : State} {f : InFlight} (origin : f.origin = .requested) (stuck : Bool) :
    s.opEnd f stuck = s.flightEnded.tenureAtEnd f stuck := by
  rw [State.opEnd_eq, origin]

/-! ### The Journal Unit's part -/

theorem State.workEnd_record {s : State} {q : Bool} (work : s.jnu.work = some ⟨.record, q⟩) (stuck : Bool) :
    s.workEnd stuck = { s with jnu := { s.jnu with queue := s.jnu.queue.tail, work := none } } := by
  unfold State.workEnd
  rw [work]
  rfl

theorem State.workEnd_eraseAhead {s : State} {q : Bool} (work : s.jnu.work = some ⟨.eraseAhead, q⟩) (stuck : Bool) :
    s.workEnd stuck = { s with jnu := { s.jnu with nextErased := s.jnu.nextErased || !stuck, work := none } } := by
  unfold State.workEnd
  rw [work]
  rfl

theorem State.workEnd_second {s : State} {q : Bool} {i : Issue} (work : s.jnu.work = some ⟨.survival (some i), q⟩)
    (stuck : Bool) :
    s.workEnd stuck =
      { s with jnu := { s.jnu with work := some ⟨.survival none, q⟩ }, flb := { s.flb with offer := some i } } := by
  unfold State.workEnd
  rw [work]
  rfl

theorem State.workEnd_last {s : State} {q : Bool} (work : s.jnu.work = some ⟨.survival none, q⟩) (stuck : Bool) :
    s.workEnd stuck =
      { s with jnu := { s.jnu with work := none, survival := .none }, boc := { s.boc with survival := .ended } } := by
  unfold State.workEnd
  rw [work]
  rfl

/-- The end of a PAD depends on the ring, the plan and the quiet of the moment, and changes the journal and the offer
alone. -/
theorem State.workEnd_pad {s u : State} {q : Bool} (work : s.jnu.work = some ⟨.pad, q⟩) (stuck : Bool)
    (same : u = { s with clock := u.clock, flb := { u.flb with offer := s.flb.offer } }) :
    u.workEnd stuck =
      { u with jnu := (s.workEnd stuck).jnu, flb := { u.flb with offer := (s.workEnd stuck).flb.offer } } := by
  rw [same]
  unfold State.workEnd
  simp only [work, State.modJnu]
  cases s.jnu.survival with
  | padding r => cases s.jnu.ring <;> rfl
  | none | waiting _ _ | ready _ | writing => rfl

/-! ### The tenure's part -/

/-- An internal operation ends the tenure open over it, but for a requested one that it was appended to (R136, R138). -/
theorem State.tenureAtEnd_internal {s : State} {f : InFlight} {stuck : Bool} (origin : f.origin = .internal)
    (closes : stuck = true ∨ ∀ t, s.flb.tenure = some t → t.owner = .internal) :
    s.tenureAtEnd f stuck = if s.flb.tenure = none then s else s.closeTenure := by
  unfold State.tenureAtEnd
  cases tenure : s.flb.tenure with
  | none => rfl
  | some t =>
    cases owner : t.owner with
    | internal => simp [owner]
    | requested =>
      have stuck' : stuck = true := closes.resolve_right fun own => by simp [own t tenure] at owner
      simp [owner, origin, stuck']

/-- In a requested tenure an operation that is COMPLETE is followed by a piggyback with the allowance of the moment; where
there is none, or outside NORMAL, the offer closes the tenure (R136, R137). -/
theorem State.tenureAtEnd_requested {s : State} {f : InFlight} {ten : Tenure} {programs : Nat} {erase : Bool}
    (tenure : s.flb.tenure = some ten) (owner : ten.owner = .requested)
    (allowance : (f.origin = .requested ∧ programs = s.plan.piggybackLimit ∧ erase = f.op.isErase) ∨
      (f.origin = .internal ∧ programs = ten.programsLeft ∧ erase = ten.eraseLeft)) :
    s.tenureAtEnd f false = s.offerPiggyback programs erase := by
  have outside (p : Nat) (e : Bool) (h : s.boc.state ≠ .normal) : s.offerPiggyback p e = s.closeTenure :=
    if_pos (by simp [h])
  unfold State.tenureAtEnd
  simp only [tenure, owner]
  rcases allowance with ⟨origin, rfl, rfl⟩ | ⟨origin, rfl, rfl⟩
  · simp only [origin]
    split
    · rfl
    · exact (outside _ _ ‹_›).symm
  · simp only [origin]
    split
    · rfl
    · rename_i shut
      by_cases normal : s.boc.state = .normal
      · obtain ⟨none_, noErase⟩ : ten.programsLeft = 0 ∧ ten.eraseLeft = false := by simpa [normal] using shut
        unfold State.offerPiggyback
        simp only [none_, noErase, Nat.lt_irrefl, if_false, Bool.false_eq_true, ite_self]
        rfl
      · exact (outside _ _ normal).symm

/-! ### What the journal hands for a piggyback -/

theorem State.handHead_room {s : State} {r : Record} {ring : Ring} (head : s.jnu.queue.head? = some r)
    (at_ : s.jnu.ring = some ring) (room : 1 ≤ ring.room) :
    s.handHead = some (s.plan.internalIssue .program (s.plan.slotAddress ring) 64 (r.bytes s.jnu.lost ring.nextSeq),
      s.handed (ring.pass 1) s.jnu.nextErased .record) := by
  obtain ⟨rest, queue⟩ := List.head?_eq_some_iff.mp head
  rw [State.handHead, queue]
  exact State.handRecord_room at_ room r .record

theorem State.handHead_next {s : State} {r : Record} {ring : Ring} (head : s.jnu.queue.head? = some r)
    (at_ : s.jnu.ring = some ring) (full : ring.room = 0) (erased : s.jnu.nextErased = true) :
    s.handHead =
      some (s.plan.internalIssue .program (s.plan.slotAddress (ring.advance s.plan)) 64 (r.bytes s.jnu.lost ring.nextSeq),
        s.handed ((ring.advance s.plan).pass 1) false .record) := by
  obtain ⟨rest, queue⟩ := List.head?_eq_some_iff.mp head
  simp only [State.handHead, queue, State.handRecord, Journal.forRecord, at_, full, erased]
  rfl

theorem State.handHead_ringless {s : State} (none_ : s.jnu.ring = none) : s.handHead = none := by
  unfold State.handHead
  split
  · rfl
  · simp [State.handRecord, Journal.forRecord, none_]

theorem State.handHead_empty {s : State} (empty : s.jnu.queue = []) : s.handHead = none := by
  unfold State.handHead
  rw [empty]

theorem State.handErase_wanted {s : State} {ring : Ring} (at_ : s.jnu.ring = some ring) (journal : s.plan.sectorCount ≠ 0)
    (unknown : s.jnu.nextErased = false) :
    s.handErase =
      some (s.plan.internalIssue .eraseSector
          (s.plan.journalBase + (ring.sector + 1) % s.plan.sectorCount * s.plan.sectorSize) s.plan.sectorSize [],
        { s with jnu := { s.jnu with work := some ⟨.eraseAhead, s.quiet⟩ } }) := by
  have wanted : (s.plan.hasJournal && !s.jnu.nextErased) = true := by simp [Plan.hasJournal_iff, unknown, journal]
  unfold State.handErase
  simp only [at_, if_pos wanted, State.modJnu]

theorem State.handErase_none {s : State} (h : s.jnu.ring = none ∨ s.jnu.nextErased = true) : s.handErase = none := by
  unfold State.handErase
  rcases h with none_ | erased
  · rw [none_]
  · split <;> simp [erased]

/-! ### The piggyback -/

/-- The tenure while the journal is offered a piggyback (R137). -/
def State.offering (s : State) (ten : Tenure) (programs : Nat) (erase : Bool) : State :=
  { s with flb := { s.flb with tenure := some { ten with phase := .appending, programsLeft := programs, eraseLeft := erase } } }

/-- An operation appended to a tenure is being issued under it, the journal as it handed it (R137, R172). -/
def State.appends (s : State) (ten : Tenure) (i : Issue) (j : Journal) (programs : Nat) (erase : Bool) : State :=
  { s with
    jnu := j
    flb := { s.flb with
             issue := some { i with admitted := s.sense.uptime }
             dlinkDue := some (s.clock +
               (16 + i.addrBytes * 8 / i.addrLanes + i.data.length * 8 / i.dataLanes) * (s.plan.div + 1))
             tenure := some { ten with phase := .issuing, programsLeft := programs, eraseLeft := erase } } }

section
variable {s : State} {ten : Tenure} {programs : Nat} {erase : Bool}

theorem State.offerPiggyback_shut (shut : s.boc.state ≠ .normal ∨ s.eng.quietHold = true ∨ s.jnu.work ≠ none) :
    s.offerPiggyback programs erase = s.closeTenure := by
  refine if_pos ?_
  simpa [Option.isSome_iff_ne_none, or_assoc, or_left_comm] using shut

/-- The journal may hand an operation (R172). -/
def State.MayAppend (s : State) : Prop := s.boc.state = .normal ∧ s.eng.quietHold = false ∧ s.jnu.work = none

theorem State.offerPiggyback_open (open_ : s.flb.tenure = some ten) (may : s.MayAppend) :
    s.offerPiggyback programs erase =
      match (if 0 < programs then (s.offering ten programs erase).handHead else none) with
      | some (i, u) => u.takePiggyback i false
      | none =>
        match (if erase then (s.offering ten programs erase).handErase else none) with
        | some (i, u) => u.takePiggyback i true
        | none => s.closeTenure := by
  obtain ⟨normal, free, idle⟩ := may
  have offer : (s.modFlb fun f => { f with tenure := f.tenure.map fun t =>
      { t with phase := .appending, programsLeft := programs, eraseLeft := erase } }) = s.offering ten programs erase := by
    simp only [State.modFlb, open_, Option.map_some, State.offering]
  unfold State.offerPiggyback
  rw [offer]
  refine (if_neg (by simp [normal, free, idle])).trans ?_
  rfl

theorem State.offerPiggyback_record {i : Issue} {j : Journal} (open_ : s.flb.tenure = some ten) (may : s.MayAppend)
    (some_ : 1 ≤ programs)
    (hand : (s.offering ten programs erase).handHead = some (i, { s.offering ten programs erase with jnu := j })) :
    s.offerPiggyback programs erase = s.appends ten i j (programs - 1) erase := by
  rw [State.offerPiggyback_open open_ may, if_pos (show 0 < programs from some_), hand]
  simp only [State.takePiggyback, State.startIssue_eq]
  rfl

theorem State.offerPiggyback_erase {i : Issue} {j : Journal} (open_ : s.flb.tenure = some ten) (may : s.MayAppend)
    (noRecord : programs = 0 ∨ (s.offering ten programs true).handHead = none)
    (hand : (s.offering ten programs true).handErase = some (i, { s.offering ten programs true with jnu := j })) :
    s.offerPiggyback programs true = s.appends ten i j programs false := by
  have none_ : (if 0 < programs then (s.offering ten programs true).handHead else none) = none := by
    rcases noRecord with rfl | h
    · rfl
    · rw [h, ite_self]
  rw [State.offerPiggyback_open open_ may, none_, if_pos rfl, hand]
  simp only [State.takePiggyback, State.startIssue_eq]
  rfl

theorem State.offerPiggyback_none (open_ : s.flb.tenure = some ten) (may : s.MayAppend)
    (noRecord : programs = 0 ∨ (s.offering ten programs erase).handHead = none)
    (noErase : erase = false ∨ (s.offering ten programs erase).handErase = none) :
    s.offerPiggyback programs erase = s.closeTenure := by
  have none_ : (if 0 < programs then (s.offering ten programs erase).handHead else none) = none := by
    rcases noRecord with rfl | h
    · rfl
    · rw [h, ite_self]
  have none' : (if erase then (s.offering ten programs erase).handErase else none) = none := by
    rcases noErase with rfl | h
    · rfl
    · rw [h, ite_self]
  rw [State.offerPiggyback_open open_ may, none_, none']

end

end Sys2Proof.Machine

namespace Sys2Proof.Machine

/-! ## FLASH_POLL_COMPLETE and FLASH_STUCK -/

/-- A record offered leaves the work under way as it is. -/
theorem Journal.offered_work (j : Journal) (p : Plan) (r : Record) : (j.offered p [r]).work = j.work := by
  unfold Journal.offered Journal.offered
  split
  · rfl
  · split <;> rfl

/-- Settles O54. A poll that reads ready ends the operation: the journal's part, then the tenure's, as their lemmas say;
FLASH_STUCK does so at its time, the record offered first. -/
theorem operationEnds : Obligations.OperationEnds := by
  intro status f ten r ring i j programs eraseToo quiet bit s flying busy ready requested working polled closed left appendAfter
    mayAppend heads next inUse e appended clocks x ahead erase eraseClocks appending noRecord internal ended endedBoc stuckAt
    stuck told toldState toldOf
  have completes (h : ready) : exec (.flashPollComplete status) s =
      .next (({ s with flb := polled } : State).opEnd f false).settle := by
    obtain ⟨inflight, live, free⟩ := h
    have busy_ : busyBit status = false := Bool.eq_false_iff.mpr free
    change Host.Outcome.next _ = _
    rw [live]
    refine congrArg (Host.Outcome.next ∘ State.settle) ?_
    unfold State.pollActs
    rw [show (s.pollByte status).flb.inflight = some f from inflight]
    exact if_neg (by simp [busy_])
  have sticks (h : flying) : exec .flashStuck s =
      .next (({ s with clock := stuckAt, jnu := told } : State).opEnd f true).settle := by
    change Host.Outcome.next _ = _
    rw [show s.flb.inflight = some f from h]
    simp only [State.stuckRecord, State.offerRecord_eq]
    rfl
  let base : State := { s with jnu := j, flb := { polled with inflight := none, nextPoll := none } }
  have appends (h : appendAfter) : ({ s with flb := polled } : State).opEnd f false = base.offerPiggyback programs eraseToo := by
    obtain ⟨-, ⟨tenure, owner⟩, ⟨origin, rfl, limit, also⟩ | ⟨origin, limit, also, work⟩⟩ := h
    · rw [State.opEnd_requested origin]
      exact State.tenureAtEnd_requested (s := base) tenure owner (.inl ⟨origin, limit, also⟩)
    · rw [State.opEnd_internal origin]
      have worked : ({ s with flb := polled } : State).flightEnded.workEnd false = base := by
        rcases work with ⟨work, rfl⟩ | ⟨work, rfl⟩
        · exact State.workEnd_record (s := ({ s with flb := polled } : State).flightEnded) work false
        · rw [State.workEnd_eraseAhead (s := ({ s with flb := polled } : State).flightEnded) (by exact work)]
          simp only [Bool.not_false, Bool.or_true]
          rfl
      rw [worked]
      exact State.tenureAtEnd_requested (s := base) tenure owner (.inr ⟨origin, limit, also⟩)
  have may (h : mayAppend) : base.MayAppend := h.2
  have headless (at_ : j.ring = some ring) (h : noRecord) (e : Bool) :
      programs = 0 ∨ (base.offering ten programs e).handHead = none := by
    rcases h with empty | none_ | ⟨full, unknown⟩
    · exact .inr (State.handHead_empty (s := base.offering ten programs e) empty)
    · exact .inl none_
    · exact .inr (State.handHead_none (s := base.offering ten programs e) at_ unknown (.inr full))
  have ends {u : State} (b : Bridge) (o : Option Issue) (stuck : Bool)
      (origin : f.origin = .internal) (own : stuck = true ∨ ∀ t, s.flb.tenure = some t → t.owner = .internal)
      (link : u.flb = { b with inflight := none, nextPoll := none, poll := if b.poll = .live then .stale else b.poll, offer := o })
      (open_ : b.tenure = s.flb.tenure) (report : b.failReport = s.flb.failReport) (active : u.mainActive = s.mainActive) :
      u.tenureAtEnd f stuck = { u with flb := { ended b with offer := o } } := by
    have tenure : u.flb.tenure = s.flb.tenure := by rw [link]; exact open_
    rw [State.tenureAtEnd_internal origin (by rw [tenure]; exact own), tenure]
    simp only [ended]
    split
    · rw [← link]
    · simp only [State.closeTenure, State.modFlb, link, active, closed, report]
  have closes {u : State} (b : Bridge) (stuck : Bool)
      (origin : f.origin = .internal) (own : stuck = true ∨ ∀ t, s.flb.tenure = some t → t.owner = .internal)
      (link : u.flb = { b with inflight := none, nextPoll := none, poll := if b.poll = .live then .stale else b.poll })
      (open_ : b.tenure = s.flb.tenure) (report : b.failReport = s.flb.failReport) (active : u.mainActive = s.mainActive) :
      u.tenureAtEnd f stuck = { u with flb := ended b } := by
    rw [ends b b.offer stuck origin own link open_ report active]
    simp only [ended]
    split <;> rfl
  have size (one : r.body.slots = 1) : (r.bytes j.lost ring.nextSeq).length = 64 := by rw [Record.length_bytes, one]
  have requestedEnd {u : State} (tenure : u.flb.tenure = some ten) (owner : ten.owner = .requested)
      (origin : f.origin = .requested) : u.tenureAtEnd f true = u.setFailReport.closeTenure := by
    simp only [State.tenureAtEnd, tenure, owner, origin]
  have toldWork : told.work = s.jnu.work := Journal.offered_work s.jnu s.plan stuck
  refine ⟨fun stale => ?stale, fun idle => ?idle, fun ⟨h, live, b⟩ => ?busy, fun ⟨h, shut⟩ => ?shut,
    fun ⟨h, ⟨head, one, some_, at_⟩, room⟩ => ?room, fun ⟨h, ⟨head, one, some_, at_⟩, full, erased⟩ => ?next,
    fun ⟨h, at_, no, also, unknown, journal⟩ => ?ahead, fun ⟨h, nothing⟩ => ?nothing,
    fun ⟨⟨origin, own⟩, h, work⟩ => ?record, fun ⟨⟨origin, own⟩, h, work⟩ => ?erased,
    fun ⟨⟨origin, own⟩, h, work⟩ => ?second, fun ⟨⟨origin, own⟩, h, work⟩ => ?last, fun ⟨⟨origin, own⟩, h, work⟩ => ?pad,
    fun ⟨h, origin, ⟨tenure, owner⟩, named, inactive⟩ => ?report, fun ⟨h, origin, ⟨tenure, owner⟩, noReport⟩ => ?noReport,
    fun ⟨⟨h, origin⟩, work⟩ => ?stuckRecord, fun ⟨⟨h, origin⟩, work⟩ => ?stuckErase, fun ⟨⟨h, origin⟩, work⟩ => ?stuckPad,
    fun ⟨⟨h, origin⟩, work⟩ => ?stuckSecond, fun ⟨⟨h, origin⟩, work⟩ => ?stuckLast⟩
  case stale =>
    change Host.Outcome.next _ = _
    rw [stale]
    rfl
  case idle =>
    change Host.Outcome.next _ = _
    rw [idle]
  case busy =>
    change Host.Outcome.next _ = _
    rw [live]
    refine congrArg (Host.Outcome.next ∘ State.settle) ?_
    unfold State.pollActs
    rw [show (s.pollByte status).flb.inflight = some f from h]
    exact if_pos b
  case shut =>
    rw [completes h.1, appends h, State.offerPiggyback_shut (by exact shut)]
    rfl
  case room =>
    have hand := State.handHead_room (s := base.offering ten programs eraseToo) head at_ room
    rw [completes h.1.1, appends h.1, State.offerPiggyback_record (ten := ten) (by exact h.1.2.1.1) (may h) some_ hand]
    rw [State.appends, Plan.internalIssue]
    simp only
    rw [show (r.bytes (base.offering ten programs eraseToo).jnu.lost ring.nextSeq).length = _ from size one]
    rfl
  case next =>
    have hand := State.handHead_next (s := base.offering ten programs eraseToo) head at_ full erased
    rw [completes h.1.1, appends h.1, State.offerPiggyback_record (ten := ten) (by exact h.1.2.1.1) (may h) some_ hand]
    rw [State.appends, Plan.internalIssue]
    simp only
    rw [show (r.bytes (base.offering ten programs eraseToo).jnu.lost ring.nextSeq).length = _ from size one]
    rfl
  case ahead =>
    have hand := State.handErase_wanted (s := base.offering ten programs true) at_ journal unknown
    rw [completes h.1.1, appends h.1, also,
      State.offerPiggyback_erase (ten := ten) (by exact h.1.2.1.1) (may h) (headless at_ no true) hand]
    rw [State.appends, Plan.internalIssue]
    simp only [List.length_nil, Nat.zero_mul, Nat.zero_div, Nat.add_zero]
    rfl
  case nothing =>
    have none_ : base.offerPiggyback programs eraseToo = base.closeTenure := by
      rcases nothing with ringless | ⟨at_, no, noErase⟩
      · exact State.offerPiggyback_none (ten := ten) h.1.2.1.1 (may h)
          (.inr (State.handHead_ringless (s := base.offering ten programs eraseToo) ringless))
          (.inr (State.handErase_none (s := base.offering ten programs eraseToo) (.inl ringless)))
      · exact State.offerPiggyback_none (ten := ten) h.1.2.1.1 (may h) (headless at_ no eraseToo)
          (noErase.imp_right fun erased => State.handErase_none (s := base.offering ten programs eraseToo) (.inr erased))
    rw [completes h.1.1, appends h.1, none_]
    rfl
  case record =>
    rw [completes h, State.opEnd_internal origin, State.workEnd_record (q := quiet) (by exact work)]
    refine congrArg (Host.Outcome.next ∘ State.settle) ((closes polled false origin (.inr own) (by rfl) (by rfl) (by rfl) (by rfl)).trans ?_)
    rfl
  case erased =>
    rw [completes h, State.opEnd_internal origin, State.workEnd_eraseAhead (q := quiet) (by exact work)]
    refine congrArg (Host.Outcome.next ∘ State.settle) ((closes polled false origin (.inr own) (by rfl) (by rfl) (by rfl) (by rfl)).trans ?_)
    simp only [Bool.not_false, Bool.or_true]
    rfl
  case second =>
    rw [completes h, State.opEnd_internal origin, State.workEnd_second (q := quiet) (i := i) (by exact work)]
    refine congrArg (Host.Outcome.next ∘ State.settle) ((ends polled (some i) false origin (.inr own) (by rfl) (by rfl) (by rfl) (by rfl)).trans ?_)
    rfl
  case last =>
    rw [completes h, State.opEnd_internal origin, State.workEnd_last (q := quiet) (by exact work)]
    refine congrArg (Host.Outcome.next ∘ State.settle) ((closes polled false origin (.inr own) (by rfl) (by rfl) (by rfl) (by rfl)).trans ?_)
    rfl
  case pad =>
    rw [completes h, State.opEnd_internal origin, State.workEnd_pad (s := s) (q := quiet) work false (by rfl)]
    refine congrArg (Host.Outcome.next ∘ State.settle) ((ends polled (s.workEnd false).flb.offer false origin (.inr own) (by rfl) (by rfl) (by rfl) (by rfl)).trans ?_)
    rfl
  case report =>
    rw [sticks h, State.opEnd_requested origin]
    have end_ : ({ s with clock := stuckAt, jnu := told } : State).flightEnded.tenureAtEnd f true =
        ({ s with clock := stuckAt, jnu := told } : State).flightEnded.setFailReport.closeTenure := requestedEnd tenure owner origin
    rw [end_, State.setFailReport_named (bit := bit) (by exact named) (by exact inactive)]
    rfl
  case noReport =>
    rw [sticks h, State.opEnd_requested origin]
    have end_ : ({ s with clock := stuckAt, jnu := told } : State).flightEnded.tenureAtEnd f true =
        ({ s with clock := stuckAt, jnu := told } : State).flightEnded.setFailReport.closeTenure := requestedEnd tenure owner origin
    rw [end_, State.setFailReport_none (by exact noReport)]
    rfl
  case stuckRecord =>
    rw [sticks h, State.opEnd_internal origin, State.workEnd_record (q := quiet) (by exact toldWork.trans work)]
    exact congrArg (Host.Outcome.next ∘ State.settle) (closes s.flb true origin (.inl rfl) (by rfl) rfl rfl (by rfl))
  case stuckErase =>
    rw [sticks h, State.opEnd_internal origin, State.workEnd_eraseAhead (q := quiet) (by exact toldWork.trans work)]
    refine congrArg (Host.Outcome.next ∘ State.settle) ((closes s.flb true origin (.inl rfl) (by rfl) rfl rfl (by rfl)).trans ?_)
    simp only [Bool.not_true, Bool.or_false]
    rfl
  case stuckPad =>
    rw [sticks h, State.opEnd_internal origin,
      State.workEnd_pad (s := toldState) (q := quiet) (by exact toldWork.trans work) true (by rfl)]
    exact congrArg (Host.Outcome.next ∘ State.settle)
      (ends s.flb (toldState.workEnd true).flb.offer true origin (.inl rfl) (by rfl) rfl rfl (by rfl))
  case stuckSecond =>
    rw [sticks h, State.opEnd_internal origin, State.workEnd_second (q := quiet) (i := i) (by exact toldWork.trans work)]
    exact congrArg (Host.Outcome.next ∘ State.settle)
      (ends s.flb (some i) true origin (.inl rfl) (by rfl) rfl rfl (by rfl))
  case stuckLast =>
    rw [sticks h, State.opEnd_internal origin, State.workEnd_last (q := quiet) (by exact toldWork.trans work)]
    exact congrArg (Host.Outcome.next ∘ State.settle) (closes s.flb true origin (.inl rfl) (by rfl) rfl rfl (by rfl))

end Sys2Proof.Machine

namespace Sys2Proof.Machine

/-! ## The D-link -/

/-! ### Bytes on the lanes -/

theorem sentOn_cons (lanes : Nat) (b : Byte) (bytes : List Byte) :
    sentOn lanes (b :: bytes) = (List.range (8 / lanes)).map (byteOnLanes lanes b) ++ sentOn lanes bytes := rfl

theorem sentOn_singleton (lanes : Nat) (b : Byte) : sentOn lanes [b] = (List.range (8 / lanes)).map (byteOnLanes lanes b) := by
  rw [sentOn_cons]
  exact List.append_nil _

theorem sentOn_getElem? {lanes clock : Nat} (b : Byte) (h : clock < 8 / lanes) :
    (sentOn lanes [b])[clock]? = some (byteOnLanes lanes b clock) := by
  rw [sentOn_singleton, List.getElem?_map, List.getElem?_range h]
  rfl

/-- The lanes of a byte at a clock, one by one. -/
theorem byteOnLanes_eq (lanes : Nat) (b : Byte) (clock : Nat) :
    byteOnLanes lanes b clock =
      let at_ (lane : Nat) : PinLevel :=
        if lane < lanes then (if b.getLsbD (laneBit lanes clock lane) then .high else .low) else .undriven
      #v[at_ 0, at_ 1, at_ 2, at_ 3] := rfl

theorem receivedByte_sent (b : Byte) :
    receivedByte 1 ((List.range 8).map (byteOnLanes 1 b)) = b ∧ receivedByte 2 ((List.range 4).map (byteOnLanes 2 b)) = b ∧
      receivedByte 4 ((List.range 2).map (byteOnLanes 4 b)) = b := by
  revert b
  decide +kernel

/-- The first byte received is that of the first clocks, and the rest those of the others (R118). -/
theorem receivedOn_append {lanes : Nat} {first rest : List Lanes} (whole : first.length * lanes = 8)
    (clocks : first.length = 8 / lanes) :
    receivedOn lanes (first ++ rest) = receivedByte lanes first :: receivedOn lanes rest := by
  have count : (first ++ rest).length * lanes / 8 = rest.length * lanes / 8 + 1 := by
    rw [List.length_append, Nat.add_mul, whole]
    omega
  unfold receivedOn
  rw [count, List.range_succ_eq_map, List.map_cons, List.map_map, ← clocks]
  refine congrArg₂ List.cons ?_ (List.map_congr_left fun i _ => ?_)
  · simp
  · simp only [Function.comp_apply, Nat.succ_eq_add_one, Nat.add_mul, Nat.one_mul, Nat.add_comm (i * first.length),
      List.drop_append, Nat.add_sub_cancel_left]
    rw [List.drop_eq_nil_of_le (by omega), List.nil_append]

theorem receivedOn_sentOn {lanes : Nat} (h : lanes ∈ [1, 2, 4]) (bytes : List Byte) :
    receivedOn lanes (sentOn lanes bytes) = bytes := by
  have clocks : 8 / lanes * lanes = 8 ∧ ∀ b, receivedByte lanes ((List.range (8 / lanes)).map (byteOnLanes lanes b)) = b := by
    simp only [List.mem_cons, List.not_mem_nil, or_false] at h
    rcases h with rfl | rfl | rfl
    · exact ⟨rfl, fun b => (receivedByte_sent b).1⟩
    · exact ⟨rfl, fun b => (receivedByte_sent b).2.1⟩
    · exact ⟨rfl, fun b => (receivedByte_sent b).2.2⟩
  induction bytes with
  | nil => simp [sentOn, receivedOn]
  | cons b bytes ih =>
    rw [sentOn_cons, receivedOn_append (by simpa using clocks.1) (by simp), clocks.2, ih]

/-! ### The part's own transactions -/

theorem Plan.entryFor_eq {p : Plan} {cls : FlashClass} {e : ClassEntry} (h : p.firstEntry cls = some e) : p.entryFor cls = e := by
  unfold Plan.entryFor
  rw [h]
  rfl

theorem Transaction.counts_eq (t : Transaction) :
    t.counts =
      (8 + t.address.length * 8 / t.addrLanes + (t.data.length + t.reads) * 8 / t.dataLanes) * (t.div + 1) := rfl

/-- A transaction of the part's own goes before all else on the D-link. -/
theorem State.dlink_own {s : State} {x : Transaction} {xs : List Transaction} (h : s.ownTransactions = x :: xs) :
    s.dlink = .own (x :: xs) := by
  unfold State.dlink
  rw [h]

theorem State.ownTransactions_load {s : State} {p : LoadPhase} (phase : s.load.phase = some p) (h : p ≠ .applied) :
    s.ownTransactions = s.loadRead.toList := by
  have before : s.applied = false := by simp [State.applied, phase, h]
  simp [State.ownTransactions, before]

/-- Settles O56: the transaction of each phase of the load and of each moment after application, and the lanes bit by
bit. -/
theorem dLinkCarriesThePartsOwnTransactions : Obligations.DLinkCarriesThePartsOwnTransactions := by
  intro cls e i x b bytes lanes clock s flash loading sends own still level
  have loads {p : LoadPhase} {t : Transaction} (phase : loading p) (other : p ≠ .applied) (read : s.loadRead = some t) :
      s.dlink = .own [t] :=
    State.dlink_own (by rw [State.ownTransactions_load phase other, read]; rfl)
  have quiet (h : still) : s.ownTransactions = if s.flb.poll != .idle then [s.plan.polling] else [] := by
    obtain ⟨applied, issue, phase⟩ := h
    simp [State.ownTransactions, applied, issue, phase]
  have notOwnNil : s.dlink ≠ .own [] := by
    unfold State.dlink
    split
    · simp
    · split
      · simp
      · split <;> simp
  refine ⟨fun ⟨phase, due⟩ => ?_, fun ⟨phase, empty⟩ => ?_, fun ⟨phase, begun⟩ => ?_, fun ⟨phase, entry⟩ => ?_, fun silent => ?_,
    fun ⟨⟨applied, entry⟩, kind, issue⟩ => ?_, fun ⟨⟨applied, entry⟩, kind, issue, refusing⟩ => ?_,
    fun ⟨⟨applied, entry⟩, kind, h, poll⟩ => ?_, fun ⟨h, poll⟩ => ?_, ?_, x.counts_eq, rfl, fun lt => ?_, fun lt => ?_,
    fun lt => ?_, fun h => ⟨?_, receivedOn_sentOn h bytes⟩, ?_⟩
  · refine loads phase (by decide) ?_
    simp only [State.loadRead, show s.load.phase = some _ from phase, if_pos due]
    rfl
  · refine loads phase (by decide) ?_
    simp only [State.loadRead, show s.load.phase = some _ from phase, if_pos empty]
    rfl
  · refine loads phase (by decide) ?_
    simp only [State.loadRead, show s.load.phase = some _ from phase, if_neg begun]
    rfl
  · refine loads phase (by decide) ?_
    simp only [State.loadRead, show s.load.phase = some _ from phase, Plan.entryFor_eq entry]
    rfl
  · have none_ : s.loadRead = none := by
      unfold State.loadRead
      rcases silent with phase | phase | ⟨phase, early⟩
      · rw [phase]
      · rw [show s.load.phase = some _ from phase]
      · rw [show s.load.phase = some _ from phase]
        exact if_neg (by omega)
    have before : s.applied = false := by
      rcases silent with phase | phase | ⟨phase, -⟩
      · simp [State.applied, phase]
      · simp [State.applied, show s.load.phase = some _ from phase]
      · simp [State.applied, show s.load.phase = some _ from phase]
    have undriven : s.dlink = .undriven := by simp [State.dlink, State.ownTransactions, before, none_]
    exact ⟨undriven, by rw [State.dcsnPin, undriven]⟩
  · refine State.dlink_own ?_
    simp only [State.ownTransactions, applied, issue, Plan.issuing, Plan.ownCommand, Plan.entryFor_eq (kind ▸ entry)]
    rfl
  · refine State.dlink_own ?_
    simp only [State.ownTransactions, applied, issue, refusing, Plan.refusing, Plan.ownCommand, Plan.entryFor_eq (kind ▸ entry)]
    rfl
  · refine State.dlink_own ?_
    rw [quiet h, if_pos (by simpa using poll)]
    simp only [Plan.polling, Plan.ownCommand, Plan.entryFor_eq (kind ▸ entry)]
    rfl
  · have none_ : s.ownTransactions = [] := by rw [quiet h, poll]; rfl
    obtain ⟨applied, -, -⟩ := h
    simp [State.dlink, none_, applied]
  · unfold State.dcsnPin
    cases link : s.dlink with
    | undriven | deasserted => simp
    | relayed => cases s.flb.xfer <;> simp
    | own ts =>
      have some_ : ts ≠ [] := fun h => notOwnNil (h ▸ link)
      simp [some_]
  · have bit : 8 - 1 * (clock + 1) + 0 = 7 - clock := by omega
    rw [sentOn_getElem? b (by simpa using lt), byteOnLanes_eq]
    simp only [laneBit, bit]
    rfl
  · have bit0 : 8 - 2 * (clock + 1) + 0 = 6 - 2 * clock := by omega
    have bit1 : 8 - 2 * (clock + 1) + 1 = 7 - 2 * clock := by omega
    rw [sentOn_getElem? b (by simpa using lt), byteOnLanes_eq]
    simp only [laneBit, bit0, bit1]
    rfl
  · have bit0 : 8 - 4 * (clock + 1) + 0 = 4 - 4 * clock := by omega
    have bit1 : 8 - 4 * (clock + 1) + 1 = 5 - 4 * clock := by omega
    have bit2 : 8 - 4 * (clock + 1) + 2 = 6 - 4 * clock := by omega
    have bit3 : 8 - 4 * (clock + 1) + 3 = 7 - 4 * clock := by omega
    rw [sentOn_getElem? b (by simpa using lt), byteOnLanes_eq]
    simp only [laneBit, bit0, bit1, bit2, bit3]
    rfl
  · rw [sentOn_cons, sentOn_singleton]
  · unfold State.dlink State.dioPins
    cases s.ownTransactions with
    | cons t ts => simp only [List.flatMap]
    | nil =>
      cases s.applied with
      | false => rfl
      | true => cases s.relayClosed <;> rfl

end Sys2Proof.Machine

namespace Sys2Proof.Machine

/-! ## The changes of AC_OK -/

theorem acOkCounts_eq (code : Nat) : acOkCounts code = [4800, 19200, 96000].getD code 384000 := by
  match code with
  | 0 | 1 | 2 => rfl
  | n + 3 => rfl

theorem State.setShed_boc_outside {s : State} (level : Nat) (outside : s.boc.state ≠ .dip) :
    (s.setShed level).boc = { s.boc with shedLevel := level } := by
  rw [State.setShed_boc]
  by_cases same : level = s.boc.shedLevel
  · exact (if_pos same).trans (by rw [same])
  · exact (if_neg same).trans (by rw [BrownOut.peakAt, if_neg outside])

/-- A restore step lowers the level by one; from 1, or at 0, NORMAL is entered (R104, R106). -/
theorem State.restoreStep_boc {s : State} (recover : s.boc.state = .recover) :
    s.restoreStep.boc =
      if s.boc.shedLevel ≤ 1 then
        { s.boc with
          state := .normal, restore := none, heldBoard := false, heldPanel := false, shedLevel := s.boc.shedLevel - 1 }
      else { s.boc with restore := some (s.clock + s.plan.restoreStepMs * 96000), shedLevel := s.boc.shedLevel - 1 } := by
  have level := State.setShed_boc_outside (s := s) (s.boc.shedLevel - 1) (by simp [recover])
  simp only [State.restoreStep]
  split
  · simp only [State.normalFromRecover, State.parkedAtState_frame, State.modBoc_boc, State.modEng_boc, level]
  · simp only [State.modBoc_boc, level]
    rfl

/-- In DIP and RECOVER, and in INIT, a parked command stays. -/
theorem State.parkedAtState_stays {s : State} (h : s.boc.state = .dip ∨ s.boc.state = .recover) : s.parkedAtState = s := by
  unfold State.parkedAtState
  split
  · rfl
  · rcases h with state | state <;> rw [state]

/-- RECOVER is entered with the current dip pushed and its record offered (R103). -/
theorem State.recovering_eq {s : State} {d : Dip} (state : s.boc.state = .dip) (dip : s.boc.dip = some d) :
    s.recovering =
      { s with
        jnu := s.jnu.offered s.plan [⟨.dip d.start s.dipCount d.peakShed (clamp16 d.minReserve), .dip, s.sense.uptime⟩]
        boc := { s.boc with
                 state := .recover, ride := none, restore := s.timerIn s.plan.restoreDelayMs, dip := none
                 history := (⟨d.start, s.dipCount, d.peakShed, clamp16 d.minReserve, false⟩ :: s.boc.history).take 16 } } := by
  unfold State.recovering
  rw [State.parkedAtState_stays (.inr rfl)]
  unfold State.closeDip
  simp only [State.modBoc_boc, dip, State.offerRecord_eq]
  simp only [State.modBoc, state]
  rfl

/-- Settles O32: what the controller does at a loss and at a return, by its state; the commitment of a storm and the first
restore step are followed by `State.Down` and `State.settle_steady`. -/
theorem mainsChanges : Obligations.MainsChanges := by
  refine ⟨fun pin s applied ok level => ?loss, fun pin d s applied ok level => ?back, fun pin s => ?none⟩
  case loss =>
    intro time now filters lost found notes reserve dip ride after
    have inactive : pinActive pin s.plan.acOk.activeLow = false := by
      cases hp : pin.high <;> cases hl : s.plan.acOk.activeLow <;> simp_all [pinActive]
    have counts : acOkCounts s.plan.acOk.filter = time := acOkCounts_eq _
    have takes : exec (.acOkLoss pin) s = .next ((after s.boc).bocLoss).settle := by
      refine congrArg Host.Outcome.next ((if_pos (by simp [applied, ok, inactive])).trans ?_)
      unfold State.acOkFiltered
      rw [counts]
      rfl
    have loss {t : State} (h : (after s.boc).bocLoss = t) : exec (.acOkLoss pin) s = .next t.settle := by
      rw [takes, h]
    refine ⟨fun ⟨normal, few⟩ => ?_, fun ⟨normal, many⟩ => ?_, fun recover => ?_, fun rest => ?_, fun busy => ?_⟩
    · rw [loss (t := (after s.boc).lossInNormal) (by unfold State.bocLoss; rw [show (after s.boc).boc.state = _ from normal])]
      refine congrArg (Host.Outcome.next ∘ State.settle) ((if_neg (Nat.not_le.mpr few)).trans ?_)
      unfold State.enterDip
      rw [State.parkedAtState_stays (.inl rfl)]
      rfl
    · let begun := (after s.boc).stormTest.openDip
      have commits : (after s.boc).bocLoss = begun.enterCommit .storm := by
        unfold State.bocLoss
        rw [show (after s.boc).boc.state = _ from normal]
        exact if_pos many
      have down := (begun.enterCommit_down .storm).settle
      obtain ⟨st, m, mm, v, kept⟩ := down.kept
      rw [State.enterCommit_boc] at kept
      exact ⟨_, loss commits, by simp [begun, State.stormTest, State.openDip, after],
        by simp [begun, State.stormTest, State.openDip, after], down.committed, by rw [kept]; rfl, by rw [kept]; rfl, by rw [kept]; rfl,
        by rw [kept]; rfl, by rw [kept]; rfl, by rw [kept]; rfl⟩
    · rw [loss (t := (after s.boc).openDip.enterDip) (by unfold State.bocLoss; rw [show (after s.boc).boc.state = _ from recover])]
      refine congrArg (Host.Outcome.next ∘ State.settle) ?_
      unfold State.enterDip
      rw [State.parkedAtState_stays (.inl rfl)]
      rfl
    · refine loss ?_
      unfold State.bocLoss
      rcases rest with state | state <;> rw [show (after s.boc).boc.state = _ from state] <;> rfl
    · refine loss ?_
      unfold State.bocLoss
      rcases busy with state | state | state <;> rw [show (after s.boc).boc.state = _ from state]
  case back =>
    intro time now filters count back entry record queued after
    have active : pinActive pin s.plan.acOk.activeLow = true := by
      cases hp : pin.high <;> cases hl : s.plan.acOk.activeLow <;> simp_all [pinActive]
    have counts : acOkCounts s.plan.acOk.filter = time := acOkCounts_eq _
    have takes : exec (.acOkReturn pin) s = .next (after s.boc).bocReturn.settle := by
      refine congrArg Host.Outcome.next ((if_pos (by simp [applied, ok, active])).trans ?_)
      unfold State.acOkFiltered
      rw [counts]
      rfl
    have return_ {t : State} (h : (after s.boc).bocReturn = t) : exec (.acOkReturn pin) s = .next t.settle := by
      rw [takes, h]
    have recovers (state : s.boc.state = .dip) (dip : s.boc.dip = some d) : (after s.boc).recovering =
        { after { s.boc with state := .recover, ride := none, dip := none, history := (entry :: s.boc.history).take 16
                             restore := (after s.boc).timerIn s.plan.restoreDelayMs } with jnu := queued } :=
      State.recovering_eq (s := after s.boc) state dip
    have enters (state : s.boc.state = .dip) : (after s.boc).bocReturn = (after s.boc).enterRecover := by
      unfold State.bocReturn
      rw [show (after s.boc).boc.state = _ from state]
    refine ⟨fun ⟨state, dip, delay⟩ => ?_, fun ⟨state, dip, delay⟩ => ?_, fun rest => ?_, fun down => ?_, fun other => ?_⟩
    · refine return_ ((enters state).trans ((if_neg delay).trans ((recovers state dip).trans ?_)))
      rw [State.timerIn, if_neg (by exact delay)]
      rfl
    · obtain ⟨r, entered⟩ : ∃ r, (after s.boc).recovering = r := ⟨_, rfl⟩
      have restores : (after s.boc).bocReturn = r.restoreStep :=
        (enters state).trans ((if_pos delay).trans (congrArg State.restoreStep entered))
      have r_eq := entered.symm.trans (recovers state dip)
      have recover : r.boc.state = .recover := by rw [r_eq]
      have r_boc : r.boc = { s.boc with
          state := .recover, ride := none, dip := none, history := (entry :: s.boc.history).take 16
          restore := (after s.boc).timerIn s.plan.restoreDelayMs } := by rw [r_eq]
      have step := State.restoreStep_boc recover
      obtain ⟨⟨v, boc⟩, -⟩ := State.settle_steady (s := r.restoreStep) ((State.restoreStep_state recover).imp_right .inr)
      rw [r_boc] at step
      rw [step] at boc
      refine ⟨_, return_ restores, ?_, ?_, ?_, ?_, ?_⟩
      · simp only [State.settle_frame, State.restoreStep_frame, r_eq, after]
      · rw [boc]; split <;> rfl
      · rw [boc]; split <;> rfl
      · rw [boc]; split <;> rfl
      · rw [boc]; split <;> rfl
    · refine return_ ?_
      unfold State.bocReturn
      rcases rest with state | state <;> rw [show (after s.boc).boc.state = _ from state] <;> rfl
    · refine return_ ?_
      unfold State.bocReturn
      rcases down with state | state <;> rw [show (after s.boc).boc.state = _ from state] <;> rfl
    · refine return_ ?_
      unfold State.bocReturn
      rcases other with state | state <;> rw [show (after s.boc).boc.state = _ from state]
  case none =>
    intro active
    have active_iff : pinActive pin s.plan.acOk.activeLow = true ↔ active := by
      simp only [pinActive, bne_iff_ne, active]
      cases pin.high <;> cases s.plan.acOk.activeLow <;> simp
    refine ⟨fun h => congrArg Host.Outcome.next (if_neg fun guard => ?_),
      fun h => congrArg Host.Outcome.next (if_neg fun guard => ?_)⟩
    · simp only [Bool.and_eq_true, Bool.not_eq_true', ← Bool.not_eq_true, active_iff] at guard
      obtain ⟨⟨applied, ok⟩, low⟩ := guard
      rcases h with h | h | h
      · simp [applied] at h
      · simp [ok] at h
      · exact low h
    · simp only [Bool.and_eq_true, Bool.not_eq_true', active_iff] at guard
      obtain ⟨⟨applied, ok⟩, high⟩ := guard
      rcases h with h | h | h
      · simp [applied] at h
      · simp [ok] at h
      · exact h high

end Sys2Proof.Machine

namespace Sys2Proof.Machine

/-! ## To the end of what follows -/

/-- Whatever an event's consequences keep holds however far they are followed. -/
theorem State.settleFor_keeps {P : State → Prop} (keep : ∀ {s t : State}, s.react = some t → P s → P t) {s : State}
    (h : P s) (n : Nat) : P (s.settleFor n) := by
  induction n generalizing s with
  | zero => exact h
  | succ n ih =>
    unfold State.settleFor
    split
    · exact ih (keep ‹_› h)
    · exact h

theorem State.settleFor_succ {s t : State} (h : s.react = some t) (n : Nat) : s.settleFor (n + 1) = t.settleFor n := by
  conv_lhs => unfold State.settleFor
  rw [h]

/-- The link follows its line at once: what has turned does not turn again. -/
theorem State.linkReact_once {s t : State} (h : s.linkReact = some t) : t.linkReact = none ∧ ∃ f, t = { s with flb := f } := by
  refine ⟨?_, State.linkReact_frame h⟩
  unfold State.linkReact at h
  (repeat' split at h) <;> cases h
  all_goals
    rename_i turn
    simp only [Bool.and_eq_true, Bool.not_eq_true'] at turn
    simp [State.linkReact, State.modFlb_mainActive, turn]

/-- The link's turn is all that may go before the controller: where the controller passes on, with the link turned or not,
its passage is reached, and what follows it is followed to its end. -/
theorem State.settle_passes {s : State} {F : State → State}
    (passes : ∀ u, u = s ∨ s.linkReact = some u → u.bocReact = some (F u)) :
    ∃ u n, (u = s ∨ s.linkReact = some u) ∧ s.settle = (F u).settleFor n ∧ (F u).turns ≤ n := by
  have enough := s.turns_le
  have next {u : State} (still : u.linkReact = none) (pass : u.bocReact = some (F u)) : u.react = some (F u) := by
    unfold State.react
    rw [still, pass]
    rfl
  have lower {u : State} (pass : u.bocReact = some (F u)) : (F u).turns < u.turns := State.bocReact_turns pass
  cases link : s.linkReact with
  | none =>
    have pass := passes s (.inl rfl)
    exact ⟨s, 63, .inl rfl, State.settleFor_succ (next link pass) 63, by
      have := lower pass; simp only [settleFuel] at enough; omega⟩
  | some u =>
    have pass := passes u (.inr link)
    have turned : s.react = some u := by
      unfold State.react
      rw [link]
      rfl
    exact ⟨u, 62, .inr rfl, (State.settleFor_succ turned 63).trans
        (State.settleFor_succ (next (State.linkReact_once link).1 pass) 62), by
      have := lower pass; have := State.linkReact_turns link; simp only [settleFuel] at enough; omega⟩

/-- A sequence is held while one is RUNNING or SUSPENDED. -/
def State.Slotted (s : State) : Prop := s.eng.slot = none → s.eng.mode = .idle

theorem EngineSafe.slotted {s : State} (h : EngineSafe s) : s.Slotted := h.slot.1

theorem State.Slotted.of_run {s t : State} (h : s.Slotted) (run : t.eng.run = s.eng.run) : t.Slotted := by
  obtain ⟨mode, slot, -⟩ := Engine.run_eq_iff.mp run
  unfold State.Slotted
  rw [mode, slot]
  exact h

theorem State.stepDone_slotted {s : State} (h : s.eng.slot ≠ none) : s.stepDone.Slotted :=
  (State.boundary_engineSafe (s := s.modEng fun e => { e with index := e.index + 1, step := .idle, quietHold := false })
    h).slotted

theorem State.performLine_slotted {s : State} (h : s.eng.slot ≠ none) : s.performLine.Slotted := by
  have slot (l : Fin 6) (a : Bool) : (s.driveLine l a).eng.slot ≠ none := by
    rw [(Engine.run_eq_iff.mp (s.driveLine_run l a)).2.1]
    exact h
  unfold State.performLine
  split
  · exact State.stepDone_slotted (slot _ _)
  · exact fun none => absurd none (slot _ _)
  · exact fun none => absurd none h

theorem State.Slotted.engineReact {s t : State} (h : s.Slotted) (react : s.engineReact = some t) : t.Slotted := by
  unfold State.engineReact at react
  split at react
  · cases react
  split at react
  · split at react <;> cases react
    · exact (State.seqBegin_engineSafe _ _).slotted
    · exact h.of_run s.takeClaims_run
  · rename_i suspended
    split at react <;> cases react
    exact (State.boundary_engineSafe fun none => by simp [h none] at suspended).slotted
  · rename_i running
    have slot : s.eng.slot ≠ none := fun none => by simp [h none] at running
    split at react
    · split at react
      · cases react
      · split at react <;> cases react
        · exact (State.seqStart_engineSafe _ _).slotted
        · exact s.seqEnd_engineSafe.slotted
    · split at react <;> cases react
      exact State.performLine_slotted slot
    · split at react <;> cases react
      exact State.stepDone_slotted slot
    all_goals cases react

theorem State.preempt_slotted (s : State) : s.preempt.Slotted := s.dropStep.seqEnd_engineSafe.slotted

/-- Under the descent claim the engine is IDLE, or holds TRIP or a descent sequence (R44). -/
theorem State.placeDescent_slotted (s : State) : s.placeDescent.Slotted := by
  simp only [State.placeDescent]
  split
  · rename_i idle
    exact fun _ => idle
  · exact fun _ => rfl
  · split
    · rename_i n slot
      split
      · exact fun none => absurd (slot.symm.trans none) nofun
      · exact State.preempt_slotted _
    · exact State.preempt_slotted _

theorem State.enterDescent_slotted (s : State) : s.enterDescent.Slotted := by
  have placed := State.placeDescent_slotted (s.modBoc fun b =>
    { b with state := .descent, ride := none, restore := none, mains := none, heldBoard := false, heldPanel := false })
  exact placed.of_run (by simp [State.enterDescent])

/-- A state on the way down after the commitment has passed: the engine holds a sequence while it runs one, and both domains
are DOWN in DARK. -/
structure State.Sinking (s : State) : Prop where
  way : s.Descending
  slotted : s.Slotted
  down : s.boc.state = .dark → s.eng.bothDown = true

theorem State.enterDescent_sinking (s : State) : s.enterDescent.Sinking :=
  ⟨.inl s.enterDescent_state, s.enterDescent_slotted, fun dark => by simp [s.enterDescent_state] at dark⟩

/-- Outside NORMAL what the engine does of itself keeps domains that are DOWN there (R37, R41). -/
theorem State.engineReact_down {s t : State} (react : s.engineReact = some t) (outside : s.boc.state ≠ .normal)
    (h : s.eng.bothDown = true) : t.eng.bothDown = true := by
  unfold State.engineReact at react
  split at react
  · cases react
  split at react
  · split at react <;> cases react
    · rename_i n chosen
      have up : n.isUp = false := Bool.eq_false_iff.mpr fun up => outside (State.choice_up chosen up)
      exact (s.seqBegin_steers up).down h
    · exact s.takeClaims_steers.down h
  · exact absurd react (by simp)
  · split at react
    · split at react
      · cases react
      · cases react
        exact s.seqEnd_steers.down h
    · split at react <;> cases react
      exact s.performLine_steers.down h
    · split at react <;> cases react
      exact s.stepDone_steers.down h
    all_goals cases react

theorem State.Descending.not_normal {s : State} (h : s.Descending) : s.boc.state ≠ .normal := by
  rcases h with state | ⟨state, -⟩ <;> simp [state]

theorem State.enterDark_run (s : State) : s.enterDark.eng.run = s.eng.run := by
  simp [State.enterDark, Engine.run]

theorem State.enterDark_down (s : State) : s.enterDark.eng.bothDown = s.eng.bothDown := by
  simp [State.enterDark, Engine.bothDown]

theorem State.Sinking.react {s t : State} (h : s.Sinking) (react : s.react = some t) : t.Sinking := by
  refine ⟨h.way.react react, ?_, ?_⟩
  · rcases State.react_cases react with r | r | r | r | r | r
    · obtain ⟨f, rfl⟩ := State.linkReact_frame r; exact h.slotted
    · unfold State.bocReact at r
      split at r
      · cases r
      split at r <;> rename_i state
      · simpa [State.Descending, state] using h.way
      · simpa [State.Descending, state] using h.way
      · split at r <;> cases r
        exact h.slotted.of_run s.enterDark_run
      · have way := h.way
        split at r <;> cases r
        rename_i met
        simp only [Bool.and_eq_true] at met
        simp [State.Descending, state, met.1] at way
      all_goals cases r
    · exact h.slotted.engineReact r
    · obtain ⟨j, f, v, rfl⟩ := State.survivalWaitEnd_frame r; exact h.slotted
    · obtain ⟨j, f, rfl⟩ := State.quietWork_frame r; exact h.slotted
    · obtain ⟨f, rfl⟩ := State.takeOffer_frame r; exact h.slotted
  · rcases State.react_cases react with r | r | r | r | r | r
    · obtain ⟨f, rfl⟩ := State.linkReact_frame r; exact h.down
    · unfold State.bocReact at r
      split at r
      · cases r
      split at r <;> rename_i state
      · simpa [State.Descending, state] using h.way
      · simpa [State.Descending, state] using h.way
      · split at r <;> cases r
        rename_i down
        exact fun _ => s.enterDark_down.trans down
      · have way := h.way
        split at r <;> cases r
        rename_i met
        simp only [Bool.and_eq_true] at met
        simp [State.Descending, state, met.1] at way
      all_goals cases r
    · obtain ⟨e, f, rfl⟩ := State.engineReact_frame r
      exact fun dark => State.engineReact_down r h.way.not_normal (h.down dark)
    · obtain ⟨j, f, v, rfl⟩ := State.survivalWaitEnd_frame r; exact h.down
    · obtain ⟨j, f, rfl⟩ := State.quietWork_frame r; exact h.down
    · obtain ⟨f, rfl⟩ := State.takeOffer_frame r; exact h.down

/-- A step that waits with no line to drive stays as it is. -/
theorem State.performLine_none {s : State} (none_ : (s.currentStep.map Step.kind).any StepKind.drivesLine = false) :
    s.performLine = s := by
  unfold State.performLine
  split
  · rename_i current
    simp [current, StepKind.drivesLine] at none_
  · rename_i current
    simp [current, StepKind.drivesLine] at none_
  · rfl

/-- Where a sequence is held while one runs, what follows goes down in its count, but for a wait with no line to drive, in
which nothing changes any more. -/
theorem State.Slotted.react_turns {s t : State} (h : s.Slotted) (react : s.react = some t) : t = s ∨ t.turns < s.turns := by
  rcases State.react_cases react with r | r | r | r | r | r
  · exact .inr (State.linkReact_turns r)
  · exact .inr (State.bocReact_turns r)
  · by_cases line : s.applied = true → s.eng.mode = .running → s.eng.step = .lineWait →
        (s.currentStep.map Step.kind).any StepKind.drivesLine = true
    · exact .inr (State.engineReact_turns_of h line r)
    · simp only [not_forall, Bool.not_eq_true] at line
      obtain ⟨applied, running, step, none_⟩ := line
      simp only [State.engineReact, applied, running, step, State.performLine_none none_] at r
      left
      cases held : s.internalWork <;> simp [held] at r
      exact r.symm
  · exact .inr (State.survivalWaitEnd_turns r)
  · exact .inr (State.quietWork_turns r)
  · exact .inr (State.takeOffer_turns r)

theorem State.settleFor_fixed {s : State} (h : s.react = some s) (n : Nat) : s.settleFor n = s := by
  induction n with
  | zero => rfl
  | succ n ih => rw [State.settleFor_succ h, ih]

/-- At the end of what follows nothing more does, or nothing changes any more. -/
theorem State.Sinking.settleFor_rests {s : State} (h : s.Sinking) {n : Nat} (fuel : s.turns ≤ n) :
    (s.settleFor n).react = none ∨ (s.settleFor n).react = some (s.settleFor n) := by
  induction n generalizing s with
  | zero =>
    cases react : s.react with
    | none => exact .inl react
    | some t =>
      obtain rfl | lower := h.slotted.react_turns react
      · exact .inr react
      · omega
  | succ n ih =>
    cases react : s.react with
    | none =>
      have ends : s.settleFor (n + 1) = s := by
        unfold State.settleFor
        rw [react]
      rw [ends]
      exact .inl react
    | some t =>
      rw [State.settleFor_succ react]
      obtain rfl | lower := h.slotted.react_turns react
      · rw [State.settleFor_fixed react]
        exact .inr react
      · exact ih (h.react react) (by omega)

/-- Where nothing changes any more, the controller does not pass on. -/
theorem State.bocReact_rest {s : State} (rest : s.react = none ∨ s.react = some s) : s.bocReact = none := by
  cases pass : s.bocReact with
  | none => rfl
  | some t =>
    cases link : s.linkReact with
    | none =>
      have next : s.react = some t := by
        unfold State.react
        rw [link, pass]
        rfl
      have same : t = s := by simpa [next] using rest
      exact absurd (State.bocReact_turns pass) (by rw [same]; omega)
    | some u =>
      have next : s.react = some u := by
        unfold State.react
        rw [link]
        rfl
      have same : u = s := by simpa [next] using rest
      exact absurd (State.linkReact_turns link) (by rw [same]; omega)

/-- At the end of its way down the controller is in DARK exactly where both domains are DOWN. -/
theorem State.Sinking.settleFor_dark {s : State} (h : s.Sinking) (applied : s.applied = true) {n : Nat} (fuel : s.turns ≤ n) :
    (s.settleFor n).Descending ∧ ((s.settleFor n).boc.state = .dark ↔ (s.settleFor n).eng.bothDown = true) := by
  have sunk := State.settleFor_keeps (P := State.Sinking) (fun react h => h.react react) h n
  have still := State.bocReact_rest (h.settleFor_rests fuel)
  have applied' : (s.settleFor n).applied = true :=
    State.settleFor_keeps (P := fun t => t.applied = true)
      (fun react h => by rwa [State.applied, (State.react_frame react).2.1]) applied n
  refine ⟨sunk.way, sunk.down, fun down => ?_⟩
  rcases sunk.way with state | ⟨state, -⟩
  · simp [State.bocReact, applied', state, down] at still
  · exact state

end Sys2Proof.Machine

namespace Sys2Proof.Machine

/-! ## The controller and a computation -/

/-! ### The operation in flight -/

@[simp] theorem State.driveLine_inflight (s : State) (l : Fin 6) (a : Bool) :
    (s.driveLine l a).flb.inflight = s.flb.inflight := by
  unfold State.driveLine State.lineActive State.lineInactive
  (repeat' split) <;> simp

@[simp] theorem State.performLine_inflight (s : State) : s.performLine.flb.inflight = s.flb.inflight := by
  unfold State.performLine
  split <;> simp

theorem State.engineReact_inflight {s t : State} (h : s.engineReact = some t) : t.flb.inflight = s.flb.inflight := by
  unfold State.engineReact at h
  (repeat' split at h) <;> cases h <;> simp

@[simp] theorem State.placeDescent_inflight (s : State) : s.placeDescent.flb.inflight = s.flb.inflight := by
  simp only [State.placeDescent, State.preempt, State.dropStep]
  (repeat' split) <;> simp

@[simp] theorem State.parkedAtState_inflight (s : State) : s.parkedAtState.flb.inflight = s.flb.inflight := by
  unfold State.parkedAtState State.admitParked State.fateAdmitted State.refuseCommand State.emptySlot State.fateRefuse
    State.startIssue State.setPhase
  (repeat' split) <;> simp

@[simp] theorem State.enterDescent_inflight (s : State) : s.enterDescent.flb.inflight = s.flb.inflight := by
  simp [State.enterDescent]

@[simp] theorem State.enterCommit_inflight (s : State) (r : CommitReason) :
    (s.enterCommit r).flb.inflight = s.flb.inflight := by
  simp [State.enterCommit]

theorem State.bocReact_inflight {s t : State} (h : s.bocReact = some t) : t.flb.inflight = s.flb.inflight := by
  unfold State.bocReact at h
  split at h
  · cases h
  split at h
  · split at h <;> cases h
    simp [State.normalFromInit]
  · split at h <;> cases h
    simp
  · split at h <;> cases h
    simp [State.enterDark]
  · split at h <;> cases h
    simp only [State.rearm]
    split <;> simp
  all_goals cases h

@[simp] theorem State.survivalHand_inflight (s : State) (r : Record) :
    (s.survivalHand r).flb.inflight = s.flb.inflight := by
  unfold State.survivalHand
  split
  · rfl
  · split
    · rfl
    · split
      · split
        · obtain ⟨j, rfl⟩ := State.handRecord_frame ‹_›
          rfl
        · rfl
      · rfl

theorem State.survivalWaitEnd_inflight {s t : State} (h : s.survivalWaitEnd = some t) :
    t.flb.inflight = s.flb.inflight := by
  unfold State.survivalWaitEnd at h
  (repeat' split at h) <;> cases h
  · simp [State.survivalOverrun, State.survivalEnd]
  · unfold State.survivalJudge
    split <;> rfl
  · simp

/-- What follows of itself neither begins nor ends an operation in the flash. -/
theorem State.react_inflight {s t : State} (h : s.react = some t) : t.flb.inflight = s.flb.inflight := by
  rcases State.react_cases h with r | r | r | r | r | r
  · exact State.linkReact_inflight r
  · exact State.bocReact_inflight r
  · exact State.engineReact_inflight r
  · exact State.survivalWaitEnd_inflight r
  · unfold State.quietWork at r
    split at r
    · split at r
      · obtain ⟨j, rfl⟩ := State.handHead_frame ‹_›
        cases r; rfl
      · split at r <;> cases r
        obtain ⟨j, rfl⟩ := State.handErase_frame ‹_›
        rfl
    · cases r
  · exact State.takeOffer_inflight r

@[simp] theorem State.settle_inflight (s : State) : s.settle.flb.inflight = s.flb.inflight :=
  State.settle_keeps (P := fun t => t.flb.inflight = s.flb.inflight) (fun react h => (State.react_inflight react).trans h) rfl

/-! ### COMMIT and the way down -/

/-- With nothing in flight COMMIT is left: what follows is followed from DESCENT to its end. -/
theorem State.settle_descends {s : State} (applied : s.applied = true) (commit : s.boc.state = .commit)
    (free : s.flb.inflight = none) :
    ∃ u n, (u = s ∨ ∃ f, u = { s with flb := f }) ∧ s.settle = u.enterDescent.settleFor n ∧ u.enterDescent.turns ≤ n := by
  have pass (u : State) (h : u = s ∨ s.linkReact = some u) : u.bocReact = some u.enterDescent := by
    have same : u.load = s.load ∧ u.boc = s.boc ∧ u.flb.inflight = s.flb.inflight := by
      rcases h with rfl | link
      · exact ⟨rfl, rfl, rfl⟩
      · have inflight := State.linkReact_inflight link
        obtain ⟨f, rfl⟩ := State.linkReact_frame link
        exact ⟨rfl, rfl, inflight⟩
    obtain ⟨load, boc, inflight⟩ := same
    have applied' : u.applied = true := by rwa [State.applied, load]
    simp [State.bocReact, applied', boc, commit, inflight, free]
  obtain ⟨u, n, from_, settles, fuel⟩ := State.settle_passes pass
  exact ⟨u, n, from_.imp_right State.linkReact_frame, settles, fuel⟩

/-- With an operation in flight COMMIT stays, and the controller's items but the note of the SURVIVAL work. -/
theorem State.settle_commits {s : State} (commit : s.boc.state = .commit) (busy : s.flb.inflight ≠ none) :
    ∃ v, s.settle.boc = { s.boc with survival := v } := by
  have keeps := State.settle_keeps (P := fun t => t.flb.inflight = s.flb.inflight ∧ ∃ v, t.boc = { s.boc with survival := v })
    (fun {u t} react ⟨inflight, v, boc⟩ => by
      refine ⟨(State.react_inflight react).trans inflight, ?_⟩
      rcases State.react_cases react with r | r | r | r | r | r
      · obtain ⟨f, rfl⟩ := State.linkReact_frame r; exact ⟨v, boc⟩
      · have state : u.boc.state = .commit := by rw [boc]; exact commit
        have busy' : u.flb.inflight.isNone = false := by
          rw [inflight]
          simpa [Option.isSome_iff_ne_none] using busy
        simp [State.bocReact, state, busy'] at r
      · obtain ⟨e, f, rfl⟩ := State.engineReact_frame r; exact ⟨v, boc⟩
      · obtain ⟨j, f, v', rfl⟩ := State.survivalWaitEnd_frame r
        exact ⟨v', by rw [boc]⟩
      · obtain ⟨j, f, rfl⟩ := State.quietWork_frame r; exact ⟨v, boc⟩
      · obtain ⟨f, rfl⟩ := State.takeOffer_frame r; exact ⟨v, boc⟩) (s := s) ⟨rfl, s.boc.survival, rfl⟩
  exact keeps.2

theorem State.enterDescent_down (s : State) : s.enterDescent.Down s.boc :=
  ⟨.inr (.inl s.enterDescent_state), _, _, _, _, s.enterDescent_boc⟩

/-- On its way down from DESCENT the controller stays in DESCENT or DARK. -/
theorem State.Descending.states {s : State} (h : s.Descending) : s.boc.state = .descent ∨ s.boc.state = .dark :=
  h.imp_right And.left

theorem Plan.targetLevel_eq (p : Plan) (r : Int) :
    p.targetLevel r = if (p.s1 : Int) ≤ r then 0 else if (p.s2 : Int) ≤ r then 1 else if (p.s3 : Int) ≤ r then 2 else 3 := rfl

/-- The controller keeps a computation (R98). -/
def State.keptBy (s : State) (r : Budget) : State := s.modBoc fun b => b.keep r

theorem State.bocTakes_dip {s : State} (dip : s.boc.state = .dip) (r : Budget) :
    s.bocTakes r =
      if r.reserve < 0 then (s.keptBy r).enterCommit .reserve
      else (s.keptBy r).setShed (max s.boc.shedLevel (s.plan.targetLevel r.reserve)) := by
  unfold State.bocTakes
  rw [dip]
  rfl

theorem State.bocTakes_commit {s : State} (commit : s.boc.state = .commit) (r : Budget) :
    s.bocTakes r =
      if r.deadline && s.flb.inflight.isSome then (s.keptBy r).markAtRisk.enterDescent else s.keptBy r := by
  unfold State.bocTakes
  rw [commit]
  rfl

theorem State.bocTakes_other {s : State} (dip : s.boc.state ≠ .dip) (commit : s.boc.state ≠ .commit) (r : Budget) :
    s.bocTakes r = s.keptBy r := by
  unfold State.bocTakes
  cases state : s.boc.state <;> simp_all [State.keptBy]

/-- Settles O34: the figures kept, and by the controller's state the target level, the commitment or the way down. -/
theorem controllerTakesAComputation : Obligations.ControllerTakesAComputation := by
  intro r s applied offer budget taken latest lower target
  let t : State := { s with sense := taken }
  have takes {u : State} (h : t.bocTakes r = u) : exec .bocComputation s = .next u.settle := by
    refine congrArg Host.Outcome.next ((if_pos offer).trans ?_)
    change (match s.hbu with | some r => (t.bocTakes r).settle | none => s) = _
    rw [budget]
    exact congrArg State.settle h
  let kept : State := t.keptBy r
  have plain (state : s.boc.state = .init ∨ s.boc.state = .normal ∨ s.boc.state = .recover ∨ s.boc.state = .dark) :
      kept = { s with sense := taken, boc := { s.boc with latest := some latest } } := by
    rcases state with state | state | state | state <;>
      simp only [kept, State.keptBy, State.modBoc, BrownOut.keep, t, state] <;> rfl
  have lowered (state : s.boc.state = .dip ∨ s.boc.state = .commit ∨ s.boc.state = .descent) :
      kept = { s with sense := taken, boc := { s.boc with latest := some latest, dip := lower } } := by
    rcases state with state | state | state <;>
      simp only [kept, State.keptBy, State.modBoc, BrownOut.keep, t, state] <;> rfl
  have stillIn (state : s.boc.state = .commit) : kept.boc.state = .commit := state
  refine ⟨fun state => ?rest, fun state => ?low, fun state => ?ended, fun ⟨state, covers⟩ => ?covers,
    fun ⟨state, short⟩ => ?short, fun ⟨state, busy, late⟩ => ?late, fun ⟨state, busy, early⟩ => ?early,
    fun ⟨state, busy, early⟩ => ?stays, fun ⟨state, free⟩ => ?leaves⟩
  case rest =>
    have elsewhere : t.boc.state ≠ .dip ∧ t.boc.state ≠ .commit := by
      rcases state with state | state | state <;> simp [t, state]
    exact takes ((State.bocTakes_other elsewhere.1 elsewhere.2 r).trans (plain (by tauto)))
  case low =>
    exact takes ((State.bocTakes_other (by simp [t, state]) (by simp [t, state]) r).trans (lowered (.inr (.inr state))))
  case ended =>
    exact takes ((State.bocTakes_other (by simp [t, state]) (by simp [t, state]) r).trans (plain (.inr (.inr (.inr state)))))
  case covers =>
    have level : s.plan.targetLevel r.reserve = target := s.plan.targetLevel_eq _
    have step : t.bocTakes r = kept.setShed (max s.boc.shedLevel target) := by
      rw [State.bocTakes_dip (by exact state), if_neg (not_lt.mpr covers), ← level]
    have kept_boc : kept.boc = { s.boc with latest := some latest, dip := lower } := by rw [lowered (.inl state)]
    have dip : (kept.setShed (max s.boc.shedLevel target)).boc.state = .dip := by
      rw [(State.setShed_controller _ _).2.1]
      exact state
    obtain ⟨⟨v, boc⟩, -⟩ := State.settle_steady (.inr (.inl dip))
    have peak : kept.boc.peakAt (max s.boc.shedLevel target) =
        lower.map fun d => { d with peakShed := max d.peakShed (max s.boc.shedLevel target) } := by
      rw [kept_boc]
      exact if_pos state
    rw [State.setShed_boc, peak, kept_boc] at boc
    have sense : (kept.setShed (max s.boc.shedLevel target)).settle.sense = taken := by
      simp only [State.settle_frame, State.setShed_frame]
      rfl
    refine ⟨_, takes step, sense, ?_⟩
    rw [boc]
    by_cases higher : s.boc.shedLevel < target
    · have level : max s.boc.shedLevel target = target := max_eq_right higher.le
      rw [if_neg (by simp only [level]; omega), level]
      refine ⟨state, rfl, rfl, rfl, rfl, ?_⟩
      simp only [lower, Option.map_map, if_pos higher]
      rfl
    · have level : max s.boc.shedLevel target = s.boc.shedLevel := max_eq_left (not_lt.mp higher)
      rw [if_pos level, level]
      refine ⟨state, rfl, rfl, rfl, rfl, ?_⟩
      simp only [lower, if_neg higher]
  case short =>
    have commits : t.bocTakes r = kept.enterCommit .reserve := (State.bocTakes_dip (by exact state) r).trans (if_pos short)
    have down := (kept.enterCommit_down .reserve).settle
    obtain ⟨st, m, mm, v, boc⟩ := down.kept
    have kept_boc : kept.boc = { s.boc with latest := some latest, dip := lower } := by rw [lowered (.inl state)]
    rw [State.enterCommit_boc, kept_boc] at boc
    refine ⟨_, takes commits, ?_, down.committed, ?_, ?_, ?_, ?_, ?_, ?_⟩
    · simp only [State.settle_frame, State.enterCommit_frame]
      rfl
    all_goals rw [boc]
    all_goals rfl
  case late =>
    obtain ⟨f, inflight⟩ := Option.ne_none_iff_exists'.mp busy
    have marks : t.bocTakes r = kept.markAtRisk.enterDescent :=
      (State.bocTakes_commit (by exact state) r).trans (if_pos (by simp [late, t, inflight]))
    have risk : kept.markAtRisk = { s with
        sense := taken, boc := { s.boc with latest := some latest, dip := lower, atRisk := some (f.op, f.origin) }
        flb := { s.flb with inflight := some { f with atRisk := true } } } := by
      rw [lowered (.inr (.inl state))]
      unfold State.markAtRisk
      simp [inflight]
      rfl
    have risk_boc : kept.markAtRisk.boc =
        { s.boc with latest := some latest, dip := lower, atRisk := some (f.op, f.origin) } := by rw [risk]
    have risk_flight : kept.markAtRisk.flb.inflight = some { f with atRisk := true } := by rw [risk]
    have down := kept.markAtRisk.enterDescent_down.settle
    have descends := State.settle_keeps (P := State.Descending) (fun react h => h.react react)
      (.inl kept.markAtRisk.enterDescent_state)
    obtain ⟨st, m, mm, v, boc⟩ := down.kept
    rw [risk_boc] at boc
    refine ⟨_, takes marks, descends.states, ?_, ?_, ?_, ?_, ?_, ?_⟩
    · rw [boc, inflight]; rfl
    · simp [risk_flight]
    all_goals rw [boc]
    all_goals rfl
  case early =>
    refine takes ((State.bocTakes_commit (by exact state) r).trans (Eq.trans (if_neg ?_) (lowered (.inr (.inl state)))))
    simp [early]
  case stays =>
    have same : t.bocTakes r = kept := (State.bocTakes_commit (by exact state) r).trans (if_neg (by simp [early]))
    obtain ⟨v, boc⟩ := State.settle_commits (s := kept) (stillIn state) busy
    have kept_boc : kept.boc = { s.boc with latest := some latest, dip := lower } := by rw [lowered (.inr (.inl state))]
    rw [kept_boc] at boc
    refine ⟨_, takes same, ?_⟩
    rw [boc]
    exact ⟨state, rfl, rfl, rfl⟩
  case leaves =>
    have same : t.bocTakes r = kept := (State.bocTakes_commit (by exact state) r).trans (if_neg (by simp [t, free]))
    obtain ⟨u, n, from_, settles, -⟩ := State.settle_descends (s := kept) applied (stillIn state) free
    have boc : u.boc = kept.boc := by rcases from_ with rfl | ⟨f, rfl⟩ <;> rfl
    have down := State.settleFor_keeps (P := fun t => t.Down u.boc) (fun react h => h.react react) u.enterDescent_down n
    have descends := State.settleFor_keeps (P := State.Descending) (fun react h => h.react react)
      (.inl u.enterDescent_state) n
    obtain ⟨st, m, mm, v, ends⟩ := down.kept
    have kept_boc : kept.boc = { s.boc with latest := some latest, dip := lower } := by rw [lowered (.inr (.inl state))]
    rw [boc, kept_boc] at ends
    refine ⟨_, takes same, settles ▸ descends.states, ?_⟩
    rw [settles, ends]
    exact ⟨rfl, rfl, rfl⟩

end Sys2Proof.Machine

namespace Sys2Proof.Machine

/-! ## The expiries of the controller's timers -/

/-! ### A channel whose shed mark clears -/

theorem Channel.enterOn_unordered {c : Channel} (order : c.order ≠ some .enable) :
    c.enterOn = ⟨{ c with state := .on, rise := none, settle := none, fall := none }, none, none⟩ := by
  simp [Channel.enterOn, Channel.answerIf, order]

/-- A channel whose mark clears rises again where it is wanted and OFF or FALLING, and stays otherwise (R18). -/
theorem Channel.takeShed_clears {e : RailEntry} {now level : Nat} {c : Channel} (set : c.shed = true)
    (clears : e.shedAt level = false) :
    c.takeShed e now level =
      if (c.state = .off ∨ c.state = .falling) ∧ c.want = true then ({ c with shed := false } : Channel).enterRising e now
      else .same { c with shed := false } := by
  have takes : c.takeShed e now level = c.shedClear e now := by simp [Channel.takeShed, set, clears]
  rw [takes, Channel.shedClear]
  cases state : c.state <;> cases want : c.want <;> simp

@[simp] theorem Channel.answerIf_shed (c : Channel) (o : Order) (a : Answer) : (c.answerIf o a).1.shed = c.shed := by
  unfold Channel.answerIf
  split <;> rfl

@[simp] theorem Channel.enterFalling_shed (e : RailEntry) (now : Nat) (c : Channel) :
    (c.enterFalling e now).chan.shed = c.shed := by
  unfold Channel.enterFalling Channel.enterOff
  dsimp only
  split
  · exact Channel.answerIf_shed _ _ _
  · rfl

@[simp] theorem Channel.enterRising_shed (e : RailEntry) (now : Nat) (c : Channel) :
    (c.enterRising e now).chan.shed = c.shed := by
  unfold Channel.enterRising Channel.enterSettling Channel.enterOn
  dsimp only
  split
  · split
    · exact Channel.answerIf_shed _ _ _
    · rfl
  · rfl

/-- A channel bears the mark of the level it has taken (R16). -/
theorem Channel.takeShed_shed (e : RailEntry) (now level : Nat) (c : Channel) :
    (c.takeShed e now level).chan.shed = e.shedAt level := by
  unfold Channel.takeShed
  split
  · rename_i same
    exact (eq_of_beq same).symm
  · split
    · rename_i set
      rw [set, Channel.shedSet]
      split <;> simp [ChanStep.same]
    · rename_i clear
      rw [Bool.not_eq_true] at clear
      rw [clear, Channel.shedClear]
      (repeat' split) <;> simp [ChanStep.same]

/-- The wanted rail of a cleared mark, by its PG and its settle time (R7, R8, R12, R18). -/
theorem channelRestored (e : RailEntry) (now level : Nat) (c : Channel) (set : c.shed = true)
    (clears : e.shedAt level = false) :
    let wanted := (c.state = .off ∨ c.state = .falling) ∧ c.want = true
    let good := e.timed = false ∧ c.pgGood = true
    let clear : Channel := { c with shed := false }
    (wanted ∧ ¬ good →
      c.takeShed e now level =
        ⟨{ clear with state := .rising, rise := some (now + e.riseMs * 96000), settle := none, fall := none }, none, none⟩) ∧
    (wanted ∧ good ∧ settleCounts e.settle ≠ 0 →
      c.takeShed e now level =
        ⟨{ clear with state := .settling, rise := none, settle := some (now + settleCounts e.settle), fall := none },
          none, none⟩) ∧
    (wanted ∧ good ∧ settleCounts e.settle = 0 ∧ c.order ≠ some .enable →
      c.takeShed e now level = ⟨{ clear with state := .on, rise := none, settle := none, fall := none }, none, none⟩) ∧
    (¬ wanted → c.takeShed e now level = ⟨clear, none, none⟩) := by
  intro wanted good clear
  have passes (h : good) : ¬ (e.timed = true ∨ clear.pgGood = false) := by simp [clear, h.1, h.2]
  have rises (h : wanted) : c.takeShed e now level = clear.enterRising e now :=
    (Channel.takeShed_clears set clears).trans (if_pos h)
  refine ⟨fun ⟨want, weak⟩ => ?_, fun ⟨want, strong, slow⟩ => ?_, fun ⟨want, strong, fast, free⟩ => ?_, fun unwanted => ?_⟩
  · refine (rises want).trans (Channel.enterRising_stays ?_)
    by_contra none_
    exact weak (by simpa [clear] using none_)
  · exact (rises want).trans (Channel.enterRising_settles (passes strong) (mt settleCounts_eq_zero.mpr slow))
  · exact (rises want).trans ((Channel.enterRising_on (passes strong) (settleCounts_eq_zero.mp fast)).trans
      (Channel.enterOn_unordered free))
  · exact (Channel.takeShed_clears set clears).trans (if_neg unwanted)

/-! ### The ride timer -/

/-- The Dimming Path's target takes nothing of the controller but its shed level (R66). -/
theorem State.retarget_boc {s : State} (b : BrownOut) (level : b.shedLevel = s.boc.shedLevel) :
    ({ s with boc := b } : State).retarget = { s.retarget with boc := b } := by
  have target : ({ s with boc := b } : State).dimTarget = s.dimTarget := by
    unfold State.dimTarget
    simp only [level]
  rw [State.retarget_of_same target (by rfl) (by rfl) (by rfl)]
  simp

/-- One state shows the shed marks and rail states of another. -/
def State.Shows (s t : State) : Prop := ∀ ch, (t.rail ch).shed = (s.rail ch).shed ∧ (t.rail ch).state = (s.rail ch).state

theorem State.Shows.of_rails {s t : State} (rails : t.rails = s.rails) : State.Shows s t := fun ch => by
  simp [State.rail, rails]

theorem State.Shows.trans {s t u : State} (h : State.Shows s t) (h' : State.Shows t u) : State.Shows s u := fun ch =>
  ⟨(h' ch).1.trans (h ch).1, (h' ch).2.trans (h ch).2⟩

theorem State.dropStep_shows (s : State) : State.Shows s s.dropStep := by
  intro ch
  unfold State.dropStep
  split
  · rename_i i _
    by_cases same : ch = i
    · subst same
      rw [State.setRail_rail_self]
      exact ⟨rfl, rfl⟩
    · rw [State.setRail_rail_ne s _ same]
      exact ⟨rfl, rfl⟩
  · simp [State.rail]
  all_goals exact ⟨rfl, rfl⟩

theorem State.preempt_shows (s : State) : State.Shows s s.preempt :=
  s.dropStep_shows.trans (.of_rails (by simp [State.preempt]))

theorem State.placeDescent_shows (s : State) : State.Shows s s.placeDescent := by
  simp only [State.placeDescent]
  split
  · exact .of_rails rfl
  · exact .of_rails rfl
  · split
    · split
      · exact .of_rails rfl
      · exact State.Shows.trans (.of_rails rfl) (State.preempt_shows _)
    · exact State.Shows.trans (.of_rails rfl) (State.preempt_shows _)

theorem State.enterDescent_shows (s : State) : State.Shows s s.enterDescent := by
  have placed := State.placeDescent_shows (s.modBoc fun b =>
    { b with state := .descent, ride := none, restore := none, mains := none, heldBoard := false, heldPanel := false })
  exact (State.Shows.trans (.of_rails rfl) placed).trans (.of_rails (by simp [State.enterDescent]))

/-- On its way down the controller passes on to DARK alone (R113). -/
theorem State.Descending.bocReact {s t : State} (h : s.Descending) (r : s.bocReact = some t) : t = s.enterDark := by
  unfold State.bocReact at r
  split at r
  · cases r
  rcases h with state | ⟨state, met⟩
  · rw [state] at r
    dsimp only at r
    split at r <;> cases r
    rfl
  · rw [state] at r
    simp [met] at r

/-- On the way down of one event no rail moves: the order of a dropped step is withdrawn alone (R15). -/
theorem State.Down.react_shows {b : BrownOut} {s t : State} (h : s.Down b) (react : s.react = some t) : State.Shows s t := by
  rcases State.react_cases react with r | r | r | r | r | r
  · obtain ⟨f, rfl⟩ := State.linkReact_frame r; exact .of_rails rfl
  · rcases h.way with commit | descends
    · have passes : t = s.enterDescent := by
        unfold State.bocReact at r
        rw [commit] at r
        split at r
        · cases r
        · dsimp only at r
          split at r <;> cases r
          rfl
      rw [passes]
      exact s.enterDescent_shows
    · rw [descends.bocReact r]
      exact .of_rails (by simp [State.enterDark])
  · obtain ⟨e, f, rfl⟩ := State.engineReact_frame r; exact .of_rails rfl
  · obtain ⟨j, f, v', rfl⟩ := State.survivalWaitEnd_frame r; exact .of_rails rfl
  · obtain ⟨j, f, rfl⟩ := State.quietWork_frame r; exact .of_rails rfl
  · obtain ⟨f, rfl⟩ := State.takeOffer_frame r; exact .of_rails rfl

theorem State.Down.settle_shows {b : BrownOut} {s : State} (h : s.Down b) : State.Shows s s.settle :=
  (State.settle_keeps (P := fun t => t.Down b ∧ State.Shows s t)
    (fun react ⟨down, shows_⟩ => ⟨down.react react, shows_.trans (down.react_shows react)⟩) ⟨h, .of_rails rfl⟩).2

/-- The channels take the marks of a shed level that changes (R16). -/
theorem State.setShed_rail {s : State} {level : Nat} (changes : level ≠ s.boc.shedLevel) (ch : Fin 12) :
    (s.setShed level).rail ch = ((s.rail ch).takeShed (s.railEntry ch) s.clock level).chan := by
  rw [State.setShed_eq, if_neg changes]
  (repeat' split) <;> simp [State.rail, State.shedStep]

theorem State.enterCommit_rail {s : State} (r : CommitReason) (low : s.boc.shedLevel < 3) (ch : Fin 12) :
    (s.enterCommit r).rail ch = ((s.rail ch).takeShed (s.railEntry ch) s.clock 3).chan := by
  have shed := State.setShed_rail (s := s.commits r) (level := 3) low.ne' ch
  exact Eq.trans (by simp [State.enterCommit, State.rail, State.commits]) shed

theorem State.enterCommit_bothDown {s : State} (r : CommitReason) (down : s.eng.bothDown = true) :
    (s.enterCommit r).eng.bothDown = true := by
  have shed := State.setShed_down (s.commits r) 3 down
  simpa [State.enterCommit, State.commits] using shed

theorem State.enterDescent_bothDown {s : State} (down : s.eng.bothDown = true) : s.enterDescent.eng.bothDown = true := by
  have placed {t : State} (down : t.eng.bothDown = true) : t.placeDescent.eng.bothDown = true := by
    simp only [State.placeDescent]
    (repeat' split)
    · exact down
    · exact down
    · exact down
    all_goals exact (State.preempt_steers _).down down
  simp only [State.enterDescent, State.parkedAtState_frame]
  exact placed down

/-- With both domains DOWN the way down ends in DARK (R113). -/
theorem State.Sinking.settleFor_sunk {s : State} (h : s.Sinking) (applied : s.applied = true) (down : s.eng.bothDown = true)
    {n : Nat} (fuel : s.turns ≤ n) : (s.settleFor n).boc.state = .dark := by
  have kept := State.settleFor_keeps (P := fun t => t.Sinking ∧ t.eng.bothDown = true)
    (fun {t u} react ⟨sinks, down⟩ => by
      refine ⟨sinks.react react, ?_⟩
      rcases State.react_cases react with r | r | r | r | r | r
      · obtain ⟨f, rfl⟩ := State.linkReact_frame r; exact down
      · rw [sinks.way.bocReact r]
        exact t.enterDark_down.trans down
      · exact State.engineReact_down r sinks.way.not_normal down
      · obtain ⟨j, f, v, rfl⟩ := State.survivalWaitEnd_frame r; exact down
      · obtain ⟨j, f, rfl⟩ := State.quietWork_frame r; exact down
      · obtain ⟨f, rfl⟩ := State.takeOffer_frame r; exact down) ⟨h, down⟩ n
  exact (h.settleFor_dark applied fuel).2.mpr kept.2

/-- What the ride timer's expiry brings the controller to: COMMIT, and with nothing in flight its way down (R99, R107). -/
structure State.CommitsFrom (s t : State) (r : CommitReason) : Prop where
  clock : t.clock = s.clock
  down : t.Down (s.enterCommit r).boc
  leaves : s.flb.inflight = none →
    t.Descending ∧ (t.boc.state = .dark ↔ t.eng.bothDown = true) ∧ (s.eng.bothDown = true → t.boc.state = .dark)
  stays : s.flb.inflight ≠ none → t.boc.state = .commit
  shed : s.boc.shedLevel < 3 → ∀ ch, (t.rail ch).shed = (s.railEntry ch).shedAt 3 ∧
    (t.rail ch).state = ((s.rail ch).takeShed (s.railEntry ch) s.clock 3).chan.state

theorem State.enterCommit_settles {s : State} (r : CommitReason) (applied : s.applied = true) :
    State.CommitsFrom s (s.enterCommit r).settle r := by
  have applied' : (s.enterCommit r).applied = true := by simpa [State.applied] using applied
  have commit := s.enterCommit_state r
  refine ⟨by simp, (s.enterCommit_down r).settle, fun free => ?_, fun busy => ?_, fun low ch => ?_⟩
  · obtain ⟨u, n, from_, settles, fuel⟩ := State.settle_descends applied' commit ((s.enterCommit_inflight r).trans free)
    have same : u.load = (s.enterCommit r).load ∧ u.eng = (s.enterCommit r).eng := by
      rcases from_ with rfl | ⟨f, rfl⟩ <;> exact ⟨rfl, rfl⟩
    have follows : u.enterDescent.applied = true := by
      have load : u.enterDescent.load = u.load := by simp
      rwa [State.applied, load, same.1]
    obtain ⟨descends, dark⟩ := u.enterDescent_sinking.settleFor_dark follows fuel
    rw [settles]
    refine ⟨descends, dark, fun down => u.enterDescent_sinking.settleFor_sunk follows ?_ fuel⟩
    exact State.enterDescent_bothDown (by rw [same.2]; exact State.enterCommit_bothDown r down)
  · obtain ⟨v, boc⟩ := State.settle_commits commit (by rwa [State.enterCommit_inflight])
    rw [boc]
    exact commit
  · have shown := (s.enterCommit_down r).settle_shows ch
    rw [State.enterCommit_rail r low] at shown
    exact ⟨shown.1.trans (Channel.takeShed_shed _ _ _ _), shown.2⟩

end Sys2Proof.Machine

namespace Sys2Proof.Machine

/-! ### The expiries, written out -/

/-- The state that commits, as the statement writes it: the shed level first, and with it the Dimming Path (R66, R107). -/
theorem State.shedForCommit_split (s : State) (r : CommitReason) :
    s.shedForCommit r =
      { (if s.boc.shedLevel = 3 then s
         else State.retarget
           { s with
             rails := Vector.ofFn fun ch => ((s.rail ch).takeShed (s.railEntry ch) s.clock 3).chan
             boc := { s.boc with shedLevel := 3 } }) with
        boc := s.committing r } := by
  unfold State.shedForCommit
  split
  · rfl
  · exact State.retarget_boc (s := { s with
      rails := Vector.ofFn fun ch => ((s.rail ch).takeShed (s.railEntry ch) s.clock 3).chan
      boc := { s.boc with shedLevel := 3 } }) (s.committing r) rfl

/-- A parked command refused at the commitment, under the tenure it had opened (R139, R158). -/
theorem State.slotRefused_parked {s : State} {p : Parked} {ten : Tenure} (parked : s.adu.parked = some p)
    (open_ : s.flb.tenure = some ten) :
    s.slotRefused =
      { s with
        jnu := s.jnu.offered s.plan
          [⟨.refusal .commit p.command true (min 65535 (s.sense.uptime - p.since).toNat) s.adu.latest, s.boc.state, s.sense.uptime⟩]
        adu := ⟨none, none, s.adu.latest⟩
        flb := { s.flb with
                 tenure := some { ten with phase := .refusing }
                 dlinkDue := some (s.clock + 8 * (s.plan.div + 1)), reportless := s.mainActive } } := by
  unfold State.slotRefused
  simp only [parked, open_, Option.map_some]

/-- A restore step where no step waits for a rail: the shed level alone, and from level 1 or 0 NORMAL is entered (R104). -/
theorem State.restoreStep_free {s : State} (last : s.boc.shedLevel ≤ 1) (recover : s.boc.state = .recover)
    (noWait : ∀ ch, s.eng.step ≠ .railWait ch) :
    s.restoreStep =
      ({ (if s.boc.shedLevel = 0 then s
          else State.retarget
            { s with
              rails := Vector.ofFn fun ch => ((s.rail ch).takeShed (s.railEntry ch) s.clock (s.boc.shedLevel - 1)).chan
              boc := { s.boc with shedLevel := 0 } }) with
         boc := { s.boc with state := .normal, restore := none, heldBoard := false, heldPanel := false, shedLevel := 0 }
         eng := { s.eng with claimBoard := s.eng.claimBoard || s.boc.heldBoard
                             claimPanel := s.eng.claimPanel || s.boc.heldPanel } } : State).parkedAtState := by
  have level : s.boc.shedLevel - 1 = 0 := by omega
  simp only [State.restoreStep, if_pos last, State.normalFromRecover]
  refine congrArg State.parkedAtState ?_
  by_cases zero : s.boc.shedLevel = 0
  · have same : s.setShed (s.boc.shedLevel - 1) = s := by rw [level, State.setShed_eq, if_pos zero.symm]
    rw [same, if_pos zero]
    simp only [State.modEng, State.modBoc, zero]
  · have delivers : s.setShed (s.boc.shedLevel - 1) = s.deliverShed (s.boc.shedLevel - 1) := by
      rw [State.setShed_eq, if_neg (by omega)]
      split
      · exact absurd ‹_› (noWait _)
      · rfl
    have peak : s.boc.peakAt 0 = s.boc.dip := by rw [BrownOut.peakAt, if_neg (by simp [recover])]
    let shed : State := { s with
      rails := Vector.ofFn fun ch => ((s.rail ch).takeShed (s.railEntry ch) s.clock 0).chan
      boc := { s.boc with shedLevel := 0 } }
    have delivered : s.deliverShed 0 = shed.retarget := by
      have dipped : shed = { shed with boc := { s.boc with shedLevel := 0, dip := s.boc.peakAt 0 } } := by rw [peak]
      rw [dipped]
      rfl
    have dimmed : shed.retarget = { shed with dpt := shed.retarget.dpt } := State.retarget_of_same rfl rfl rfl rfl
    rw [delivers, if_neg zero, level, delivered]
    change _ = ({ shed.retarget with boc := _, eng := _ } : State)
    rw [dimmed]
    rfl

/-- NORMAL lets a parked command go, under the tenure it had opened (R157, R158). -/
theorem State.parkedAtState_normal {s : State} {p : Parked} {op : OpClass} {ten : Tenure} (normal : s.boc.state = .normal)
    (parked : s.adu.parked = some p) (cls : p.command.cls.op = some op) (open_ : s.flb.tenure = some ten) :
    s.parkedAtState =
      { s with
        adu := ⟨none, none, s.adu.latest⟩
        flb := { s.flb with
                 tenure := some { ten with phase := .issuing }, issue := some (p.command.issueOf op s.sense.uptime)
                 dlinkDue := some (s.clock + (16 + p.command.addrBytes * 8 / p.command.addrLanes +
                   p.command.data.length * 8 / p.command.dataLanes) * (s.plan.div + 1)) } } := by
  unfold State.parkedAtState
  rw [parked, normal]
  simp only [State.admitParked_eq s cls, State.issuing, open_, Option.map_some]
  rfl

theorem State.parkedAtState_clears {s : State} (normal : s.boc.state = .normal) : s.parkedAtState.adu.parked = none := by
  unfold State.parkedAtState
  split
  · assumption
  · rw [normal]
    simp only [State.admitParked, State.fateAdmitted]
    split <;> simp [State.emptySlot, State.startIssue, State.setPhase]

/-- A restore step's rails are those of the level it restores (R18, R104). -/
theorem State.restoreStep_rails (s : State) :
    s.restoreStep.rails =
      if s.boc.shedLevel = 0 then s.rails
      else Vector.ofFn fun ch => ((s.rail ch).takeShed (s.railEntry ch) s.clock (s.boc.shedLevel - 1)).chan := by
  have rails : s.restoreStep.rails = (s.setShed (s.boc.shedLevel - 1)).rails := by
    simp only [State.restoreStep]
    split <;> simp [State.normalFromRecover]
  rw [rails, State.setShed_eq]
  by_cases zero : s.boc.shedLevel = 0
  · rw [if_pos (by omega), if_pos zero]
  · rw [if_neg (by omega), if_neg zero]
    (repeat' split) <;> simp [State.shedStep]

theorem State.restoreStep_adu {s : State} (more : 2 ≤ s.boc.shedLevel) : s.restoreStep.adu = s.adu := by
  simp only [State.restoreStep]
  rw [if_neg (by omega)]
  simp

theorem State.restoreStep_clears {s : State} (last : s.boc.shedLevel ≤ 1) : s.restoreStep.adu.parked = none := by
  simp only [State.restoreStep]
  rw [if_pos last]
  exact State.parkedAtState_clears rfl

end Sys2Proof.Machine

namespace Sys2Proof.Machine

/-! ### The lockouts while nothing is claimed -/

/-- Nothing is claimed of the engine, and its lockouts stand so. -/
structure Engine.Unclaimed (board panel : Bool) (e : Engine) : Prop where
  trip : e.trip = none
  claimBoard : e.claimBoard = false
  claimPanel : e.claimPanel = false
  boardLock : e.boardLock = board
  panelLock : e.panelLock = panel

theorem Engine.Unclaimed.of_same {b p : Bool} {e f : Engine} (h : e.Unclaimed b p) (trip : f.trip = e.trip)
    (claims : f.claimBoard = e.claimBoard ∧ f.claimPanel = e.claimPanel)
    (locks : f.boardLock = e.boardLock ∧ f.panelLock = e.panelLock) : f.Unclaimed b p :=
  ⟨trip.trans h.trip, claims.1.trans h.claimBoard, claims.2.trans h.claimPanel, locks.1.trans h.boardLock,
    locks.2.trans h.panelLock⟩

section
variable {b p : Bool} {s : State} (h : s.eng.Unclaimed b p)
include h

theorem State.takeClaims_unclaimed : s.takeClaims.eng.Unclaimed b p := by
  have none_ : ({ s.eng with claimBoard := false, claimPanel := false } : Engine).Unclaimed b p :=
    ⟨h.trip, rfl, rfl, h.boardLock, h.panelLock⟩
  unfold State.takeClaims
  simp only [h.claimBoard, h.claimPanel, Bool.false_eq_true, if_false]
  split <;> exact none_

theorem State.nextStep_unclaimed (n : SlotName) : (s.nextStep n).eng.Unclaimed b p := by
  unfold State.nextStep
  split
  · exact h.of_same rfl ⟨rfl, rfl⟩ ⟨rfl, rfl⟩
  · cases n <;> exact h.of_same rfl ⟨rfl, rfl⟩ ⟨rfl, rfl⟩

theorem State.boundary_unclaimed : s.boundary.eng.Unclaimed b p := by
  have taken := State.takeClaims_unclaimed h
  simp only [State.boundary]
  split
  · exact taken
  · split
    · split
      · exact taken.of_same rfl ⟨rfl, rfl⟩ ⟨rfl, rfl⟩
      · split
        · exact taken.of_same rfl ⟨rfl, rfl⟩ ⟨rfl, rfl⟩
        · exact State.nextStep_unclaimed taken _
    · exact State.nextStep_unclaimed taken _

theorem State.stepDone_unclaimed : s.stepDone.eng.Unclaimed b p :=
  State.boundary_unclaimed (s := s.modEng _) (h.of_same rfl ⟨rfl, rfl⟩ ⟨rfl, rfl⟩)

theorem State.driveLine_unclaimed (l : Fin 6) (a : Bool) : (s.driveLine l a).eng.Unclaimed b p := by
  unfold State.driveLine State.lineActive State.lineInactive
  (repeat' split) <;> exact h.of_same rfl ⟨rfl, rfl⟩ ⟨rfl, rfl⟩

theorem State.performLine_unclaimed : s.performLine.eng.Unclaimed b p := by
  unfold State.performLine
  split
  · exact State.stepDone_unclaimed (State.driveLine_unclaimed h _ _)
  · exact (State.driveLine_unclaimed h _ _).of_same rfl ⟨rfl, rfl⟩ ⟨rfl, rfl⟩
  · exact h

theorem State.seqStart_unclaimed (n : SlotName) : (s.seqStart n).eng.Unclaimed b p := by
  simp only [State.seqStart]
  split
  · cases n <;> exact h.of_same rfl ⟨rfl, rfl⟩ ⟨rfl, rfl⟩
  · cases n <;> exact h.of_same rfl ⟨rfl, rfl⟩ ⟨rfl, rfl⟩

theorem State.seqBegin_unclaimed (n : SlotName) : (s.seqBegin n).eng.Unclaimed b p := by
  unfold State.seqBegin
  split
  · simp only [h.trip, reduceCtorEq, if_false]
    exact State.seqStart_unclaimed (s := s.modEng fun e => { e with trip := none })
      ⟨rfl, h.claimBoard, h.claimPanel, h.boardLock, h.panelLock⟩ _
  · split
    · simp only
      split
      · exact h.of_same rfl ⟨rfl, rfl⟩ ⟨rfl, rfl⟩
      · exact State.seqStart_unclaimed (s := s.modEng _) (h.of_same rfl ⟨rfl, rfl⟩ ⟨rfl, rfl⟩) _
    · exact State.seqStart_unclaimed h _
  all_goals exact State.seqStart_unclaimed h _

theorem State.engineReact_unclaimed {t : State} (react : s.engineReact = some t) : t.eng.Unclaimed b p := by
  unfold State.engineReact at react
  split at react
  · cases react
  split at react
  · split at react <;> cases react
    · exact State.seqBegin_unclaimed h _
    · exact State.takeClaims_unclaimed h
  · split at react <;> cases react
    exact State.boundary_unclaimed h
  · split at react
    · split at react
      · cases react
      · split at react <;> cases react
        · exact State.seqStart_unclaimed h _
        · exact h.of_same rfl ⟨rfl, rfl⟩ ⟨rfl, rfl⟩
    · split at react <;> cases react
      exact State.performLine_unclaimed h
    · split at react <;> cases react
      exact State.stepDone_unclaimed h
    all_goals cases react

/-- A shed level fails no step, and so sets no lockout (R17, R18, R39). -/
theorem State.setShed_unclaimed (level : Nat) : (s.setShed level).eng.Unclaimed b p := by
  have delivered : (s.deliverShed level).eng.Unclaimed b p := by simpa using h
  rw [State.setShed_eq]
  split
  · exact h
  · split
    · split
      · rw [State.endOnAnswer_shed _ ‹_›]
        exact State.stepDone_unclaimed delivered
      · exact delivered
    · exact delivered

end

/-! ### The rearm, and what follows in NORMAL -/

theorem State.rearm_boc {s : State} :
    s.rearm.boc =
      { s.boc with
        state := .normal, mains := none, mainsMet := false, dip := none, reason := .none, notes := none
        acReturned := false, atRisk := none, survival := .notBegun, shedLevel := 0 } := by
  have shed := State.setShed_boc_outside (s := s.modBoc fun b =>
    { b with state := .normal, mains := none, mainsMet := false, dip := none, reason := .none, notes := none,
             acReturned := false, atRisk := none, survival := .notBegun }) 0 nofun
  simp only [State.rearm]
  split <;> simp only [State.parkedAtState_frame, State.modEng_boc, State.lockBoth_frame, shed] <;> rfl

/-- The rearm sets both lockouts, each while its clearing requests are active, or clears them (R38, R117). -/
theorem State.rearm_locks {s : State} (none_ : s.eng.trip = none ∧ s.eng.claimBoard = false ∧ s.eng.claimPanel = false) :
    s.rearm.eng.Unclaimed (!s.plan.autoResume && s.sense.runReq)
      (!s.plan.autoResume && s.sense.runReq && s.sense.panelReq) := by
  obtain ⟨trip, board, panel⟩ := none_
  have shed := State.setShed_unclaimed (s := s.modBoc fun b =>
    { b with state := .normal, mains := none, mainsMet := false, dip := none, reason := .none, notes := none,
             acReturned := false, atRisk := none, survival := .notBegun }) ⟨trip, board, panel, rfl, rfl⟩ 0
  simp only [State.rearm]
  split
  · rename_i resumes
    simp only [State.parkedAtState_frame, resumes]
    exact ⟨shed.trip, shed.claimBoard, shed.claimPanel, rfl, rfl⟩
  · rename_i stays
    simp only [State.parkedAtState_frame, stays]
    refine ⟨shed.trip, shed.claimBoard, shed.claimPanel, ?_, ?_⟩
    · simp [State.lockBoth, State.lockBoard, State.lockPanel]
    · simp [State.lockBoth, State.lockBoard, State.lockPanel]

/-- In NORMAL the controller stays as it is but for the note of the SURVIVAL work. -/
theorem State.settleFor_normal {s : State} (normal : s.boc.state = .normal) (n : Nat) :
    ∃ v, (s.settleFor n).boc = { s.boc with survival := v } := by
  refine State.settleFor_keeps (P := fun t => ∃ v, t.boc = { s.boc with survival := v }) (fun {t u} react kept => ?_)
    ⟨s.boc.survival, rfl⟩ n
  obtain ⟨v, boc⟩ := kept
  rcases State.react_cases react with r | r | r | r | r | r
  · obtain ⟨f, rfl⟩ := State.linkReact_frame r; exact ⟨v, boc⟩
  · simp [State.bocReact, boc, normal] at r
  · obtain ⟨e, f, rfl⟩ := State.engineReact_frame r; exact ⟨v, boc⟩
  · obtain ⟨j, f, v', rfl⟩ := State.survivalWaitEnd_frame r; exact ⟨v', by rw [boc]⟩
  · obtain ⟨j, f, rfl⟩ := State.quietWork_frame r; exact ⟨v, boc⟩
  · obtain ⟨f, rfl⟩ := State.takeOffer_frame r; exact ⟨v, boc⟩

/-- In NORMAL the lockouts of an engine of which nothing is claimed stay. -/
theorem State.settleFor_unclaimed {b p : Bool} {s : State} (normal : s.boc.state = .normal) (h : s.eng.Unclaimed b p) (n : Nat) :
    (s.settleFor n).eng.Unclaimed b p := by
  refine (State.settleFor_keeps (P := fun t => t.boc.state = .normal ∧ t.eng.Unclaimed b p) (fun {t u} react kept => ?_)
    ⟨normal, h⟩ n).2
  obtain ⟨normal, h⟩ := kept
  rcases State.react_cases react with r | r | r | r | r | r
  · obtain ⟨f, rfl⟩ := State.linkReact_frame r; exact ⟨normal, h⟩
  · simp [State.bocReact, normal] at r
  · have unclaimed := State.engineReact_unclaimed h r
    obtain ⟨e, f, rfl⟩ := State.engineReact_frame r; exact ⟨normal, unclaimed⟩
  · obtain ⟨j, f, v', rfl⟩ := State.survivalWaitEnd_frame r; exact ⟨normal, h⟩
  · obtain ⟨j, f, rfl⟩ := State.quietWork_frame r; exact ⟨normal, h⟩
  · obtain ⟨f, rfl⟩ := State.takeOffer_frame r; exact ⟨normal, h⟩

/-- In INIT with no computation the controller stays as it is but for the note of the SURVIVAL work (R96). -/
theorem State.settle_waits {s : State} (init : s.boc.state = .init) (none_ : s.boc.latest = none) :
    ∃ v, s.settle.boc = { s.boc with survival := v } := by
  refine State.settle_keeps (P := fun t => ∃ v, t.boc = { s.boc with survival := v }) (fun {t u} react kept => ?_)
    ⟨s.boc.survival, rfl⟩
  obtain ⟨v, boc⟩ := kept
  rcases State.react_cases react with r | r | r | r | r | r
  · obtain ⟨f, rfl⟩ := State.linkReact_frame r; exact ⟨v, boc⟩
  · simp [State.bocReact, boc, init, none_] at r
  · obtain ⟨e, f, rfl⟩ := State.engineReact_frame r; exact ⟨v, boc⟩
  · obtain ⟨j, f, v', rfl⟩ := State.survivalWaitEnd_frame r; exact ⟨v', by rw [boc]⟩
  · obtain ⟨j, f, rfl⟩ := State.quietWork_frame r; exact ⟨v, boc⟩
  · obtain ⟨f, rfl⟩ := State.takeOffer_frame r; exact ⟨v, boc⟩

/-- A SURVIVAL work that cannot go on cannot while its journal, the operation in flight and the tenure stay (R175). -/
theorem State.survivalWaitEnd_still {s t : State} (still : s.survivalWaitEnd = none) (jnu : t.jnu = s.jnu)
    (inflight : t.flb.inflight = s.flb.inflight) (tenure : s.flb.tenure.isSome = true → t.flb.tenure.isSome = true) :
    t.survivalWaitEnd = none := by
  unfold State.survivalWaitEnd at still ⊢
  rw [jnu, inflight]
  cases survival : s.jnu.survival with
  | none | padding r | writing => rfl
  | ready r =>
    rw [survival] at still
    cases work : s.jnu.work with
    | none => simp [work] at still
    | some w => rfl
  | waiting r since =>
    rw [survival] at still
    cases flight : s.flb.inflight with
    | some f =>
      cases marked : f.overrun with
      | true => simp [flight, marked] at still
      | false => simp [marked]
    | none =>
      cases open_ : s.flb.tenure with
      | none => simp [flight, open_] at still
      | some ten =>
        obtain ⟨ten', open'⟩ := Option.isSome_iff_exists.mp (tenure (by rw [open_]; rfl))
        simp [open']

theorem State.takeOffer_tenure {s t : State} (react : s.takeOffer = some t) (open_ : s.flb.tenure.isSome = true) :
    t.flb.tenure.isSome = true := by
  unfold State.takeOffer at react
  split at react
  · cases react
  · split at react
    · rename_i free
      simp [Option.isSome_iff_ne_none.mp open_] at free
    · cases react

/-- In DARK with a SURVIVAL work that cannot go on the controller stays as it is (R113, R116). -/
theorem State.settle_dark {s : State} (dark : s.boc.state = .dark) (under : s.boc.survival ≠ .ended)
    (still : s.survivalWaitEnd = none) : s.settle.boc = s.boc := by
  refine (State.settle_keeps (P := fun t => t.boc = s.boc ∧ t.survivalWaitEnd = none) (fun {t u} react kept => ?_)
    ⟨rfl, still⟩).1
  obtain ⟨boc, still⟩ := kept
  rcases State.react_cases react with r | r | r | r | r | r
  · have inflight := State.linkReact_inflight r
    have link : u.flb.tenure = t.flb.tenure := by
      unfold State.linkReact at r
      (repeat' split at r) <;> cases r <;> rfl
    obtain ⟨f, rfl⟩ := State.linkReact_frame r
    exact ⟨boc, State.survivalWaitEnd_still still rfl inflight (by rw [link]; exact id)⟩
  · simp [State.bocReact, boc, dark, under] at r
  · have inflight := State.engineReact_inflight r
    have link := (State.engineReact_tenure r).1
    obtain ⟨e, f, rfl⟩ := State.engineReact_frame r
    exact ⟨boc, State.survivalWaitEnd_still still rfl inflight (by rw [link]; exact id)⟩
  · simp [still] at r
  · have idle : t.quietWorkState = false := by
      rw [Bool.eq_false_iff]
      simp [State.quietWorkState, boc, dark, under]
    simp [State.quietWork, State.quietWorkAllowed, idle] at r
  · have inflight := State.takeOffer_inflight r
    have link := State.takeOffer_tenure r
    obtain ⟨f, rfl⟩ := State.takeOffer_frame r
    exact ⟨boc, State.survivalWaitEnd_still still rfl inflight link⟩

end Sys2Proof.Machine

namespace Sys2Proof.Machine

/-! ### The controller's timers -/

@[simp] theorem State.shedForCommit_mainActive (s : State) (r : CommitReason) :
    (s.shedForCommit r).mainActive = s.mainActive := by
  rw [State.shedForCommit_eq]
  split <;> simp [State.commits, State.mainActive, State.applied]

/-- The ride timer's expiry commits the controller; a parked command is refused (R99, R107, R158). -/
theorem rideTimerExpires (due : Nat) (p : Parked) (ten : Tenure) (s : State) (applied : s.applied = true)
    (ride : s.boc.ride = some due) :
    let r : State := s.reach due
    let committed : State := r.shedForCommit .rideLimit
    let noWait := ∀ ch, s.eng.step ≠ .railWait ch
    (noWait ∧ s.adu.parked = none → exec .rideTimerExpiry s = .next committed.settle) ∧
    (noWait ∧ s.adu.parked = some p ∧ s.flb.tenure = some ten → exec .rideTimerExpiry s = .next
         ({ committed with
            jnu := s.jnu.offered s.plan [⟨.refusal .commit p.command true (min 65535 (s.sense.uptime - p.since).toNat) s.adu.latest, .commit, s.sense.uptime⟩]
            adu := ⟨none, none, s.adu.latest⟩
            flb := { s.flb with tenure := some { ten with phase := .refusing }
                                dlinkDue := some (r.clock + 8 * (s.plan.div + 1)), reportless := s.mainActive } } : State).settle) ∧
    ∃ t, exec .rideTimerExpiry s = .next t ∧ State.CommitsFrom r t .rideLimit := by
  intro r committed noWait
  have expires : exec .rideTimerExpiry s = .next (r.enterCommit .rideLimit).settle := by
    change Host.Outcome.next (match s.boc.ride with
      | some due => ((s.reach due).enterCommit .rideLimit).settle
      | none => s) = _
    rw [ride]
  have free (h : noWait) : exec .rideTimerExpiry s = .next committed.slotRefused.settle := by
    rw [expires, State.enterCommit_free (s := r) .rideLimit (fun i waits => absurd waits (h i))]
  refine ⟨fun ⟨h, slot⟩ => ?_, fun ⟨h, slot, open_⟩ => ?_, _, expires, State.enterCommit_settles .rideLimit applied⟩
  all_goals
    obtain ⟨clock, plan, eng, sense, flb, adu, jnu⟩ := r.shedForCommit_frame .rideLimit
  · have same : committed.slotRefused = committed := by
      unfold State.slotRefused
      rw [show committed.adu.parked = none from (congrArg Admission.parked adu).trans slot]
    rw [free h, same]
  · have refused := State.slotRefused_parked (s := committed) ((congrArg Admission.parked adu).trans slot)
      ((congrArg Bridge.tenure flb).trans open_)
    have main : committed.mainActive = s.mainActive := r.shedForCommit_mainActive .rideLimit
    have state : committed.boc.state = .commit := r.shedForCommit_committed .rideLimit
    rw [free h, refused, main, state, jnu, adu, plan, sense, flb, clock]
    rfl

/-- The restore timer's expiry restores one level (R104). -/
theorem restoreTimerExpires {due : Nat} {s : State} (restore : s.boc.restore = some due) :
    exec .restoreTimerExpiry s =
      .next (({ s with clock := max s.clock due, boc := { s.boc with restore := none } } : State).restoreStep).settle := by
  change Host.Outcome.next (match s.boc.restore with
    | some due => (((s.reach due).modBoc fun b => { b with restore := none }).restoreStep).settle
    | none => s) = _
  rw [restore]
  rfl

/-- The mains timer's expiry is remembered; what it lets take place follows of itself (R96, R116). -/
theorem mainsTimerExpires {due : Nat} {s : State} (mains : s.boc.mains = some due) :
    exec .mainsTimerExpiry s =
      .next ({ s with clock := max s.clock due, boc := { s.boc with mains := none, mainsMet := true } } : State).settle := by
  change Host.Outcome.next (match s.boc.mains with
    | some due => ((s.reach due).modBoc fun b => { b with mains := none, mainsMet := true }).settle
    | none => s) = _
  rw [mains]
  rfl

/-- What the link's turn may change before the controller passes on. -/
theorem State.turned_same {s u : State} (h : u = s ∨ s.linkReact = some u) :
    u.load = s.load ∧ u.plan = s.plan ∧ u.eng = s.eng ∧ u.sense = s.sense ∧ u.boc = s.boc := by
  rcases h with rfl | link
  · exact ⟨rfl, rfl, rfl, rfl, rfl⟩
  · obtain ⟨f, rfl⟩ := State.linkReact_frame link
    exact ⟨rfl, rfl, rfl, rfl, rfl⟩

/-- A met mains condition takes INIT to NORMAL where a computation has been taken (R96). -/
theorem State.settle_begins {s : State} (applied : s.applied = true) (init : s.boc.state = .init) (met : s.boc.mainsMet = true)
    (taken : s.boc.latest ≠ none) :
    ∃ v, s.settle.boc = { s.boc with state := .normal, mains := none, mainsMet := false, survival := v } := by
  have passes (u : State) (h : u = s ∨ s.linkReact = some u) : u.bocReact = some u.normalFromInit := by
    obtain ⟨load, -, -, -, boc⟩ := State.turned_same h
    have applied' : u.applied = true := by rwa [State.applied, load]
    simp [State.bocReact, applied', boc, init, met, Option.isSome_iff_ne_none, taken]
  obtain ⟨u, n, from_, settles, -⟩ := State.settle_passes passes
  obtain ⟨v, boc⟩ := State.settleFor_normal u.normalFromInit_state n
  obtain ⟨-, -, -, -, same⟩ := State.turned_same from_
  have normal : u.normalFromInit.boc = { s.boc with state := .normal, mains := none, mainsMet := false } := by
    simp [State.normalFromInit, same]
  exact ⟨v, by rw [settles, boc, normal]⟩

/-- A met mains condition rearms in DARK once the SURVIVAL work has ended (R116, R117). -/
theorem State.settle_rearms {s : State} (applied : s.applied = true) (dark : s.boc.state = .dark) (met : s.boc.mainsMet = true)
    (ended : s.boc.survival = .ended) :
    ∃ u n, (u = s ∨ s.linkReact = some u) ∧ s.settle = u.rearm.settleFor n := by
  have passes (u : State) (h : u = s ∨ s.linkReact = some u) : u.bocReact = some u.rearm := by
    obtain ⟨load, -, -, -, boc⟩ := State.turned_same h
    have applied' : u.applied = true := by rwa [State.applied, load]
    simp [State.bocReact, applied', boc, dark, met, ended]
  obtain ⟨u, n, from_, settles, -⟩ := State.settle_passes passes
  exact ⟨u, n, from_, settles⟩

/-- Settles O33: the commitment by `State.enterCommit_settles`, the restore step by its own equations, a cleared mark by the
channel's, and the mains condition by the controller's passage and what follows it. -/
theorem controllerTimersExpire : Obligations.ControllerTimersExpire := by
  refine ⟨fun due p ten s applied dip ride => ?ride, fun due p op ten s recover restore => ?restore,
    fun e now level c set clears => ?channel, fun due s applied mains => ?mains⟩
  case ride =>
    intro notes now stays base committed noWait refusal
    obtain ⟨plain, refused, t, expires, from_⟩ := rideTimerExpires due p ten s applied ride
    have commits : (s.reach due).shedForCommit .rideLimit = committed := State.shedForCommit_split _ _
    rw [commits] at plain refused
    obtain ⟨st, m, mm, v, boc⟩ := from_.down.kept
    rw [State.enterCommit_boc] at boc
    have domains : t.eng.bothDown = true ↔ t.eng.board = .down ∧ t.eng.panel = .down := Engine.bothDown_iff
    refine ⟨plain, refused, t, expires, from_.clock, from_.down.committed, ?_, ?_, ?_, ?_, ?_, ?_, ?_, ?_, fun free => ?_,
      fun ⟨free, down⟩ => ?_, from_.stays, from_.shed⟩
    iterate 8 rw [boc]; rfl
    · obtain ⟨descends, dark, -⟩ := from_.leaves free
      exact ⟨descends.states, dark.trans domains⟩
    · exact (from_.leaves free).2.2 (Engine.bothDown_iff.mpr down)
  case restore =>
    intro now level rails atZero base entered toNormal c clocks issue
    let r : State := { s with clock := now, boc := { s.boc with restore := none } }
    have expires : exec .restoreTimerExpiry s = .next r.restoreStep.settle := restoreTimerExpires restore
    have rails_eq : r.restoreStep.rails = if s.boc.shedLevel = 0 then s.rails else rails := r.restoreStep_rails
    have boc_eq : r.restoreStep.boc =
        if s.boc.shedLevel ≤ 1 then
          { s.boc with state := .normal, restore := none, heldBoard := false, heldPanel := false, shedLevel := level }
        else { s.boc with restore := some (now + s.plan.restoreStepMs * 96000), shedLevel := level } :=
      State.restoreStep_boc (s := r) recover
    have clears (last : s.boc.shedLevel ≤ 1) : r.restoreStep.adu.parked = none := State.restoreStep_clears (s := r) last
    have zero_level (last : s.boc.shedLevel ≤ 1) : level = 0 := by simp only [level]; omega
    obtain ⟨⟨v, boc⟩, kept, -, adu⟩ := State.settle_steady (s := r.restoreStep)
      ((State.restoreStep_state (s := r) recover).imp_right .inr)
    rw [boc_eq] at boc
    have free (h : toNormal) : r.restoreStep = entered.parkedAtState := by
      rw [State.restoreStep_free (s := r) h.1 recover h.2]
      refine congrArg State.parkedAtState ?_
      by_cases zero : s.boc.shedLevel = 0
      · rw [if_pos (show r.boc.shedLevel = 0 from zero)]
        simp only [entered, base, atZero, if_pos zero]
        rfl
      · rw [if_neg (show ¬ r.boc.shedLevel = 0 from zero)]
        simp only [entered, base, atZero, if_neg zero]
        have dims := State.retarget_boc (s := { s with clock := now, rails := rails, boc := { s.boc with shedLevel := 0 } })
          { s.boc with restore := none, shedLevel := 0 } rfl
        exact congrArg (fun t : State => { t with boc := entered.boc, eng := entered.eng }) dims
    obtain ⟨clock_eq, plan_eq, sense_eq, flb_eq, adu_eq⟩ : entered.clock = now ∧ entered.plan = s.plan ∧
        entered.sense = s.sense ∧ entered.flb = s.flb ∧ entered.adu = s.adu := by
      simp only [entered, base]
      split <;> simp
    refine ⟨fun ⟨h, slot⟩ => ?_, fun ⟨h, slot, cls, open_⟩ => ?_, fun more => ?_, fun zero => ?_, fun one => ?_⟩
    · rw [expires, free h, State.parkedAtState_empty (by rw [adu_eq]; exact slot)]
    · rw [expires, free h, State.parkedAtState_normal rfl (by rw [adu_eq]; exact slot) cls (by rw [flb_eq]; exact open_)]
      rw [adu_eq, flb_eq, clock_eq, plan_eq, sense_eq]
      rfl
    · refine ⟨_, expires, by simp [r], ?_⟩
      rw [boc, kept, rails_eq, adu, State.restoreStep_adu (s := r) more, if_neg (by omega), if_neg (by omega)]
      exact ⟨recover, rfl, rfl, rfl, rfl, rfl⟩
    · refine ⟨_, expires, by simp [r], ?_⟩
      rw [boc, kept, rails_eq, adu, clears (by omega), if_pos (by omega), if_pos zero]
      exact ⟨rfl, zero_level (by omega), rfl, rfl, rfl, rfl, rfl, rfl⟩
    · refine ⟨_, expires, by simp [r], ?_⟩
      rw [boc, kept, rails_eq, adu, clears (by omega), if_pos (by omega), if_neg (by omega)]
      exact ⟨rfl, zero_level (by omega), rfl, rfl, rfl, rfl, rfl, rfl⟩
  case channel => exact channelRestored e now level c set clears
  case mains =>
    let met : State := { s with clock := max s.clock due, boc := { s.boc with mains := none, mainsMet := true } }
    have expires : exec .mainsTimerExpiry s = .next met.settle := mainsTimerExpires mains
    have clock : met.settle.clock = max s.clock due := by simp [met]
    refine ⟨fun ⟨init, taken⟩ => ?_, fun ⟨init, none_⟩ => ?_, fun ⟨dark, under, still⟩ => ?_, fun ⟨dark, ended⟩ => ?_,
      fun ⟨dark, ended, trip, board, panel, _⟩ => ?_⟩
    · obtain ⟨v, boc⟩ := State.settle_begins (s := met) applied init rfl taken
      refine ⟨_, expires, clock, ?_⟩
      rw [boc]
      exact ⟨rfl, rfl, rfl⟩
    · obtain ⟨v, boc⟩ := State.settle_waits (s := met) init none_
      refine ⟨_, expires, clock, ?_⟩
      rw [boc]
    · exact ⟨_, expires, clock, State.settle_dark (s := met) dark under
        (State.survivalWaitEnd_still still rfl rfl id)⟩
    · obtain ⟨u, n, from_, settles⟩ := State.settle_rearms (s := met) applied dark rfl ended
      obtain ⟨-, -, -, -, same⟩ := State.turned_same from_
      obtain ⟨v, boc⟩ := State.settleFor_normal u.rearm_normal.1 n
      rw [← settles, State.rearm_boc, same] at boc
      refine ⟨_, expires, clock, ?_⟩
      rw [boc]
      exact ⟨rfl, rfl, rfl, rfl, rfl, rfl, rfl, rfl⟩
    · obtain ⟨u, n, from_, settles⟩ := State.settle_rearms (s := met) applied dark rfl ended
      obtain ⟨-, plan, eng, sense, -⟩ := State.turned_same from_
      have locks := State.settleFor_unclaimed u.rearm_normal.1 (u.rearm_locks (by rw [eng]; exact ⟨trip, board, panel⟩)) n
      rw [← settles, plan, sense] at locks
      exact ⟨_, expires, locks.boardLock, locks.panelLock⟩

end Sys2Proof.Machine

namespace Sys2Proof.Machine

/-! ## The preparation of an image -/

/-! ### Fields -/

theorem byteAt_eq (img : List Byte) (o : Nat) : byteAt img o = fieldAt img o 1 := by
  have at_ : img[o]? = (img.drop o)[0]? := by simp
  unfold byteAt fieldAt
  rw [List.getD_eq_getElem?_getD, at_]
  cases img.drop o <;> simp [leNat]

theorem atMost_fst (bound v o : Nat) : (atMost bound v o).1 = min bound v := by
  unfold atMost
  split <;> simp only <;> omega

theorem alignDown_eq (address log : Nat) : alignDown address log = address - address % 2 ^ log := by
  have split_ := Nat.div_add_mod address (2 ^ log)
  rw [alignDown, Nat.mul_comm]
  omega

theorem prepareBlock_fst (img : List Byte) : (prepareBlock img).1 = max (fSector.value img) (fBlock.value img) := by
  unfold prepareBlock
  split <;> simp only <;> omega

/-- A four-byte figure of 1 or more is brought up to 1 alone. -/
theorem fTyp_value (img : List Byte) (k : Nat) : (fTyp k).value img = max 1 (fieldAt img (typOffset k) 4) := by
  have bound := fieldAt_lt img (typOffset k) 4
  have value : (fTyp k).value img = max 1 (min 0xFFFFFFFF (fieldAt img (typOffset k) 4)) := rfl
  rw [value]
  omega

theorem policyOf_fit (v : Nat) (d : Policy) :
    some ((Policy.ofCode (clampNat 1 5 v)).getD d) = Policy.ofCode (clampNat 1 5 v) := by
  have bounds := clampNat_bounds (lo := 1) (hi := 5) (by omega) v
  generalize clampNat 1 5 v = c at bounds ⊢
  obtain ⟨low, high⟩ := bounds
  interval_cases c <;> rfl

theorem unknownClass_fit (v : Nat) :
    (if fitUnknownClass v = 5 then FlashClass.otherPass else .otherBlock) = if v < 8 then .otherPass else .otherBlock := by
  unfold fitUnknownClass
  by_cases low : v < 8 <;> simp [low]

/-! ### Rails and lines -/

theorem faultAction_fit (v : Nat) :
    FaultAction.ofCode (clampNat 0 2 v) = if v = 0 then .log else if v = 1 then .domainDown else .trip := by
  match v with
  | 0 | 1 => rfl
  | n + 2 =>
    have two : clampNat 0 2 (n + 2) = 2 := by unfold clampNat; omega
    rw [two]
    rfl

/-- A line keeps the MAIN_RESET role unless a present line below it bears it (R33). -/
theorem prepareLine_eq (img : List Byte) (i : Nat) :
    prepareLine img i =
      { present := bitAt img (194 + i) 0, activeLow := bitAt img (194 + i) 1, initialActive := bitAt img (194 + i) 2
        mainReset := bitAt img (194 + i) 3 &&
          !(bitAt img (194 + i) 0 && (List.range i).any fun j => bitAt img (194 + j) 0 && bitAt img (194 + j) 3) } := by
  simp only [prepareLine, parseLine, roleDropped, roleTaken, lineOffset, LineEntry.mk.injEq, true_and]
  cases bitAt img (194 + i) 3 <;> simp

/-! ### Steps -/

/-- The kind of a step by its code, a step on an absent rail or line a NOP (R25, R184). -/
def storedKind (img : List Byte) (o : Nat) : StepKind :=
  let a := fieldAt img (o + 1) 1
  let b (lo hi : Nat) : Nat := max lo (min hi (fieldAt img (o + 2) 2))
  let onRail (f : Fin 12 → StepKind) : StepKind :=
    if h : a < 12 then (if bitAt img (38 + 13 * a) 0 then f ⟨a, h⟩ else .nop) else .nop
  let onLine (f : Fin 6 → StepKind) : StepKind :=
    if h : a < 6 then (if bitAt img (194 + a) 0 then f ⟨a, h⟩ else .nop) else .nop
  match fieldAt img o 1 % 128 with
  | 1 => onRail fun r => .railUp r (b 0 1 == 1)
  | 2 => onRail fun r => .railDown r (b 0 1 == 1)
  | 3 => .delay (b 1 10000)
  | 4 => onLine fun l => .line l (b 0 1 == 1)
  | 5 => onLine fun l => .linePulse l (b 1 255)
  | 6 => .dimLimit (b 0 1000)
  | 7 => .await (if bitAt img (o + 1) 0 then 1 else 0) (bitAt img (o + 1) 1) (b 1 10000)
  | 8 => .flashQuiesce
  | 9 => .flashResume
  | _ => .nop

theorem presentRail_getD (img : List Byte) (a : Nat) (f : Fin 12 → StepKind) :
    ((presentRail img a).map f).getD .nop =
      if h : a < 12 then (if bitAt img (38 + 13 * a) 0 then f ⟨a, h⟩ else .nop) else .nop := by
  unfold presentRail railOffset
  (repeat' split) <;> rfl

theorem presentLine_getD (img : List Byte) (a : Nat) (f : Fin 6 → StepKind) :
    ((presentLine img a).map f).getD .nop =
      if h : a < 6 then (if bitAt img (194 + a) 0 then f ⟨a, h⟩ else .nop) else .nop := by
  unfold presentLine lineOffset
  (repeat' split) <;> rfl

/-- An unknown kind becomes a NOP (R25). -/
theorem stepCode_eq (img : List Byte) (i : Nat) :
    stepCode img i = if fieldAt img (214 + 4 * i) 1 % 128 ≤ 9 then fieldAt img (214 + 4 * i) 1 % 128 else 0 := by
  have code : stepCode img i = fitKind (fieldAt img (214 + 4 * i) 1) % 128 := rfl
  rw [code, fitKind]
  split <;> omega

theorem parseKind_getD (img : List Byte) (i : Nat) : (parseKind img i).getD .nop = storedKind img (214 + 4 * i) := by
  have code := stepCode_eq img i
  unfold parseKind storedKind
  rw [byteAt_eq, code]
  generalize kind : fieldAt img (214 + 4 * i) 1 % 128 = k
  match k with
  | 0 | 3 | 6 | 7 | 8 | 9 => rfl
  | 1 | 2 => exact presentRail_getD _ _ _
  | 4 | 5 => exact presentLine_getD _ _ _
  | n + 10 => simp

end Sys2Proof.Machine

namespace Sys2Proof.Machine

/-! ### The class table -/

/-- The position that receives a built-in entry: the first of no class, or the highest that has received none (R122). -/
def entryPlace (entries : List ClassEntry) (filled : List Nat) (d : Nat → ClassEntry) : Nat :=
  (((List.range 16).find? fun i => (entries.getD i (d i)).cls == none).or
    ((List.range 16).reverse.find? fun i => !filled.contains i)).getD 15

theorem findIdx?_eq_find?_range {entries : List ClassEntry} (d : Nat → ClassEntry) (p : ClassEntry → Bool) :
    entries.findIdx? p = (List.range entries.length).find? fun i => p (entries.getD i (d i)) := by
  ext i
  rw [List.findIdx?_eq_some_iff_getElem, List.find?_range_eq_some]
  have same (j : Nat) (h : j < entries.length) : entries.getD j (d j) = entries[j] := by simp [h]
  constructor
  · rintro ⟨h, found, before⟩
    refine ⟨by rwa [same i h], List.mem_range.mpr h, fun j less => ?_⟩
    rw [same j (less.trans h)]
    simpa using before j less
  · rintro ⟨found, h, before⟩
    have h := List.mem_range.mp h
    refine ⟨h, by rwa [same i h] at found, fun j less => ?_⟩
    have other := before j less
    rw [same j (less.trans h)] at other
    simpa using other

theorem ClassTable.place_eq {t : ClassTable} (length : t.entries.length = 16) (d : Nat → ClassEntry) :
    t.place = entryPlace t.entries t.filled d := by
  have free := findIdx?_eq_find?_range (entries := t.entries) d fun e => e.cls.isNone
  have none_ (o : Option FlashClass) : (o == none) = o.isNone := by cases o <;> rfl
  rw [length] at free
  unfold ClassTable.place entryPlace
  simp only [none_]
  rw [free]
  cases (List.range 16).find? fun i => (t.entries.getD i (d i)).cls.isNone <;> rfl

/-- A class that the bridge needs is filled in where it is missing (R122). -/
def fillEntry (d : Nat → ClassEntry) (t : List ClassEntry × List Nat) (cls : FlashClass) (opcode : Byte) :
    List ClassEntry × List Nat :=
  if t.1.any fun e => e.cls == some cls then t
  else (t.1.set (entryPlace t.1 t.2 d) ⟨opcode, 0xFF, some cls, 0, 1, 1⟩, t.2 ++ [entryPlace t.1 t.2 d])

theorem ClassTable.need_eq {t : ClassTable} (length : t.entries.length = 16) (d : Nat → ClassEntry) {cls : FlashClass}
    {opcode : Byte} (builtin : (builtinClasses.find? fun e => e.cls == some cls) = some ⟨opcode, 0xFF, some cls, 0, 1, 1⟩) :
    ((t.need cls).entries, (t.need cls).filled) = fillEntry d (t.entries, t.filled) cls opcode := by
  unfold ClassTable.need fillEntry
  rw [builtin, ← t.place_eq length d]
  by_cases held : (t.entries.any fun e => e.cls == some cls) = true
  · rw [if_pos held, if_pos held]
  · rw [if_neg held, if_neg held]

/-- A table of as many entries as before. -/
theorem ClassTable.need_length (t : ClassTable) (cls : FlashClass) : (t.need cls).entries.length = t.entries.length := by
  unfold ClassTable.need
  (repeat' split) <;> simp

theorem prepareClasses_eq (img : List Byte) :
    ((prepareClasses img).entries, (prepareClasses img).filled) =
      fillEntry (parseClass img) (fillEntry (parseClass img)
        (fillEntry (parseClass img) ((List.range 16).map (parseClass img), []) .writeEnable 0x06) .writeDisable 0x04)
        .statusRead 0x05 := by
  unfold prepareClasses
  rw [ClassTable.need_eq (by simp [ClassTable.need_length]) (parseClass img) rfl,
    ClassTable.need_eq (by simp [ClassTable.need_length]) (parseClass img) rfl,
    ClassTable.need_eq (by simp) (parseClass img) rfl]

theorem classOf_fit (v : Nat) : FlashClass.ofCode (fitClass v) = FlashClass.ofCode v := by
  unfold fitClass
  split
  · rfl
  · rename_i high
    match v with
    | 0 | 1 | 2 | 3 | 4 | 5 | 6 | 7 | 8 | 9 | 10 | 11 => simp at high
    | n + 12 => rfl

/-- A class entry as it is read (R122). -/
theorem parseClass_eq (img : List Byte) (i : Nat) :
    parseClass img i =
      ⟨img.getD (726 + 6 * i) 0, img.getD (726 + 6 * i + 1) 0, FlashClass.ofCode (fieldAt img (726 + 6 * i + 2) 1),
        fitAddrBytes (fieldAt img (726 + 6 * i + 3) 1), fitLanes (fieldAt img (726 + 6 * i + 4) 1),
        fitLanes (fieldAt img (726 + 6 * i + 5) 1)⟩ := by
  have cls : FlashClass.ofCode ((fClass i).value img) = FlashClass.ofCode (fieldAt img (726 + 6 * i + 2) 1) := classOf_fit _
  simp only [parseClass, cls]
  rfl

/-! ### Windows, the journal and the descent times -/

/-- A window is in use where its policy code is one (R146). -/
theorem windowUsed_iff (img : List Byte) (i : Nat) :
    windowUsed img i = true ↔ 1 ≤ fieldAt img (822 + 6 * i + 5) 1 ∧ fieldAt img (822 + 6 * i + 5) 1 ≤ 5 := by
  have used : windowUsed img i = (fitPolicy (fieldAt img (822 + 6 * i + 5) 1) != 0) := rfl
  rw [used]
  unfold fitPolicy
  split <;> simp <;> omega

theorem policyOf_window {v : Nat} (used : 1 ≤ v ∧ v ≤ 5) : ∃ q, Policy.ofCode v = some q ∧ fitPolicy v = v := by
  obtain ⟨low, high⟩ := used
  interval_cases v <;> exact ⟨_, rfl, rfl⟩

theorem policyOf_unused {v : Nat} (unused : ¬ (1 ≤ v ∧ v ≤ 5)) : Policy.ofCode v = none := by
  match v with
  | 0 => rfl
  | 1 | 2 | 3 | 4 | 5 => simp at unused
  | n + 6 => rfl

theorem parseWindow_eq (img : List Byte) (i : Nat) :
    parseWindow img i =
      match Policy.ofCode (fieldAt img (822 + 6 * i + 5) 1) with
      | some q =>
        ⟨fieldAt img (822 + 6 * i) 4 - fieldAt img (822 + 6 * i) 4 % 2 ^ clampNat 12 28 (fieldAt img (822 + 6 * i + 4) 1),
          clampNat 12 28 (fieldAt img (822 + 6 * i + 4) 1), some q⟩
      | none => unusedWindow := by
  unfold parseWindow
  by_cases used : windowUsed img i = true
  · obtain ⟨q, policy, fits⟩ := policyOf_window ((windowUsed_iff img i).mp used)
    have value : (fWindowPolicy i).value img = fieldAt img (822 + 6 * i + 5) 1 := fits
    rw [if_pos used, value, policy, alignDown_eq]
    rfl
  · rw [if_neg used, policyOf_unused (mt (windowUsed_iff img i).mpr used)]

/-- The first entry of a class carries an address (R164). -/
theorem classCarries_eq (p : Plan) (cls : FlashClass) (address : Nat) :
    classCarries p.classes cls address =
      (p.firstEntry cls).any fun e => e.addrBytes != 0 && decide (address < 256 ^ e.addrBytes) := by
  unfold classCarries Plan.firstEntry
  cases p.classes.find? fun e => e.cls == some cls <;> rfl

theorem fSectors_zero (img : List Byte) : fSectors.value img = 0 ↔ fieldAt img 966 1 = 0 := by
  have value : fSectors.value img = fitSectors (fieldAt img 966 1) := rfl
  rw [value, fitSectors]
  split
  · simp [*]
  · have bounds := clampNat_bounds (lo := 2) (hi := 16) (by omega) (fieldAt img 966 1)
    constructor <;> omega

theorem prepareSectors_fst (img : List Byte) (entries : List ClassEntry) :
    (prepareSectors img entries).1 =
      let last := (prepareBase img).1 + clampNat 2 16 (fieldAt img 966 1) * 2 ^ fSector.value img - 1
      if fieldAt img 966 1 ≠ 0 ∧ classCarries entries .read last = true ∧ classCarries entries .program last = true ∧
          classCarries entries .eraseSector last = true then clampNat 2 16 (fieldAt img 966 1)
      else 0 := by
  by_cases stored : fieldAt img 966 1 = 0
  · simp [prepareSectors, (fSectors_zero img).mpr stored, stored]
  · have value : fSectors.value img = clampNat 2 16 (fieldAt img 966 1) := if_neg stored
    have some_ : clampNat 2 16 (fieldAt img 966 1) ≠ 0 := by rw [← value]; exact mt (fSectors_zero img).mp stored
    simp only [prepareSectors, value, if_neg some_, Bool.and_eq_true, and_assoc, ne_eq, stored, not_false_eq_true, true_and]
    split <;> rfl

/-- The settle times in half milliseconds (R1, R51). -/
theorem settleHalves (code : Nat) : settleCounts code / (Config.countsPerMs / 2) = [0, 1, 2, 4, 10, 20, 40].getD code 100 := by
  match code with
  | 0 | 1 | 2 | 3 | 4 | 5 | 6 => rfl
  | n + 7 =>
    have longest : settleCounts (n + 7) = msCounts 50 := rfl
    rw [longest, List.getD_eq_default _ _ (by simp)]
    rfl

theorem stepHalfMs_eq (p : Plan) (k : StepKind) :
    stepHalfMs p.rails k =
      match k with
      | .delay ms | .linePulse _ ms | .await _ _ ms => 2 * ms
      | .railDown ch true => 2 * p.rails[ch].fallMs
      | .railUp ch true =>
        2 * p.rails[ch].riseMs + (if p.rails[ch].timed then 0 else [0, 1, 2, 4, 10, 20, 40].getD p.rails[ch].settle 100)
      | _ => 0 := by
  cases k with
  | railUp ch wait =>
    cases wait with
    | true => simp only [stepHalfMs, settleHalves]
    | false => rfl
  | railDown ch wait => cases wait <;> rfl
  | _ => rfl

end Sys2Proof.Machine

namespace Sys2Proof.Machine

/-! ### The changes of the preparation -/

/-- The change of a number outside its range, of a code that is not one of its values, and of a condition met. -/
def outside (img : List Byte) (o size lo hi : Nat) : List Nat :=
  if lo ≤ fieldAt img o size ∧ fieldAt img o size ≤ hi then [] else [o]

def notAmong (img : List Byte) (o : Nat) (values : List Nat) : List Nat :=
  if values.contains (fieldAt img o 1) then [] else [o]

def changeIf (b : Bool) (o : Nat) : List Nat := if b then [o] else []

/-- A field of a range changes where its number lies outside. -/
theorem ranged_clamps (img : List Byte) (o size : Nat) {lo hi : Nat} (h : lo ≤ hi) :
    (ranged o size lo hi).clamps img = outside img o size lo hi := by
  have value : (ranged o size lo hi).value img = max lo (min hi (fieldAt img o size)) := rfl
  have offset : (ranged o size lo hi).offset = o := rfl
  have stored : fieldAt img (ranged o size lo hi).offset (ranged o size lo hi).size = fieldAt img o size := rfl
  unfold Field.clamps outside
  rw [stored, value, offset]
  by_cases within : lo ≤ fieldAt img o size ∧ fieldAt img o size ≤ hi
  · rw [if_pos within, if_pos (by omega)]
  · rw [if_neg within, if_neg (by omega)]

/-- A code changes where it is none of its values. -/
theorem Field.clamps_notAmong {img : List Byte} {o : Nat} {fit : Nat → Nat} {values : List Nat}
    (keeps : ∀ v, fit v = v ↔ v ∈ values) : (Field.mk o 1 fit).clamps img = notAmong img o values := by
  unfold Field.clamps notAmong
  exact if_congr ((keeps _).trans List.contains_iff_mem.symm) rfl rfl

theorem Field.clamps_outside {img : List Byte} {o hi : Nat} {fit : Nat → Nat} (keeps : ∀ v, fit v = v ↔ v ≤ hi) :
    (Field.mk o 1 fit).clamps img = outside img o 1 0 hi := by
  unfold Field.clamps outside
  exact if_congr ((keeps _).trans (by simp)) rfl rfl

theorem fitUnknownClass_iff (v : Nat) : fitUnknownClass v = v ↔ v ∈ [5, 11] := by
  unfold fitUnknownClass
  simp only [List.mem_cons, List.not_mem_nil, or_false]
  split <;> omega

theorem fitAddrBytes_iff (v : Nat) : fitAddrBytes v = v ↔ v ∈ [0, 3, 4] := by
  unfold fitAddrBytes
  simp only [List.mem_cons, List.not_mem_nil, or_false]
  (repeat' split) <;> omega

theorem fitLanes_iff (v : Nat) : fitLanes v = v ↔ v ∈ [1, 2, 4] := by
  unfold fitLanes
  simp only [List.mem_cons, List.not_mem_nil, or_false]
  (repeat' split) <;> omega

theorem fitClass_iff (v : Nat) : fitClass v = v ↔ v ≤ 11 := by
  unfold fitClass
  split <;> omega

theorem fitPolicy_iff (v : Nat) : fitPolicy v = v ↔ v ≤ 5 := by
  unfold fitPolicy
  split <;> omega

theorem fitSectors_iff (v : Nat) : fitSectors v = v ↔ v ∈ [0, 2, 3, 4, 5, 6, 7, 8, 9, 10, 11, 12, 13, 14, 15, 16] := by
  simp only [List.mem_cons, List.not_mem_nil, or_false]
  unfold fitSectors clampNat
  split <;> omega

/-! #### Lists of changes -/

theorem map_filter_eq_flatMap (l : List Nat) (p : Nat → Bool) (f : Nat → Nat) :
    (l.filter p).map f = l.flatMap fun i => changeIf (p i) (f i) := by
  induction l with
  | nil => rfl
  | cons x l ih =>
    rw [List.filter_cons, List.flatMap_cons, ← ih]
    cases p x <;> rfl

/-- The changes of the fields of a table, entry by entry. -/
theorem flatMap_clamps (img : List Byte) (n : Nat) (f : Nat → List Field) :
    ((List.range n).flatMap f).flatMap (Field.clamps · img) = (List.range n).flatMap fun i => (f i).flatMap (Field.clamps · img) :=
  List.flatMap_assoc

/-- Two kinds of changes of a table's entries count as those of each entry. -/
theorem count_flatMap_add (a n : Nat) {f g h : Nat → List Nat} (each : ∀ i, f i ++ g i = h i) :
    ((List.range n).flatMap f).count a + ((List.range n).flatMap g).count a = ((List.range n).flatMap h).count a := by
  rw [← List.count_append, (List.flatMap_append_perm (List.range n) f g).count_eq]
  simp only [each]

/-! #### The changes of each part -/

/-- The figures of the image that stand alone: offset, size and bounds. -/
def storedHead : List (Nat × Nat × Nat × Nat) :=
  [(13, 1, 1, 5), (14, 1, 1, 5), (15, 1, 0, 8), (16, 2, 5000, 33000), (18, 2, 100, 511), (20, 2, 1000, 32767),
   (26, 2, 0, 32767), (28, 1, 0, 3), (32, 2, 0, 1000), (34, 2, 0, 1000), (36, 2, 1, 1000), (870, 2, 10, 2000),
   (872, 2, 50, 400), (874, 2, 500, 1000), (876, 2, 0, 10000), (878, 2, 0, 1000), (880, 2, 0, 20000), (882, 2, 0, 5000),
   (884, 4, 0, 300000), (888, 4, 0, 261121), (892, 4, 0, 261121), (896, 4, 0, 261121), (900, 2, 0, 10000),
   (902, 2, 0, 10000), (904, 2, 1, 2000), (906, 2, 10, 10000), (908, 4, 1000, 600000), (912, 1, 2, 16), (913, 1, 0, 1),
   (914, 1, 1, 15), (915, 2, 20, 2000), (917, 1, 6, 8), (918, 1, 12, 16), (919, 1, 15, 18), (920, 2, 1, 5000), (967, 1, 1, 8)]

def headField (f : Nat × Nat × Nat × Nat) : Field := ranged f.1 f.2.1 f.2.2.1 f.2.2.2

theorem headFields_eq :
    headFields = [fUnknownClass] ++ (storedHead.take 35).map headField ++ [fSectors] ++ (storedHead.drop 35).map headField :=
  rfl

def headChanges (img : List Byte) : List Nat := storedHead.flatMap fun f => outside img f.1 f.2.1 f.2.2.1 f.2.2.2

theorem headFields_clamps {img : List Byte} {l : List (Nat × Nat × Nat × Nat)} (within : ∀ f ∈ l, f.2.2.1 ≤ f.2.2.2) :
    (l.map headField).flatMap (Field.clamps · img) = l.flatMap fun f => outside img f.1 f.2.1 f.2.2.1 f.2.2.2 := by
  rw [List.flatMap_map]
  exact List.flatMap_congr fun f mem => ranged_clamps img _ _ (within f mem)

theorem headFields_count (img : List Byte) (a : Nat) :
    (headFields.flatMap (Field.clamps · img)).count a =
      (notAmong img 12 [5, 11]).count a + (headChanges img).count a +
        (notAmong img 966 [0, 2, 3, 4, 5, 6, 7, 8, 9, 10, 11, 12, 13, 14, 15, 16]).count a := by
  have within : ∀ f ∈ storedHead, f.2.2.1 ≤ f.2.2.2 := by decide
  have front := headFields_clamps (img := img) (l := storedHead.take 35) fun f mem => within f (List.mem_of_mem_take mem)
  have back := headFields_clamps (img := img) (l := storedHead.drop 35) fun f mem => within f (List.mem_of_mem_drop mem)
  have unknown : fUnknownClass.clamps img = _ := Field.clamps_notAmong fitUnknownClass_iff
  have sectors : fSectors.clamps img = _ := Field.clamps_notAmong fitSectors_iff
  have whole := congrArg (List.flatMap fun f : Nat × Nat × Nat × Nat => outside img f.1 f.2.1 f.2.2.1 f.2.2.2)
    (List.take_append_drop 35 storedHead)
  rw [List.flatMap_append] at whole
  rw [headFields_eq]
  simp only [List.flatMap_append, front, back, List.flatMap_cons, List.flatMap_nil, List.append_nil, unknown,
    sectors, List.count_append, headChanges, ← whole]
  omega

def railChanges (img : List Byte) (o : Nat) : List Nat :=
  if bitAt img o 0 then
    outside img (o + 1) 1 0 3 ++ outside img (o + 2) 1 0 7 ++ outside img (o + 3) 1 1 255 ++ outside img (o + 4) 1 1 255 ++
      outside img (o + 7) 1 0 3 ++ outside img (o + 8) 1 0 2
  else []

theorem railFields_clamps (img : List Byte) (i : Nat) :
    (railFields img i).flatMap (Field.clamps · img) = railChanges img (38 + 13 * i) := by
  unfold railFields railChanges
  split <;> rename_i present
  · rw [if_pos (by exact present)]
    simp [fPgFilter, fSettle, fRise, fFall, fShedClass, fFaultAction, ranged_clamps, railOffset]
  · rw [if_neg (by exact present)]
    rfl

def lineChanges (img : List Byte) (l : Nat) : List Nat :=
  changeIf (bitAt img (194 + l) 0 && bitAt img (194 + l) 3 &&
    (List.range l).any fun j => bitAt img (194 + j) 0 && bitAt img (194 + j) 3) (194 + l)

theorem roleDropped_lines (img : List Byte) :
    ((List.range 6).filter (roleDropped img)).map lineOffset = (List.range 6).flatMap (lineChanges img) :=
  map_filter_eq_flatMap _ _ _

def slotChanges (img : List Byte) (o : Nat) : List Nat :=
  let first := max 0 (min 127 (fieldAt img o 1))
  let count := max 0 (min 24 (fieldAt img (o + 1) 1))
  outside img o 1 0 127 ++ outside img (o + 1) 1 0 24 ++ List.replicate (min count (first + count - 128)) (o + 1)

theorem slotFields_clamps (img : List Byte) (k : Nat) :
    ([fStart k, fCount k].flatMap (Field.clamps · img)) ++ beyondPool img k = slotChanges img (200 + 2 * k) := by
  simp only [List.flatMap_cons, List.flatMap_nil, List.append_nil, fStart, fCount, ranged_clamps, Nat.zero_le]
  rfl

def stepChanges (img : List Byte) (o : Nat) : List Nat :=
  match fieldAt img o 1 % 128 with
  | 1 | 2 =>
    outside img (o + 2) 2 0 1 ++
      changeIf (!(decide (fieldAt img (o + 1) 1 < 12) && bitAt img (38 + 13 * fieldAt img (o + 1) 1) 0)) o
  | 4 =>
    outside img (o + 2) 2 0 1 ++
      changeIf (!(decide (fieldAt img (o + 1) 1 < 6) && bitAt img (194 + fieldAt img (o + 1) 1) 0)) o
  | 5 =>
    outside img (o + 2) 2 1 255 ++
      changeIf (!(decide (fieldAt img (o + 1) 1 < 6) && bitAt img (194 + fieldAt img (o + 1) 1) 0)) o
  | 3 | 7 => outside img (o + 2) 2 1 10000
  | 6 => outside img (o + 2) 2 0 1000
  | k => changeIf (decide (9 < k)) o

/-- A kind byte changes where its kind is unknown. -/
theorem fKind_clamps (img : List Byte) (i : Nat) :
    (fKind i).clamps img = changeIf (decide (9 < fieldAt img (214 + 4 * i) 1 % 128)) (214 + 4 * i) := by
  have stored : (fKind i).value img = fitKind (fieldAt img (214 + 4 * i) 1) := rfl
  unfold Field.clamps
  rw [stored]
  by_cases known : fieldAt img (214 + 4 * i) 1 % 128 ≤ 9
  · have same : fitKind (fieldAt img (214 + 4 * i) 1) = fieldAt img (214 + 4 * i) 1 := if_pos known
    have none_ : decide (9 < fieldAt img (214 + 4 * i) 1 % 128) = false := decide_eq_false (by omega)
    rw [none_]
    exact if_pos same
  · have changed : fitKind (fieldAt img (214 + 4 * i) 1) = fieldAt img (214 + 4 * i) 1 / 128 * 128 := if_neg known
    have some_ : decide (9 < fieldAt img (214 + 4 * i) 1 % 128) = true := decide_eq_true (by omega)
    rw [some_]
    refine if_neg ?_
    rw [changed]
    show ¬ _ = fieldAt img (214 + 4 * i) 1
    omega

theorem presentRail_eq_none (img : List Byte) (a : Nat) :
    presentRail img a = none ↔ 12 ≤ a ∨ bitAt img (38 + 13 * a) 0 = false := by
  unfold presentRail railOffset
  by_cases rail : a < 12
  · simp [rail, not_le.mpr rail]
  · simp [rail, not_lt.mp rail]

theorem presentLine_eq_none (img : List Byte) (a : Nat) :
    presentLine img a = none ↔ 6 ≤ a ∨ bitAt img (194 + a) 0 = false := by
  unfold presentLine lineOffset
  by_cases line : a < 6
  · simp [line, not_le.mpr line]
  · simp [line, not_lt.mp line]

theorem stepFields_clamps (img : List Byte) (i : Nat) :
    (stepFields img i).flatMap (Field.clamps · img) ++ changeIf (parseKind img i).isNone (stepOffset i) =
      stepChanges img (214 + 4 * i) := by
  have code := stepCode_eq img i
  simp only [stepFields, List.flatMap_cons, fKind_clamps]
  unfold parseKind stepChanges
  rw [byteAt_eq, code]
  generalize kind : fieldAt img (214 + 4 * i) 1 % 128 = k
  match k with
  | 0 | 8 | 9 => rfl
  | 1 | 2 =>
    simp [fParam, presentRail_eq_none, ranged_clamps, stepOffset, changeIf]
  | 3 | 6 | 7 => simp [fParam, ranged_clamps, stepOffset, changeIf]
  | 4 | 5 => simp [fParam, presentLine_eq_none, ranged_clamps, stepOffset, changeIf]
  | n + 10 => simp [fParam, changeIf]

def classChanges (img : List Byte) (o : Nat) : List Nat :=
  outside img (o + 2) 1 0 11 ++ notAmong img (o + 3) [0, 3, 4] ++ notAmong img (o + 4) [1, 2, 4] ++
    notAmong img (o + 5) [1, 2, 4]

theorem classFields_clamps (img : List Byte) (i : Nat) :
    [fClass i, fAddrBytes i, fAddrLanes i, fDataLanes i].flatMap (Field.clamps · img) = classChanges img (726 + 6 * i) := by
  have cls : (fClass i).clamps img = outside img (classOffset i + 2) 1 0 11 := Field.clamps_outside fitClass_iff
  have bytes : (fAddrBytes i).clamps img = notAmong img (classOffset i + 3) [0, 3, 4] := Field.clamps_notAmong fitAddrBytes_iff
  have addrLanes : (fAddrLanes i).clamps img = notAmong img (classOffset i + 4) [1, 2, 4] := Field.clamps_notAmong fitLanes_iff
  have dataLanes : (fDataLanes i).clamps img = notAmong img (classOffset i + 5) [1, 2, 4] := Field.clamps_notAmong fitLanes_iff
  simp [cls, bytes, addrLanes, dataLanes, classChanges, classOffset]

def windowChanges (img : List Byte) (o : Nat) : List Nat :=
  outside img (o + 5) 1 0 5 ++
    if 1 ≤ fieldAt img (o + 5) 1 ∧ fieldAt img (o + 5) 1 ≤ 5 then
      outside img (o + 4) 1 12 28 ++
        changeIf (fieldAt img o 4 % 2 ^ max 12 (min 28 (fieldAt img (o + 4) 1)) != 0) o
    else []

/-- A base changes where it is not aligned. -/
theorem alignDown_changes (address log : Nat) : (alignDown address log != address) = (address % 2 ^ log != 0) := by
  have le := Nat.mod_le address (2 ^ log)
  rw [alignDown_eq, Bool.eq_iff_iff]
  simp only [bne_iff_ne, ne_eq]
  omega

theorem windowFields_clamps (img : List Byte) (i : Nat) :
    (windowFields img i).flatMap (Field.clamps · img) ++ windowClamps img i = windowChanges img (822 + 6 * i) := by
  have policy : (fWindowPolicy i).clamps img = outside img (822 + 6 * i + 5) 1 0 5 := Field.clamps_outside fitPolicy_iff
  have size : (fSizeLog i).clamps img = outside img (822 + 6 * i + 4) 1 12 28 := ranged_clamps img _ _ (by omega)
  unfold windowFields windowClamps windowChanges
  by_cases used : windowUsed img i = true
  · have base : (parseWindow img i).base = alignDown (fieldAt img (822 + 6 * i) 4)
        (max 12 (min 28 (fieldAt img (822 + 6 * i + 4) 1))) := congrArg Window.base (if_pos used)
    rw [if_pos ((windowUsed_iff img i).mp used), if_pos used, used, base]
    simp only [List.flatMap_cons, List.flatMap_nil, List.append_nil, policy, size, Bool.true_and, List.append_assoc]
    rw [windowOffset, alignDown_changes]
    rfl
  · have free : windowUsed img i = false := Bool.eq_false_iff.mpr used
    rw [if_neg (mt (windowUsed_iff img i).mpr used), if_neg used, free]
    simp [policy]

def timeChanges (img : List Byte) (o : Nat) : List Nat :=
  outside img o 4 1 0xFFFFFFFF ++ outside img (o + 4) 4 1 1000000 ++
    changeIf (decide (max 1 (min 1000000 (fieldAt img (o + 4) 4)) < fieldAt img o 4)) o

theorem timeFields_clamps (img : List Byte) (k : Nat) :
    [fTyp k, fMax k].flatMap (Field.clamps · img) ++ (prepareTyp img k).2 = timeChanges img (922 + 8 * k) := by
  have offset : maxOffset k = 922 + 8 * k + 4 := by unfold maxOffset; omega
  have typ : (fTyp k).clamps img = outside img (922 + 8 * k) 4 1 0xFFFFFFFF := ranged_clamps img _ _ (by omega)
  have max_ : (fMax k).clamps img = outside img (922 + 8 * k + 4) 4 1 1000000 := by
    rw [← offset]
    exact ranged_clamps img _ _ (by omega)
  have maxValue : (fMax k).value img = max 1 (min 1000000 (fieldAt img (922 + 8 * k + 4) 4)) := by
    rw [← offset]
    rfl
  have bound : (prepareTyp img k).2 =
      changeIf (decide (max 1 (min 1000000 (fieldAt img (922 + 8 * k + 4) 4)) < fieldAt img (922 + 8 * k) 4)) (922 + 8 * k) := by
    unfold prepareTyp atMost changeIf
    rw [maxValue, fTyp_value, typOffset]
    by_cases above : max 1 (min 1000000 (fieldAt img (922 + 8 * k + 4) 4)) < fieldAt img (922 + 8 * k) 4
    · rw [if_pos (by omega), if_pos (by simpa using above)]
    · rw [if_neg (by omega), if_neg (by simpa using above)]
  simp only [List.flatMap_cons, List.flatMap_nil, List.append_nil, typ, max_, bound]
  rfl

/-- A figure brought down to a bound changes where it lies above it. -/
theorem atMost_snd (bound v o : Nat) : (atMost bound v o).2 = changeIf (decide (bound < v)) o := by
  unfold atMost changeIf
  by_cases above : bound < v <;> simp [above]

theorem prepareBlock_snd (img : List Byte) :
    (prepareBlock img).2 = changeIf (decide (fBlock.value img < fSector.value img)) 919 := by
  unfold prepareBlock changeIf
  by_cases below : fBlock.value img < fSector.value img <;> simp [below]

theorem prepareBase_snd (img : List Byte) :
    (prepareBase img).2 = changeIf (fieldAt img 962 4 % 2 ^ fSector.value img != 0) 962 := by
  rw [← alignDown_changes]
  unfold prepareBase changeIf
  by_cases same : alignDown (fieldAt img 962 4) (fSector.value img) = fieldAt img 962 4 <;> simp [same]

/-- The journal is left out where its count is not 0 and becomes 0 (R164). -/
theorem prepareSectors_snd (img : List Byte) (entries : List ClassEntry) :
    (prepareSectors img entries).2 = changeIf (fieldAt img 966 1 != 0 && (prepareSectors img entries).1 == 0) 966 := by
  have stored := fSectors_zero img
  unfold prepareSectors changeIf
  by_cases zero : fSectors.value img = 0
  · simp [zero, stored.mp zero]
  · have some_ : fieldAt img 966 1 ≠ 0 := mt stored.mpr zero
    simp only [if_neg zero]
    split <;> simp [zero, some_]

end Sys2Proof.Machine

namespace Sys2Proof.Machine

/-! #### The class entries filled in -/

/-- The class at a position of a table. -/
def classAt (entries : List ClassEntry) (i : Nat) : Option FlashClass := entries[i]?.bind ClassEntry.cls

/-- A table that has been filled in from another: the positions filled, each once, are those whose class differs. -/
structure ClassTable.FilledFrom (start : List ClassEntry) (t : ClassTable) : Prop where
  length : t.entries.length = 16
  once : t.filled.Nodup
  filled : ∀ i ∈ t.filled, i < 16 ∧ classAt t.entries i ≠ classAt start i ∧ classAt t.entries i ≠ none
  kept : ∀ i, i ∉ t.filled → classAt t.entries i = classAt start i

/-- The position that receives an entry is one of the table's and has received none (R122). -/
theorem ClassTable.FilledFrom.place {start : List ClassEntry} {t : ClassTable} (h : t.FilledFrom start)
    (few : t.filled.length < 16) : t.place < 16 ∧ t.place ∉ t.filled := by
  unfold ClassTable.place
  split
  · rename_i i found
    obtain ⟨less, free, -⟩ := List.findIdx?_eq_some_iff_getElem.mp found
    refine ⟨h.length ▸ less, fun mem => (h.filled i mem).2.2 ?_⟩
    simpa [classAt, less] using free
  · cases found : (List.range 16).reverse.find? fun i => !t.filled.contains i with
    | some i =>
      have free := List.find?_some found
      have mem := List.mem_of_find?_eq_some found
      exact ⟨by simpa using mem, by simpa using free⟩
    | none =>
      have all : List.range 16 ⊆ t.filled := fun i mem => by
        simpa using List.find?_eq_none.mp found i (by simpa using mem)
      have length := (List.nodup_range (n := 16)).length_le_of_subset all
      simp at length
      omega

theorem ClassTable.FilledFrom.need {start : List ClassEntry} {t : ClassTable} (h : t.FilledFrom start)
    (few : t.filled.length < 16) (cls : FlashClass) :
    (t.need cls).FilledFrom start ∧ (t.need cls).filled.length ≤ t.filled.length + 1 := by
  obtain ⟨less, free⟩ := h.place few
  unfold ClassTable.need
  split
  · exact ⟨h, by omega⟩
  rename_i missing
  split
  · rename_i e builtin
    have cls_e : e.cls = some cls := by simpa using List.find?_some builtin
    have absent : classAt t.entries t.place ≠ some cls := by
      intro held
      obtain ⟨x, at_, class_⟩ := Option.bind_eq_some_iff.mp held
      exact missing (List.any_eq_true.mpr ⟨x, List.mem_of_getElem? at_, by simpa using class_⟩)
    have at_place : classAt (t.entries.set t.place e) t.place = some cls := by
      simp [classAt, h.length, less, cls_e]
    have elsewhere {i : Nat} (other : i ≠ t.place) : classAt (t.entries.set t.place e) i = classAt t.entries i := by
      simp [classAt, List.getElem?_set_ne other.symm]
    refine ⟨⟨by simp [h.length], ?_, fun i mem => ?_, fun i out => ?_⟩, by simp⟩
    · rw [List.nodup_append]
      exact ⟨h.once, List.nodup_singleton _, fun a mem b last same => free (by
        rw [← List.mem_singleton.mp last, ← same]; exact mem)⟩
    · rcases List.mem_append.mp mem with mem | last
      · have other : i ≠ t.place := fun same => free (same ▸ mem)
        rw [elsewhere other]
        exact h.filled i mem
      · obtain rfl := List.mem_singleton.mp last
        rw [at_place, ← h.kept _ free]
        exact ⟨less, absent.symm, by simp⟩
    · simp only [List.mem_append, List.mem_singleton, not_or] at out
      rw [elsewhere out.2]
      exact h.kept i out.1
  · exact ⟨h, by omega⟩

theorem prepareClasses_filled (img : List Byte) :
    (prepareClasses img).FilledFrom ((List.range 16).map (parseClass img)) := by
  have start : (ClassTable.mk ((List.range 16).map (parseClass img)) []).FilledFrom ((List.range 16).map (parseClass img)) :=
    ⟨by simp, by simp, nofun, fun _ _ => rfl⟩
  obtain ⟨enable, few⟩ := start.need (by simp) .writeEnable
  obtain ⟨disable, few'⟩ := enable.need (by simp at few; omega) .writeDisable
  exact (disable.need (by simp at few; omega) .statusRead).1

/-- The entries filled in are those whose class is not the one stored (R122). -/
theorem prepareClasses_changed (img : List Byte) :
    ((List.range 16).filter fun i =>
      ((prepareClasses img).entries[i]?.bind ClassEntry.cls != FlashClass.ofCode (fieldAt img (728 + 6 * i) 1))).Perm
      (prepareClasses img).filled := by
  have table := prepareClasses_filled img
  refine (List.perm_ext_iff_of_nodup (List.nodup_range.filter _) table.once).mpr fun i => ?_
  have stored (less : i < 16) : classAt ((List.range 16).map (parseClass img)) i = FlashClass.ofCode (fieldAt img (728 + 6 * i) 1) := by
    have offset : 726 + 6 * i + 2 = 728 + 6 * i := by omega
    simp [classAt, less, parseClass_eq, offset]
  rw [List.mem_filter, List.mem_range, bne_iff_ne]
  constructor
  · rintro ⟨less, differs⟩
    by_contra out
    exact differs ((table.kept i out).trans (stored less))
  · intro mem
    obtain ⟨less, differs, -⟩ := table.filled i mem
    rw [stored less] at differs
    exact ⟨less, differs⟩

/-! #### All changes -/

def levelChanges (img : List Byte) (p : Plan) : List Nat :=
  changeIf (decide (max 0 (min 261121 (fieldAt img 888 4)) < max 0 (min 261121 (fieldAt img 892 4)))) 892 ++
    changeIf (decide (p.s2 < max 0 (min 261121 (fieldAt img 896 4)))) 896

def filledEntries (img : List Byte) (p : Plan) : List Nat :=
  (List.range 16).filter fun i => p.classes[i]?.bind ClassEntry.cls != FlashClass.ofCode (fieldAt img (728 + 6 * i) 1)

def journalChanges (img : List Byte) (p : Plan) : List Nat :=
  notAmong img 966 [0, 2, 3, 4, 5, 6, 7, 8, 9, 10, 11, 12, 13, 14, 15, 16] ++
    changeIf (fieldAt img 962 4 % 2 ^ p.sectorLog != 0) 962 ++ changeIf (fieldAt img 966 1 != 0 && p.sectorCount == 0) 966

/-- The changes of stage 1, counted part by part. -/
theorem rangeClamps_count (img : List Byte) (a : Nat) :
    (rangeClamps img).count a =
      (headFields.flatMap (Field.clamps · img)).count a +
        ((List.range 12).flatMap fun i => railChanges img (38 + 13 * i)).count a +
        ((List.range 7).flatMap fun k => [fStart k, fCount k].flatMap (Field.clamps · img)).count a +
        ((List.range 128).flatMap fun i => (stepFields img i).flatMap (Field.clamps · img)).count a +
        ((List.range 16).flatMap fun i => classChanges img (726 + 6 * i)).count a +
        ((List.range 8).flatMap fun i => (windowFields img i).flatMap (Field.clamps · img)).count a +
        ((List.range 5).flatMap fun k => [fTyp k, fMax k].flatMap (Field.clamps · img)).count a := by
  simp only [rangeClamps, imageFields, List.flatMap_append, flatMap_clamps, railFields_clamps, classFields_clamps,
    List.count_append]

/-- Every change of the preparation, at the offset of its field (R184). -/
theorem allClamps_perm (img : List Byte) :
    (allClamps img).Perm
      (notAmong img 12 [5, 11] ++ headChanges img ++ (List.range 12).flatMap (fun i => railChanges img (38 + 13 * i)) ++
        (List.range 6).flatMap (lineChanges img) ++ (List.range 7).flatMap (fun k => slotChanges img (200 + 2 * k)) ++
        (List.range 128).flatMap (fun i => stepChanges img (214 + 4 * i)) ++
        (List.range 16).flatMap (fun i => classChanges img (726 + 6 * i)) ++
        (filledEntries img (preparePlan img)).map (fun i => 726 + 6 * i) ++
        (List.range 8).flatMap (fun i => windowChanges img (822 + 6 * i)) ++
        (List.range 5).flatMap (fun k => timeChanges img (922 + 8 * k)) ++ levelChanges img (preparePlan img) ++
        changeIf (decide (max 15 (min 18 (fieldAt img 919 1)) < (preparePlan img).sectorLog)) 919 ++
        journalChanges img (preparePlan img)) := by
  refine List.perm_iff_count.mpr fun a => ?_
  have head := headFields_count img a
  have slots := count_flatMap_add a 7 (slotFields_clamps img)
  have steps := count_flatMap_add a 128 (stepFields_clamps img)
  have windows := count_flatMap_add a 8 (windowFields_clamps img)
  have times := count_flatMap_add a 5 (timeFields_clamps img)
  have filled : ((filledEntries img (preparePlan img)).map fun i => 726 + 6 * i).count a =
      ((prepareClasses img).filled.map classOffset).count a := ((prepareClasses_changed img).map classOffset).count_eq a
  have levels : (levelChanges img (preparePlan img)).count a =
      (atMost (fS1.value img) (fS2.value img) 892).2.count a +
        (atMost (atMost (fS1.value img) (fS2.value img) 892).1 (fS3.value img) 896).2.count a := by
    rw [atMost_snd, atMost_snd, ← List.count_append]
    rfl
  have block : (changeIf (decide (max 15 (min 18 (fieldAt img 919 1)) < (preparePlan img).sectorLog)) 919).count a =
      (prepareBlock img).2.count a := congrArg (List.count a) (prepareBlock_snd img).symm
  have journal : (journalChanges img (preparePlan img)).count a =
      (notAmong img 966 [0, 2, 3, 4, 5, 6, 7, 8, 9, 10, 11, 12, 13, 14, 15, 16]).count a + (prepareBase img).2.count a +
        (prepareSectors img (prepareClasses img).entries).2.count a := by
    rw [prepareBase_snd, prepareSectors_snd, ← List.count_append, ← List.count_append]
    rfl
  have absent := map_filter_eq_flatMap (List.range 128) (fun i => (parseKind img i).isNone) stepOffset
  simp only [allClamps, dependentClamps, stepClamps, List.count_append, rangeClamps_count, roleDropped_lines, absent]
  omega

end Sys2Proof.Machine

namespace Sys2Proof.Machine

/-! ### The prepared plan, field by field -/

theorem parseTrim_eq (img : List Byte) (o : Nat) :
    parseTrim img o =
      if bitAt img o 7 then -((fieldAt img o 1 % 8 : Nat) : Int) else ((fieldAt img o 1 % 8 : Nat) : Int) := by
  unfold parseTrim
  rw [byteAt_eq]

theorem parseInput_eq (img : List Byte) (o : Nat) : parseInput img o = ⟨fieldAt img o 1 % 4, bitAt img o 7⟩ := by
  unfold parseInput
  rw [byteAt_eq]

/-- A rail entry as it is read (R1). -/
theorem parseRail_eq (img : List Byte) (i : Nat) :
    parseRail img i =
      { present := bitAt img (38 + 13 * i) 0, domain := if bitAt img (38 + 13 * i) 1 then .panel else .board
        timed := bitAt img (38 + 13 * i) 2, enActiveLow := bitAt img (38 + 13 * i) 3
        pgActiveLow := bitAt img (38 + 13 * i) 4, pgFilter := clampNat 0 3 (fieldAt img (38 + 13 * i + 1) 1)
        settle := clampNat 0 7 (fieldAt img (38 + 13 * i + 2) 1), riseMs := clampNat 1 255 (fieldAt img (38 + 13 * i + 3) 1)
        fallMs := clampNat 1 255 (fieldAt img (38 + 13 * i + 4) 1), powerMw := fieldAt img (38 + 13 * i + 5) 2
        shedClass := clampNat 0 3 (fieldAt img (38 + 13 * i + 7) 1)
        faultAction :=
          if fieldAt img (38 + 13 * i + 8) 1 = 0 then .log
          else if fieldAt img (38 + 13 * i + 8) 1 = 1 then .domainDown else .trip
        tag := (img.drop (38 + 13 * i + 9)).take 4 } := by
  have action : FaultAction.ofCode ((fFaultAction i).value img) = _ := faultAction_fit (fieldAt img (38 + 13 * i + 8) 1)
  simp only [parseRail, action]
  rfl

/-- The worst-case duration of a slot's sequence, from the sum of its half milliseconds (R51). -/
theorem derivedTime_eq (p : Plan) (n : SlotName) (k : StepKind → Nat) (halves : ∀ s, k s = stepHalfMs p.rails s) :
    derivedTime p.rails p.pool (p.slotRange n) =
      min 65535 ((((List.range (p.slotRange n).count).map fun i => k (p.stepAt n i).kind).sum + 1) / 2) := by
  unfold derivedTime ceilDiv
  simp only [halves]
  rfl

theorem autoResume_iff (v : Nat) : (clampNat 0 1 v == 1) = true ↔ v ≠ 0 := by
  rw [beq_iff_eq]
  unfold clampNat
  omega

theorem prepareTyp_fst (img : List Byte) (k : Nat) :
    (prepareTyp img k).1 = min ((fMax k).value img) (max 1 (fieldAt img (typOffset k) 4)) := by
  rw [prepareTyp, atMost_fst, fTyp_value]

/-- Settles O21: the ranges by `preparePlan_inRange`, each field by its reading, and the changes by `allClamps_perm`. -/
theorem preparedPlanIsInRange : Obligations.PreparedPlanIsInRange := by
  refine ⟨preparePlan_inRange, fun image => ?fields, fun image => ?clamps⟩
  case fields =>
    intro num bit fit p trim input onRail onLine kind lanes entry fill place sectors carries halves
    refine ⟨⟨rfl, unknownClass_fit _, policyOf_fit _ _, policyOf_fit _ _, rfl, rfl, rfl, rfl, parseTrim_eq _ _,
      parseTrim_eq _ _, parseTrim_eq _ _, parseTrim_eq _ _, rfl, rfl, parseInput_eq _ _, parseInput_eq _ _,
      parseInput_eq _ _, rfl, rfl, rfl⟩, fun ch => ?rails, fun l => ?lines, fun n => ?slots, ?pool, ?classes, ?windows,
      ?budget, ?rest⟩
    case rails =>
      have entry : p.rails[ch] = parseRail image ch.val := by
        change (Vector.ofFn fun i : Fin 12 => parseRail image i.val)[ch] = _
        simp
      exact entry.trans (parseRail_eq image ch.val)
    case lines =>
      have entry : p.lines[l] = prepareLine image l.val := by
        change (Vector.ofFn fun i : Fin 6 => prepareLine image i.val)[l] = _
        simp
      exact entry.trans (prepareLine_eq image l.val)
    case slots =>
      have range : p.slotRange n = parseSlot image n.code.val := by
        change (Vector.ofFn fun k : Fin 7 => parseSlot image k.val)[n.code] = _
        simp
      have next : slotOffset n.code.val + 1 = 201 + 2 * n.code.val := by unfold slotOffset; omega
      have counted : parseSlot image n.code.val =
          ⟨clampNat 0 127 (fieldAt image (200 + 2 * n.code.val) 1), clampNat 0 24 (fieldAt image (slotOffset n.code.val + 1) 1)⟩ :=
        rfl
      rw [range, counted, next]
      rfl
    case pool =>
      refine List.map_congr_left fun i _ => ?_
      exact congrArg (fun k => Step.mk k (bit (214 + 4 * i) 7)) (parseKind_getD image i)
    case classes =>
      have entries : parseClass image = entry := funext fun i => parseClass_eq image i
      have table := congrArg Prod.fst (prepareClasses_eq image)
      rw [entries] at table
      exact table
    case windows => exact List.map_congr_left fun i _ => parseWindow_eq image i
    case budget =>
      refine ⟨rfl, rfl, rfl, rfl, rfl, rfl, rfl, rfl, rfl, ?_, ?_, rfl, rfl, rfl, rfl, rfl, rfl, autoResume_iff _⟩
      · exact atMost_fst _ _ _
      · exact atMost_fst _ _ _
    case rest =>
      have times (n : SlotName) : derivedTime p.rails p.pool (p.slotRange n) = min 65535 ((halves n + 1) / 2) :=
        derivedTime_eq p n _ fun k => (stepHalfMs_eq p k).symm
      have carried (cls : FlashClass) : classCarries p.classes cls
          ((prepareBase image).1 + clampNat 2 16 (fieldAt image 966 1) * 2 ^ fSector.value image - 1) = carries cls :=
        classCarries_eq p cls _
      have panel : p.tPanelSwift = derivedTime p.rails p.pool (p.slotRange .panelSwift) := rfl
      have board : p.tBoardSwift = derivedTime p.rails p.pool (p.slotRange .boardSwift) := rfl
      refine ⟨rfl, rfl, rfl, rfl, prepareBlock_fst image, rfl, fun op => ?_, alignDown_eq _ _, ?_, rfl, rfl, ?_, ?_⟩
      · cases op with
        | program => exact ⟨rfl, prepareTyp_fst image 0⟩
        | eraseSector => exact ⟨rfl, prepareTyp_fst image 1⟩
        | eraseBlock => exact ⟨rfl, prepareTyp_fst image 2⟩
        | eraseDevice => exact ⟨rfl, prepareTyp_fst image 3⟩
        | regWrite => exact ⟨rfl, prepareTyp_fst image 4⟩
      · exact (prepareSectors_fst image p.classes).trans (by simp only [carried]; rfl)
      · exact panel.trans (times .panelSwift)
      · exact board.trans (times .boardSwift)
  case clamps => exact allClamps_perm image

end Sys2Proof.Machine
